-- ==== Sys2Proof/Word.lean ====
section
/-! DEFINITION. The byte of the Closure Link and the plainest arithmetic of the specification (00_scope.md, 6.2):
clamping, saturating counts, and the most-significant-byte-first layout of whole numbers (R165). -/

namespace Sys2Proof

/-- One byte on a Closure Link. -/
abbrev Byte := BitVec 8

/-- A Boolean as the number 1 or 0. -/
def bit (b : Bool) : Nat := if b then 1 else 0

/-- A count that stops at `top` (6.2, "saturating"). -/
def satAdd (top n k : Nat) : Nat := min top (n + k)

/-- A result below the range takes the lowest value, a result above it the highest (6.2, "clamped"). -/
def clamp (lo hi z : Int) : Int := max lo (min hi z)

/-- The step of a signed quantity `d` moved right by `s` places with the last bit shifted out added (R115, R130):
`d / 2^s` rounded to the nearest integer, a half towards plus infinity. -/
def roundedShift (d : Int) (s : Nat) : Int := d / (2 ^ s : Nat) + (d / (2 ^ (s - 1) : Nat)) % 2

/-- A whole number in one byte. -/
def u8 (n : Nat) : List Byte := [BitVec.ofNat 8 n]

/-- A whole number in two bytes, most significant first. -/
def u16 (n : Nat) : List Byte := [BitVec.ofNat 8 (n / 256), BitVec.ofNat 8 n]

/-- A whole number in three bytes, most significant first. -/
def u24 (n : Nat) : List Byte := BitVec.ofNat 8 (n / 65536) :: u16 n

/-- A whole number in four bytes, most significant first. -/
def u32 (n : Nat) : List Byte := u16 (n / 65536) ++ u16 n

/-- A signed whole number in two bytes, two's complement. -/
def i16 (z : Int) : List Byte := u16 (z % 65536).toNat

/-- The whole number that bytes spell, most significant first. -/
def ofBytes (bs : List Byte) : Nat := bs.foldl (fun n b => 256 * n + b.toNat) 0

/-- The signed number a two-byte value spells. -/
def signed16 (n : Nat) : Int := if n < 32768 then (n : Int) else (n : Int) - 65536

end Sys2Proof
end

