-- ==== Sys2Proof/Syntax.lean ====
section
/-! DEFINITION. The names of the part (00_scope.md, section 4), tables over them, and the commands: one constructor of
`Instr` for each row of spec/opcode_table.json. A request row carries the port it arrived on, its tag and its payload
bytes, as the port engine hands a whole frame to the request decoder (R163, R167); the other rows are events at a line,
a timer or a measurement, and carry what names and measures the event. -/

namespace Sys2Proof

variable {α β : Type}

/-- The three Closure Link ports (3.2). -/
inductive Port | b | k | d
deriving DecidableEq, Repr

/-- The five closures (4.1). -/
inductive Closure | fd | fp | rd | rp | tg
deriving DecidableEq, Repr

/-- The four side closures (4.1). -/
inductive Side | fd | fp | rd | rp
deriving DecidableEq, Repr

/-- The rear closures, which have child locks (4.1). -/
inductive Rear | rd | rp
deriving DecidableEq, Repr

/-- The four windows (4.1). -/
inductive Window | wfd | wfp | wrd | wrp
deriving DecidableEq, Repr

/-- The side closures other than the driver-side one: those with a local window switch (4.3), and the targets of
UNLOCK_ONE (R20). -/
inductive OtherSide | fp | rd | rp
deriving DecidableEq, Repr

/-- The touch sources (5.1). -/
inductive TouchSource | fdOpen | fdLock | fpOpen | fpLock | tgButton
deriving DecidableEq, Repr

/-- Window switch positions (4.3). -/
inductive SwitchPos | neutral | up | upAuto | down | downAuto
deriving DecidableEq, Repr

/-- A latch line reading (4.3). -/
inductive LatchLevel | closed | ajar
deriving DecidableEq, Repr

/-- Child lock positions (R1). -/
inductive ChildState | engaged | released
deriving DecidableEq, Repr

/-- The actuator channels: L1 to L5 are `l fd` to `l tg`, C1 and C2 are `c rd` and `c rp` (4.2). -/
inductive Actuator
  | l (c : Closure)
  | c (r : Rear)
  | t1
deriving DecidableEq, Repr

/-- The twelve output channels: W1 to W4 are `w wfd` to `w wrp` (4.2). -/
inductive Channel
  | w (w : Window)
  | act (a : Actuator)
deriving DecidableEq, Repr

/-- A value for each port. -/
structure Ports (α : Type) where
  b : α
  k : α
  d : α
deriving DecidableEq, Repr

/-- A value for each closure. -/
structure Closures (α : Type) where
  fd : α
  fp : α
  rd : α
  rp : α
  tg : α
deriving DecidableEq, Repr

/-- A value for each side closure. -/
structure Sides (α : Type) where
  fd : α
  fp : α
  rd : α
  rp : α
deriving DecidableEq, Repr

/-- A value for each rear closure. -/
structure Rears (α : Type) where
  rd : α
  rp : α
deriving DecidableEq, Repr

/-- A value for each window. -/
structure Windows (α : Type) where
  wfd : α
  wfp : α
  wrd : α
  wrp : α
deriving DecidableEq, Repr

/-- A value for each of FP, RD and RP. -/
structure Switches (α : Type) where
  fp : α
  rd : α
  rp : α
deriving DecidableEq, Repr

/-- A value for each touch source. -/
structure Touches (α : Type) where
  fdOpen : α
  fdLock : α
  fpOpen : α
  fpLock : α
  tgButton : α
deriving DecidableEq, Repr

/-- A value for each actuator channel. -/
structure Actuators (α : Type) where
  l : Closures α
  c : Rears α
  t1 : α
deriving DecidableEq, Repr

/-- A value for each output channel. -/
structure Channels (α : Type) where
  w : Windows α
  act : Actuators α
deriving DecidableEq, Repr

/-- The entry of a table. -/
def Ports.get (t : Ports α) : Port → α
  | .b => t.b
  | .k => t.k
  | .d => t.d

/-- A table with one entry replaced. -/
def Ports.set (t : Ports α) (i : Port) (v : α) : Ports α :=
  match i with
  | .b => { t with b := v }
  | .k => { t with k := v }
  | .d => { t with d := v }

/-- The table with a function applied to each entry. -/
def Ports.map (f : α → β) (t : Ports α) : Ports β := ⟨f t.b, f t.k, f t.d⟩

/-- The table with one value everywhere. -/
def Ports.all (v : α) : Ports α := ⟨v, v, v⟩

/-- The order of the specification. -/
def Port.list : List Port := [.b, .k, .d]

/-- The entry of a table. -/
def Closures.get (t : Closures α) : Closure → α
  | .fd => t.fd
  | .fp => t.fp
  | .rd => t.rd
  | .rp => t.rp
  | .tg => t.tg

/-- A table with one entry replaced. -/
def Closures.set (t : Closures α) (i : Closure) (v : α) : Closures α :=
  match i with
  | .fd => { t with fd := v }
  | .fp => { t with fp := v }
  | .rd => { t with rd := v }
  | .rp => { t with rp := v }
  | .tg => { t with tg := v }

/-- The table with a function applied to each entry. -/
def Closures.map (f : α → β) (t : Closures α) : Closures β := ⟨f t.fd, f t.fp, f t.rd, f t.rp, f t.tg⟩

/-- The table with one value everywhere. -/
def Closures.all (v : α) : Closures α := ⟨v, v, v, v, v⟩

/-- The order of the specification. -/
def Closure.list : List Closure := [.fd, .fp, .rd, .rp, .tg]

/-- The entry of a table. -/
def Sides.get (t : Sides α) : Side → α
  | .fd => t.fd
  | .fp => t.fp
  | .rd => t.rd
  | .rp => t.rp

/-- A table with one entry replaced. -/
def Sides.set (t : Sides α) (i : Side) (v : α) : Sides α :=
  match i with
  | .fd => { t with fd := v }
  | .fp => { t with fp := v }
  | .rd => { t with rd := v }
  | .rp => { t with rp := v }

/-- The table with a function applied to each entry. -/
def Sides.map (f : α → β) (t : Sides α) : Sides β := ⟨f t.fd, f t.fp, f t.rd, f t.rp⟩

/-- The table with one value everywhere. -/
def Sides.all (v : α) : Sides α := ⟨v, v, v, v⟩

/-- The order of the specification. -/
def Side.list : List Side := [.fd, .fp, .rd, .rp]

/-- The entry of a table. -/
def Rears.get (t : Rears α) : Rear → α
  | .rd => t.rd
  | .rp => t.rp

/-- A table with one entry replaced. -/
def Rears.set (t : Rears α) (i : Rear) (v : α) : Rears α :=
  match i with
  | .rd => { t with rd := v }
  | .rp => { t with rp := v }

/-- The table with a function applied to each entry. -/
def Rears.map (f : α → β) (t : Rears α) : Rears β := ⟨f t.rd, f t.rp⟩

/-- The table with one value everywhere. -/
def Rears.all (v : α) : Rears α := ⟨v, v⟩

/-- The order of the specification. -/
def Rear.list : List Rear := [.rd, .rp]

/-- The entry of a table. -/
def Windows.get (t : Windows α) : Window → α
  | .wfd => t.wfd
  | .wfp => t.wfp
  | .wrd => t.wrd
  | .wrp => t.wrp

/-- A table with one entry replaced. -/
def Windows.set (t : Windows α) (i : Window) (v : α) : Windows α :=
  match i with
  | .wfd => { t with wfd := v }
  | .wfp => { t with wfp := v }
  | .wrd => { t with wrd := v }
  | .wrp => { t with wrp := v }

/-- The table with a function applied to each entry. -/
def Windows.map (f : α → β) (t : Windows α) : Windows β := ⟨f t.wfd, f t.wfp, f t.wrd, f t.wrp⟩

/-- The table with one value everywhere. -/
def Windows.all (v : α) : Windows α := ⟨v, v, v, v⟩

/-- The order of the specification. -/
def Window.list : List Window := [.wfd, .wfp, .wrd, .wrp]

/-- The entry of a table. -/
def Switches.get (t : Switches α) : OtherSide → α
  | .fp => t.fp
  | .rd => t.rd
  | .rp => t.rp

/-- A table with one entry replaced. -/
def Switches.set (t : Switches α) (i : OtherSide) (v : α) : Switches α :=
  match i with
  | .fp => { t with fp := v }
  | .rd => { t with rd := v }
  | .rp => { t with rp := v }

/-- The table with a function applied to each entry. -/
def Switches.map (f : α → β) (t : Switches α) : Switches β := ⟨f t.fp, f t.rd, f t.rp⟩

/-- The table with one value everywhere. -/
def Switches.all (v : α) : Switches α := ⟨v, v, v⟩

/-- The order of the specification. -/
def OtherSide.list : List OtherSide := [.fp, .rd, .rp]

/-- The entry of a table. -/
def Touches.get (t : Touches α) : TouchSource → α
  | .fdOpen => t.fdOpen
  | .fdLock => t.fdLock
  | .fpOpen => t.fpOpen
  | .fpLock => t.fpLock
  | .tgButton => t.tgButton

/-- A table with one entry replaced. -/
def Touches.set (t : Touches α) (i : TouchSource) (v : α) : Touches α :=
  match i with
  | .fdOpen => { t with fdOpen := v }
  | .fdLock => { t with fdLock := v }
  | .fpOpen => { t with fpOpen := v }
  | .fpLock => { t with fpLock := v }
  | .tgButton => { t with tgButton := v }

/-- The table with a function applied to each entry. -/
def Touches.map (f : α → β) (t : Touches α) : Touches β := ⟨f t.fdOpen, f t.fdLock, f t.fpOpen, f t.fpLock, f t.tgButton⟩

/-- The table with one value everywhere. -/
def Touches.all (v : α) : Touches α := ⟨v, v, v, v, v⟩

/-- The order of the specification. -/
def TouchSource.list : List TouchSource := [.fdOpen, .fdLock, .fpOpen, .fpLock, .tgButton]

/-- The entry of a table. -/
def Actuators.get (t : Actuators α) : Actuator → α
  | .l c => t.l.get c
  | .c r => t.c.get r
  | .t1 => t.t1

/-- A table with one entry replaced. -/
def Actuators.set (t : Actuators α) (i : Actuator) (v : α) : Actuators α :=
  match i with
  | .l c => { t with l := t.l.set c v }
  | .c r => { t with c := t.c.set r v }
  | .t1 => { t with t1 := v }

/-- The table with one value everywhere. -/
def Actuators.all (v : α) : Actuators α := ⟨.all v, .all v, v⟩

/-- The channel order L1 to L5, C1, C2, T1 (R27). -/
def Actuator.list : List Actuator := Closure.list.map .l ++ Rear.list.map .c ++ [.t1]

/-- The entry of a table. -/
def Channels.get (t : Channels α) : Channel → α
  | .w w => t.w.get w
  | .act a => t.act.get a

/-- A table with one entry replaced. -/
def Channels.set (t : Channels α) (i : Channel) (v : α) : Channels α :=
  match i with
  | .w w => { t with w := t.w.set w v }
  | .act a => { t with act := t.act.set a v }

/-- The table with one value everywhere. -/
def Channels.all (v : α) : Channels α := ⟨.all v, .all v⟩

/-- The channel order W1 to W4, L1 to L5, C1, C2, T1 (R150). -/
def Channel.list : List Channel := Window.list.map .w ++ Actuator.list.map .act

/-- The lines of the debounce stage; the LOCK and SUPER pair of a side closure is one of them, and so is the line set of
a local window switch (R5, R6, R71, R91). -/
inductive Line
  | latch (c : Closure)
  | feedback (c : Closure)
  | child (r : Rear)
  | handle (c : Side)
  | keyLock
  | keyUnlock
  | touch (t : TouchSource)
  | localSwitch (w : OtherSide)
deriving DecidableEq, Repr

/-- A raw level at an input pin (4.3). -/
inductive RawReading
  | latch (c : Closure) (level : LatchLevel)
  | lockLine (c : Side) (high : Bool)
  | superLine (c : Side) (high : Bool)
  | tgFeedback (locked : Bool)
  | child (r : Rear) (level : ChildState)
  | handle (c : Side) (pulled : Bool)
  | keyLock (closed : Bool)
  | keyUnlock (closed : Bool)
  | touch (t : TouchSource) (on : Bool)
  | localSwitch (w : OtherSide) (pos : SwitchPos)
deriving DecidableEq, Repr

/-- What the weak test bias finds on a channel's output legs (R153). -/
structure Finding where
  /-- some leg is held near the supply against the bias -/
  nearSupply : Bool
  /-- some leg is held near ground against the bias -/
  nearGround : Bool
deriving DecidableEq, Repr

/-- The commands: one constructor for each row of spec/opcode_table.json, in its order. -/
inductive Instr
  /-- RAW_LINE_CHANGE (R5). A raw change of a closure, touch, key, handle or local switch line restarts that line's 20 ms stability timer. -/
  | rawLineChange (r : RawReading)
  /-- DEBOUNCE_EXPIRY (R5). A line's stability timer expires and the raw level is compared with the debounced level, giving an initial level, a change event or a glitch. -/
  | debounceExpiry (l : Line)
  /-- CRASH_LINE_CHANGE (R44). An assertion or release of the crash input line moves the crash line detector and starts or stops its 2 ms timer. -/
  | crashLineChange (asserted : Bool)
  /-- CRASH_DETECTOR_TIMER (R44). The 2 ms detector timer expires, giving a crash event from ASSERTING or returning to RELEASED from RELEASING. -/
  | crashDetectorTimer
  /-- CRASH_PULSE_END (R48). A crash pulse timer expires, the output is switched off and the crash operation enters its 30 ms SETTLE. -/
  | crashPulseEnd (c : Closure)
  /-- CRASH_SETTLE_END (R48). A crash SETTLE ends and the operation succeeds, drives again or fails, and an emptied crash set lets the queue head be tried. -/
  | crashSettleEnd (c : Closure)
  /-- POWER_ON (R172). The supply rises through 5 V and every block takes its full-reset values, with RESTARTED raised with cause POWER_ON. -/
  | powerOn (temp : Int) (v : Nat)
  /-- RESET_LINE_ASSERT (R172). Assertion of the reset line holds the device in its full-reset state with no outputs driven and ports discarding bytes. -/
  | resetLineAssert
  /-- RESET_LINE_RELEASE (R172). Release of the reset line brings every block to its full-reset values and raises RESTARTED with cause RESET_LINE. -/
  | resetLineRelease (temp : Int) (v : Nat)
  /-- FRAME_DISCARDED (R163). A frame with a bad length byte or a bad check byte is discarded unanswered and the port engine returns to IDLE. -/
  | frameDiscarded (p : Port)
  /-- INTER_BYTE_TIMEOUT (R163). The 5 ms inter-byte timer expires in RECEIVING and the partial frame is discarded. -/
  | interByteTimeout (p : Port)
  /-- RESPONSE_SENT (R163). The check byte of a response has been sent and the port engine returns from ANSWERING to IDLE. -/
  | responseSent (p : Port)
  /-- LOCK (R21). Port B requests a lock command, which passes the acceptance checks and queue steps and is answered OK, MERGED or a refusal. -/
  | lock (p : Port) (tag : Byte) (payload : List Byte)
  /-- CENTRAL_TOGGLE (R21). Port D's central lock button is turned by the central lock mode into LOCK_ALL or UNLOCK_ALL, or refused with SUPERLOCKED. -/
  | centralToggle (p : Port) (tag : Byte) (payload : List Byte)
  /-- CHILD_SET (R40). Port B or D requests a child lock state for RD or RP as a CHILD_SET command. -/
  | childSet (p : Port) (tag : Byte) (payload : List Byte)
  /-- CREDENTIAL (R57). Port K forwards a fob button frame, judged by slot status, counter, right and action. -/
  | credential (p : Port) (tag : Byte) (payload : List Byte)
  /-- PASSIVE_CLAIM (R76). Port K claims a touch with a fob's slot, counter and zone, judged through touch window, slot, right, counter, zone and action. -/
  | passiveClaim (p : Port) (tag : Byte) (payload : List Byte)
  /-- WINDOW_SWITCH (R89). Port D reports a window switch position, which is recorded and judged as a NEUTRAL event or a press. -/
  | windowSwitch (p : Port) (tag : Byte) (payload : List Byte)
  /-- REAR_LOCKOUT (R92). Port D sets or clears the rear lockout flag. -/
  | rearLockout (p : Port) (tag : Byte) (payload : List Byte)
  /-- COMFORT (R101). Port B asks for comfort close, open or stop of all windows under holder COMFORT_B. -/
  | comfort (p : Port) (tag : Byte) (payload : List Byte)
  /-- VEHICLE_MODE (R88). Port B writes the vehicle mode, which starts, stops or leaves the retained-power timer. -/
  | vehicleMode (p : Port) (tag : Byte) (payload : List Byte)
  /-- CRASH_CLEAR (R52). Port B asks to clear the crash latch, answered CRASH_ACTIVE unless the detector is RELEASED. -/
  | crashClear (p : Port) (tag : Byte) (payload : List Byte)
  /-- WINDOW_RESTORE (R166). Port B sends one segment of a window context restore into the restore staging record. -/
  | windowRestore (p : Port) (tag : Byte) (payload : List Byte)
  /-- WINDOW_FORGET (R134). Port B forgets a window's references, normalisation or both when the window is IDLE or INHIBITED. -/
  | windowForget (p : Port) (tag : Byte) (payload : List Byte)
  /-- WINDOW_CONTEXT_READ (R132). Port B reads a segment of a window context snapshot. -/
  | windowContextRead (p : Port) (tag : Byte) (payload : List Byte)
  /-- TRACE_TRIGGER (R142). Port B asks for a REQUESTED trace trigger on a running window. -/
  | traceTrigger (p : Port) (tag : Byte) (payload : List Byte)
  /-- TRACE_READ (R144). Port B reads the next part of the record under the read cursor, freeing the buffer after its last part. -/
  | traceRead (p : Port) (tag : Byte) (payload : List Byte)
  /-- TRACE_REWIND (R145). Port B sets the read cursor back to part 0 of the record under read. -/
  | traceRewind (p : Port) (tag : Byte) (payload : List Byte)
  /-- TRACE_CLEAR (R147). Port B frees every record buffer, empties the capture queue and clears the cursor. -/
  | traceClear (p : Port) (tag : Byte) (payload : List Byte)
  /-- TIME_TAG_RESET (R146). Port B sets the trace time tag to 0. -/
  | timeTagReset (p : Port) (tag : Byte) (payload : List Byte)
  /-- TRACE_STATUS (R148). Port B reads the buffer counts, sequence number, time tag, cursor and filling records. -/
  | traceStatus (p : Port) (tag : Byte) (payload : List Byte)
  /-- CLEAR_FAULT (R156). Port B clears a channel's withdrawal and resets its results to NOT_TESTED, unless a crash operation runs on it. -/
  | clearFault (p : Port) (tag : Byte) (payload : List Byte)
  /-- CLEAR_STATUS (R157). Port B clears the named sticky summary flags. -/
  | clearStatus (p : Port) (tag : Byte) (payload : List Byte)
  /-- DIAG_STATUS (R161). Port B reads a segment of the diagnostic snapshot of channels, heat counts, flags, temperature and supply. -/
  | diagStatus (p : Port) (tag : Byte) (payload : List Byte)
  /-- CONFIG_WRITE (R170). Port B writes one configuration item, each reader applying the value at its own moment. -/
  | configWrite (p : Port) (tag : Byte) (payload : List Byte)
  /-- CONFIG_READ (R170). Port B reads one configuration item and its group's freeze state. -/
  | configRead (p : Port) (tag : Byte) (payload : List Byte)
  /-- CONFIG_FREEZE (R171). Port B freezes a configuration group against further writes. -/
  | configFreeze (p : Port) (tag : Byte) (payload : List Byte)
  /-- FOB_WRITE (R55). Port B writes a fob slot's status, counter and rights, clearing candidate, streak and last_accepted. -/
  | fobWrite (p : Port) (tag : Byte) (payload : List Byte)
  /-- FOB_READ (R56). Port B reads a fob slot. -/
  | fobRead (p : Port) (tag : Byte) (payload : List Byte)
  /-- SOFT_RESET (R172). Port B requests a soft reset, answered OK and taken when its response has been sent. -/
  | softReset (p : Port) (tag : Byte) (payload : List Byte)
  /-- CLOSURE_STATUS (R17). Any port reads a snapshot of the closure table, central lock mode and crash latch. -/
  | closureStatus (p : Port) (tag : Byte) (payload : List Byte)
  /-- WINDOW_STATUS (R105). Any port reads a segment of the window records snapshot. -/
  | windowStatus (p : Port) (tag : Byte) (payload : List Byte)
  /-- READ_NOTICES (R169). A port reads its notice mask and the detail of one named notice. -/
  | readNotices (p : Port) (tag : Byte) (payload : List Byte)
  /-- ACK_NOTICES (R169). A port removes the named notices from its set and empties their details. -/
  | ackNotices (p : Port) (tag : Byte) (payload : List Byte)
  /-- COMMAND_START (R24). The pending head starts when allowed, writing goals and creating actuator operations. -/
  | commandStart
  /-- SLOT_GRANT (R27). A free drive slot is granted to the first waiting operation in channel order. -/
  | slotGrant
  /-- PULSE_END (R29). An operation's pulse timer expires, the output is switched off, the slot released and SETTLE begins. -/
  | pulseEnd (a : Actuator)
  /-- SETTLE_END (R29). SETTLE ends and the operation compares sensed value and goal to succeed, retry or fail. -/
  | settleEnd (a : Actuator)
  /-- HEAT_TICK (R32). The 500 ms tick decreases each non-zero heat count by 1. -/
  | heatTick
  /-- RELOCK_TIMER_EXPIRY (R39). The relock timer expires and a LOCK_ALL with source RELOCK is offered to the acceptance checks. -/
  | relockTimerExpiry
  /-- CANDIDATE_EXPIRY (R61). A resync candidate reaches its expiry time and is removed from the slot. -/
  | candidateExpiry (slot : Fin 8)
  /-- KEEP_ALIVE_EXPIRY (R67). The comfort keep-alive timer expires, the session ends and its runs are stopped. -/
  | keepAliveExpiry
  /-- TOUCH_WINDOW_EXPIRY (R74). The 400 ms timer of a WAITING entry expires and the entry becomes EXPIRED. -/
  | touchWindowExpiry (t : TouchSource)
  /-- TOUCH_HOLD_EXPIRY (R74). The 2 s timer of an EXPIRED entry expires and the entry becomes IDLE. -/
  | touchHoldExpiry (t : TouchSource)
  /-- RIPPLE_PULSE (R87). A ripple pulse moves a normalised window's position, restarts its stall timer and updates the ripple timing. -/
  | ripplePulse (w : Window)
  /-- WINDOW_SAMPLE (R111). A 2 ms sample of a driven window runs the pinch computation stages and hands on its results. -/
  | windowSample (w : Window) (i v : Nat)
  /-- START_WINDOW_END (R97). The 150 ms start window of a run or REVERSE ends, possibly taking a stall that fell inside it. -/
  | startWindowEnd (w : Window)
  /-- STALL_TIMER_EXPIRY (R97). The 80 ms stall timer runs out after the start window and a stall is taken and judged. -/
  | stallTimerExpiry (w : Window)
  /-- DWELL_END (R96). The 50 ms DWELL timer expires and the pending run or REVERSE starts. -/
  | dwellEnd (w : Window)
  /-- BRAKE_END (R99). The 50 ms brake at the end of a run ends and the bridge is switched off. -/
  | brakeEnd (w : Window)
  /-- PANEL_REFRESH_EXPIRY (R89). The 200 ms panel refresh timer expires, panel_position becomes NEUTRAL and a NEUTRAL event from PANEL is taken. -/
  | panelRefreshExpiry (w : Window)
  /-- RETAINED_POWER_EXPIRY (R88). The retained-power timer expires while PARKED and window power ends. -/
  | retainedPowerExpiry
  /-- ACTUATOR_CURRENT_MEASUREMENT (R154). A 1 ms current measurement of a driven L, C or T1 channel updates its overcurrent count. -/
  | actuatorCurrentMeasurement (a : Actuator) (code : Nat)
  /-- OPEN_LOAD_JUDGEMENT (R152). At 20 ms into a drive the open-load judgement is made and a clean drive sets overcurrent NORMAL. -/
  | openLoadJudgement (ch : Channel)
  /-- OFF_STATE_TICK (R153). The 1,000 ms tick tests every OFF channel for shorts to supply and ground. -/
  | offStateTick (findings : Channels Finding)
  /-- TEMPERATURE_MEASUREMENT (R158). A 10 ms die temperature measurement judges the temperature state and hands each change to its readers. -/
  | temperatureMeasurement (t : Int)
  /-- SUPPLY_MEASUREMENT (R160). A 1 ms supply measurement judges the supply state and hands each change to its readers. -/
  | supplyMeasurement (v : Nat)
  /-- LINK_BYTE_RECEIVED (R163). A byte arrives on a port's link: in IDLE a sync byte 5Ch starts a frame and moves the engine to RECEIVING, and in RECEIVING each byte restarts the 5 ms inter-byte timer. -/
  | linkByteReceived (p : Port) (b : Byte)
  /-- UNKNOWN_KIND_REQUEST (R167). A whole frame with a good check byte whose kind byte is unknown is answered FORMAT by the request decoder. -/
  | unknownKindRequest (p : Port) (tag kind : Byte) (payload : List Byte)
deriving DecidableEq, Repr

end Sys2Proof
end

