-- ==== Sys2Proof/Decode.lean ====
section
/-! DEFINITION. The words of the command table. spec/opcode_table.json gives no row any bits (every "fields" list is
empty and no row has a fixed word), so no word spells a command: `decodeTableWord` answers none for every word. The
bytes of a request frame are read by the port engine and the request decoder (R163, R167) in
Sys2Proof/Machine/Ports.lean. -/

namespace Sys2Proof

/-- The command that a word of the table's bits spells: the table gives bits to no row. -/
def decodeTableWord (_nbits _w : Nat) : Option Instr := none

end Sys2Proof
end

