-- ==== Sys2Proof/Config.lean ====
section
/-! DEFINITION. The intervals of the part in ticks of its 0.1 ms timebase (TYP values, 00_scope.md 6.4), the fixed
limits of the rules, and the one free value of the model. -/

namespace Sys2Proof.Config

/-- A number of milliseconds in ticks: one tick of `State.now` is 0.1 ms, the unit of a ripple interval (6.3). -/
def ms (n : Nat) : Nat := 10 * n

/-- A number of seconds in ticks. -/
def sec (n : Nat) : Nat := 10000 * n

/-- R5: stability time of the debounce stage. -/
def debounceTime : Nat := ms 20
/-- R44: assertion and release time of the crash line. -/
def crashFilter : Nat := ms 2
/-- R26: SETTLE. -/
def settleTime : Nat := ms 30
/-- R32: heat count decrement period. -/
def heatPeriod : Nat := ms 500
/-- R33: the repeat window. -/
def repeatWindow : Nat := sec 3
/-- R58: the duplicate window. -/
def duplicateWindow : Nat := sec 1
/-- R61: lifetime of a resync candidate. -/
def candidateLife : Nat := sec 10
/-- R67: comfort keep-alive. -/
def keepAlive : Nat := ms 300
/-- R72: touch window. -/
def touchWindow : Nat := ms 400
/-- R72: hold of an expired touch window. -/
def touchHold : Nat := sec 2
/-- R96: start window of a run or REVERSE. -/
def startWindow : Nat := ms 150
/-- R97: stall time. -/
def stallTime : Nat := ms 80
/-- R96: DWELL. -/
def dwellTime : Nat := ms 50
/-- R99: brake at the end of a run. -/
def brakeTime : Nat := ms 50
/-- R89: panel refresh time. -/
def panelRefresh : Nat := ms 200
/-- R88: retained power. -/
def retainedPower : Nat := sec 45
/-- R152: the open-load judgement point of a drive. -/
def openLoadPoint : Nat := ms 20
/-- R153: off-state test period. -/
def offStatePeriod : Nat := ms 1000
/-- R163: inter-byte timeout. -/
def interByte : Nat := ms 5

/-- R54: counter arithmetic is modulo this number. -/
def counterModulus : Nat := 16777216

/-- R122: the fifth clamped sample declares a pinch and completes the overcurrent count in one event, and the
specification leaves open which of the two the window takes first. FREE VALUE, log entry 1: no body, one value for each
such event (the argument is the number of such events so far, `State.freeCount`). -/
opaque pinchTakenFirst : Nat → Bool

end Sys2Proof.Config
end

