-- ==== Sys2Proof/Machine/State.lean ====
section
/-! DEFINITION. The state of the Ampilo DX45, block by block as 00_scope.md section 3 lists the owners: plain data
throughout. Times are ticks of 0.1 ms of the part's own timebase; a running timer is the tick at which it runs out. -/

namespace Sys2Proof.Machine
open Sys2Proof

/-! ### Closure table (chapter 1) -/

/-- R1: debounced latch line. -/
inductive Latch | closed | ajar | unknown
deriving DecidableEq, Repr

/-- R1: a lock position, the values of lock_goal. -/
inductive LockPos | unlocked | locked | superlocked
deriving DecidableEq, Repr

/-- R6: a reading of the lock feedback. -/
inductive Sensed | unlocked | locked | superlocked | invalid
deriving DecidableEq, Repr

/-- R1: the values of last_source. -/
inductive LastSource
  | b
  | kFob (slot : Fin 8)
  | kPassive (slot : Fin 8)
  | dButton
  | key
  | knob
  | innerHandle
  | relock
  | crash
  | reset
deriving DecidableEq, Repr

/-- R1: a closure record. Its op is the operation on the closure's L channel, `Sequencer.ops`. -/
structure ClosureRec where
  latch : Latch
  lockSensed : Sensed
  lockGoal : LockPos
  confirmed : Bool
  lastSource : LastSource
deriving DecidableEq, Repr

/-- R1: the child sub-record of RD and RP. Its child_op is the operation on C1 or C2, `Sequencer.ops`. -/
structure ChildRec where
  goal : ChildState
  sensed : ChildState
  confirmed : Bool
deriving DecidableEq, Repr

/-- R6: the LOCK and SUPER lines of a closure as they stand at the pins (TG has no SUPER line). -/
structure LockPins where
  lock : Bool
  sup : Bool
deriving DecidableEq, Repr

/-- R5: the debounce stage of a line whose debounced level is held in the closure record: the raw level, whether a first
stable reading has been taken since the full reset, and the stability timer. -/
structure Feed (α : Type) where
  raw : α
  read : Bool
  timer : Option Nat
deriving DecidableEq, Repr

/-- R5: the debounce stage of a line: raw level, debounced level (none while undefined) and stability timer. -/
structure Stage (α : Type) where
  raw : α
  level : Option α
  timer : Option Nat
deriving DecidableEq, Repr

/-- All lines of the debounce stage (R5, R6, R71, R91). -/
structure Sensing where
  latch : Closures (Feed LatchLevel)
  feedback : Closures (Feed LockPins)
  child : Rears (Feed ChildState)
  handle : Sides (Stage Bool)
  keyLock : Stage Bool
  keyUnlock : Stage Bool
  touch : Touches (Stage Bool)
  switch : Switches (Stage SwitchPos)
deriving DecidableEq, Repr

/-! ### Lock sequencer (chapter 2) -/

/-- R20: a command kind with its target. -/
inductive CmdKind
  | lockAll
  | superlockAll
  | unlockAll
  | unlockDriver
  | unlockOne (c : OtherSide)
  | unlockTailgate
  | releaseTailgate
  | childSet (r : Rear) (st : ChildState)
deriving DecidableEq, Repr

/-- R21: the source of a lock command. -/
inductive CmdSource
  | b
  | kFob (slot : Fin 8)
  | kPassive (slot : Fin 8)
  | dButton
  | key
  | innerHandle
  | relock
  | tgButton
deriving DecidableEq, Repr

/-- R21: a queue entry; `running` is its state RUNNING or PENDING. -/
structure Entry where
  kind : CmdKind
  source : CmdSource
  port : Option Port
  tag : Option Byte
  paired : Bool
  running : Bool
deriving DecidableEq, Repr

/-- R26: the goal of an actuator operation. -/
inductive OpGoal
  | lock (p : LockPos)
  | child (st : ChildState)
  | release
deriving DecidableEq, Repr

/-- R26: the phase of an actuator operation. -/
inductive OpPhase | waitSlot | drive | settle
deriving DecidableEq, Repr

/-- R26: the direction of a pulse. -/
inductive ActDir | lock | unlock | engage | release
deriving DecidableEq, Repr

/-- R26: an actuator operation record; its channel is its place in `Sequencer.ops`. `timer` is its pulse timer in DRIVE
and its SETTLE timer in SETTLE; `pulse` is in milliseconds. -/
structure Op where
  goal : OpGoal
  phase : OpPhase
  slot : Bool
  retriesLeft : Nat
  direction : Option ActDir
  pulse : Option Nat
  crash : Bool
  timer : Option Nat
deriving DecidableEq, Repr

/-- R33: the origin of the repeat record. -/
inductive Origin
  | slot (n : Fin 8)
  | key
  | other
deriving DecidableEq, Repr

/-- R33: the action of the repeat record. -/
inductive RepeatAction | lock | unlock | other
deriving DecidableEq, Repr

/-- R33: the repeat record. -/
structure Repeat where
  origin : Origin
  action : RepeatAction
  time : Nat
deriving DecidableEq, Repr

/-- The lock sequencer: queue (head first), operations by channel, heat counts of L1 to L5 and of C1 and C2 (R32; T1 has
none), the next heat tick, the repeat record and the relock timer. The three drive slots are the `slot` fields. -/
structure Sequencer where
  queue : List Entry
  ops : Actuators (Option Op)
  heatL : Closures Nat
  heatC : Rears Nat
  heatTickAt : Nat
  repeatRec : Option Repeat
  relock : Option Nat
deriving DecidableEq, Repr

/-! ### Crash response (chapter 3) -/

/-- R44: the crash line detector. -/
inductive Detector | released | asserting | asserted | releasing
deriving DecidableEq, Repr

/-- The crash input line, the detector with its 2 ms timer, and the latch (R44, R45). The crash operation set is the
operations of `Sequencer.ops` with `crash` set (R26). -/
structure Crash where
  line : Bool
  detector : Detector
  timer : Option Nat
  latch : Bool
deriving DecidableEq, Repr

/-! ### Credential checker and touch window table (chapters 4 and 5) -/

/-- R54: slot status. -/
inductive SlotStatus | empty | active | suspended
deriving DecidableEq, Repr

/-- R54: a set of rights. -/
structure Rights where
  doors : Bool
  tailgate : Bool
  comfort : Bool
  passive : Bool
deriving DecidableEq, Repr

/-- R57: fob actions. -/
inductive FobAction | lock | unlock | tailgate | comfortClose | comfortOpen | comfortStop
deriving DecidableEq, Repr

/-- R54, R61: a resync candidate. -/
structure Candidate where
  value : Nat
  expiry : Nat
deriving DecidableEq, Repr

/-- R54: the last accepted frame. -/
structure Accepted where
  time : Nat
  action : FobAction
deriving DecidableEq, Repr

/-- R54: a slot of the fob table. -/
structure FobSlot where
  status : SlotStatus
  counter : Nat
  rights : Rights
  candidate : Option Candidate
  streak : Nat
  lastAccepted : Option Accepted
deriving DecidableEq, Repr

/-- R66: the direction of a comfort session. -/
inductive ComfortDir | close | opening
deriving DecidableEq, Repr

/-- R66: the comfort session. -/
structure Session where
  slot : Fin 8
  dir : ComfortDir
  keepAlive : Nat
deriving DecidableEq, Repr

/-- The credential checker: fob table and comfort session. -/
structure Fobs where
  slots : Vector FobSlot 8
  session : Option Session
deriving DecidableEq, Repr

/-- R72: a touch window entry, with the time of the touch or of the expiry. -/
inductive TouchEntry
  | idle
  | waiting (time : Nat)
  | expired (time : Nat)
deriving DecidableEq, Repr

/-! ### Window controller (chapter 6) -/

/-- Direction of a window's motion. -/
inductive Dir | up | down
deriving DecidableEq, Repr

/-- R84: the kind of a run. -/
inductive RunKind | manual | auto | comfort
deriving DecidableEq, Repr

/-- The sources that can hold a run (R86). -/
inductive RunHolder
  | panel
  | localSw
  | comfortB
  | comfortK (slot : Fin 8)
deriving DecidableEq, Repr

/-- R84: the holder of a window. -/
inductive Holder
  | of (h : RunHolder)
  | reversal
deriving DecidableEq, Repr

/-- R84: a run with its holder. -/
structure RunRec where
  dir : Dir
  kind : RunKind
  target : Int
  holder : RunHolder
deriving DecidableEq, Repr

/-- R84: what starts when DWELL ends. -/
inductive Pending
  | run (r : RunRec)
  | reverse (target : Int)
deriving DecidableEq, Repr

/-- R85: the state of a window with its run, pending run or reverse target, so that each stands exactly where R84 says it
is present. -/
inductive Motion
  | idle
  | run (r : RunRec)
  | dwell (p : Pending)
  | reverse (target : Int)
  | inhibited
deriving DecidableEq, Repr

/-- R84: a set of inhibit causes. -/
structure Causes where
  crash : Bool
  thermal : Bool
  supply : Bool
  fault : Bool
deriving DecidableEq, Repr

/-- R84: a window record, with the window's timers and the position at which its last run started (R98). -/
structure WindowRec where
  motion : Motion
  causes : Causes
  position : Option Int
  normalised : Bool
  limited : Bool
  pinchCount : Nat
  topCorrection : Option Int
  lastDirection : Option Dir
  awaitPanel : Bool
  awaitLocal : Bool
  panelPosition : SwitchPos
  panelTime : Nat
  panelTimer : Option Nat
  startPosition : Option Int
  startWindow : Option Nat
  stall : Option Nat
  stallReached : Bool
  dwell : Option Nat
  brake : Option Nat
deriving DecidableEq, Repr

/-- R88: the vehicle mode. -/
inductive VehicleMode | parked | accessory | run
deriving DecidableEq, Repr

/-- The window controller. -/
structure WindowCtl where
  recs : Windows WindowRec
  rearLockout : Bool
  mode : VehicleMode
  retained : Option Nat
deriving DecidableEq, Repr

/-! ### Configuration store (R170) -/

/-- R110: the coincidence item. -/
inductive Coincidence | effortOnly | effortAndSpeed
deriving DecidableEq, Repr

/-- R110: the items of a window's WINDOW_CAL group. -/
structure Cal where
  l : Nat
  pz : Nat
  zs : Nat
  s : Nat
  t : Nat
  d : Nat
  coincidence : Coincidence
  c : Nat
  reversal : Nat
deriving DecidableEq, Repr

/-- R151: a set of the four detection kinds. -/
structure KindSet where
  openLoad : Bool
  shortSupply : Bool
  shortGround : Bool
  overcurrent : Bool
deriving DecidableEq, Repr

/-- R170: the five configuration groups. -/
inductive Group | policy | windowCal | supplyGain | diagMask | fobTable
deriving DecidableEq, Repr

/-- R171: the freeze flags. -/
structure Frozen where
  policy : Bool
  windowCal : Bool
  supplyGain : Bool
  diagMask : Bool
  fobTable : Bool
deriving DecidableEq, Repr

/-- The configuration store. `relockTime` is in seconds. -/
structure Configuration where
  selectiveUnlock : Bool
  childLockout : Bool
  passive : Bool
  overlapAccept : Bool
  relockTime : Nat
  cal : Windows Cal
  gain : Vector Nat 16
  chanMask : Channels KindSet
  globalMask : KindSet
  frozen : Frozen
deriving DecidableEq, Repr

/-! ### Pinch monitor and reference store (chapters 7 and 8) -/

/-- R109: the pinch monitor's state of a window. since_pulse is read from `pulseBase`, the time of the later of the last
pulse and the last start (R118). `cal` is the run copy, which the window controller shares for L, PZ and the reversal
distance (R96). `lastTeff` is the Teff of the latest sample since the last run start (R140). -/
structure PinchState where
  filter : Option Nat
  acc : Nat
  lastInterval : Nat
  pulseBase : Nat
  cal : Option Cal
  lastTeff : Option Nat
deriving DecidableEq, Repr

/-- R125: a learned reference. -/
structure ZoneRef where
  effort : Nat
  interval : Nat
deriving DecidableEq, Repr

/-- R126: the conditions that spoil a stroke. -/
structure Marks where
  lowStart : Bool
  unnormalised : Bool
  limited : Bool
  warm : Bool
  supply : Bool
  pinch : Bool
deriving DecidableEq, Repr

/-- R126: an active stroke record. -/
structure Stroke where
  startPosition : Option Int
  pz : Nat
  zs : Nat
  samples : Vector (Option ZoneRef) 32
  marks : Marks
deriving DecidableEq, Repr

/-- The reference store's state of a window; `pendingForget` holds the zone shift its table was learned under (R135). -/
structure RefState where
  zones : Vector (Option ZoneRef) 32
  learned : Nat
  stroke : Option Stroke
  pendingForget : Option Nat
deriving DecidableEq, Repr

/-! ### Trace store (chapter 9) -/

/-- R108: the phase of a sample. -/
inductive SamplePhase | start | run | reverse
deriving DecidableEq, Repr

/-- R123: a sample record. -/
structure Sample where
  ic : Nat
  effort : Nat
  acc : Nat
  position : Option Int
  speed : Bool
  phase : SamplePhase
deriving DecidableEq, Repr

/-- R138: trigger kinds. -/
inductive TriggerKind | pinchEffort | pinchStall | stall | overcurrent | requested
deriving DecidableEq, Repr

/-- R141: completion causes. -/
inductive Completion | eight | stopped | overlap | reset
deriving DecidableEq, Repr

/-- R139, R140: a record, its header and its samples. The pre-count and post-count are the lengths of the lists. -/
structure TraceRec where
  sequence : Nat
  kind : TriggerKind
  window : Window
  timeTag : Nat
  position : Option Int
  teff : Nat
  pre : List Sample
  post : List Sample
deriving DecidableEq, Repr

/-- R139: a record buffer. -/
inductive Buffer
  | free
  | filling (r : TraceRec)
  | complete (r : TraceRec) (cause : Completion)
deriving DecidableEq, Repr

/-- R144: the read cursor when it holds a record. -/
structure Cursor where
  buffer : Fin 8
  part : Nat
deriving DecidableEq, Repr

/-- The trace store. The time tag counts milliseconds from `tagBase` (R146). -/
structure TraceStore where
  rings : Windows (List Sample)
  buffers : Vector Buffer 8
  captures : List (Fin 8)
  sequence : Nat
  tagBase : Nat
  cursor : Option Cursor
deriving DecidableEq, Repr

/-! ### Output stage, diagnostic, temperature and supply monitors (chapter 10) -/

/-- R150: what the output stage does with a channel. The first direction is up on W, lock on L, engage on C and the
release of T1; the second is down, unlock, release (R165). -/
inductive Drive | off | onFirst | onSecond | brake
deriving DecidableEq, Repr

/-- R150: a test result. -/
inductive TestResult | normal | fault | notTested
deriving DecidableEq, Repr

/-- R150: a channel record; its mask is held in the DIAG_MASK group. `current` is the latest measurement of the present
drive and `judged` says that the 20 ms point of the present drive has been taken (R152). -/
structure ChannelRec where
  drive : Drive
  driveStart : Option Nat
  openLoad : TestResult
  shortSupply : TestResult
  shortGround : TestResult
  overcurrent : TestResult
  ocCount : Nat
  withdrawn : Bool
  current : Option Nat
  judged : Bool
deriving DecidableEq, Repr

/-- R157: the sticky summary flags. -/
structure StickyFlags where
  openLoad : Bool
  shortSupply : Bool
  shortGround : Bool
  overcurrent : Bool
  twarm : Bool
  thot : Bool
  slow : Bool
  scut : Bool
deriving DecidableEq, Repr

/-- R158: the temperature state. -/
inductive TempState | normal | warm | hot
deriving DecidableEq, Repr

/-- R160: the supply state. -/
inductive SupplyState | normal | low | cut
deriving DecidableEq, Repr

/-- The diagnostic monitor and the temperature and supply monitor. -/
structure Monitors where
  chans : Channels ChannelRec
  flags : StickyFlags
  offTickAt : Nat
  temp : TempState
  lastTemp : Int
  supply : SupplyState
  lastV : Nat
deriving DecidableEq, Repr

/-! ### Port engines and notice unit (chapter 11) -/

/-- R167: the result codes, in the order of their values. -/
inductive Code
  | ok | merged | duplicate | format | authority | frozen | range | busy | crash | crashActive | ajar | tgLocked
  | superlocked | held | noPower | state | emptySlot | suspended | stale | resyncNeeded | noRight | noTouch | tooLate
  | noKey | keyInside | noRecord
deriving DecidableEq, Repr

/-- R163: a response being sent. -/
structure Response where
  tag : Byte
  code : Code
  payload : List Byte
deriving DecidableEq, Repr

/-- R163: the state of a port engine. -/
inductive Engine | idle | receiving | answering
deriving DecidableEq, Repr

/-- R163: a port engine: its state, the bytes received since the sync byte, the inter-byte timer and the response being
sent. -/
structure PortEngine where
  engine : Engine
  buffer : List Byte
  timer : Option Nat
  response : Option Response
deriving DecidableEq, Repr

/-- R166: the restore staging record when it is not empty. -/
structure Staging where
  total : Nat
  next : Nat
  content : List Byte
deriving DecidableEq, Repr

/-- R172: the cause of a reset. -/
inductive ResetCause | powerOn | resetLine | soft
deriving DecidableEq, Repr

/-- R31: the reasons of ACTUATION_FAILED. -/
inductive FailReason | noMove | overcurrent | withdrawn | hotWithheld | thermal | releaseRefused
deriving DecidableEq, Repr

/-- R36: the reasons of SUPERLOCK_REFUSED. -/
inductive SuperlockReason | latch | notParked | withdrawn
deriving DecidableEq, Repr

/-- R102: the cause of a pinch. -/
inductive PinchCause | effort | stall
deriving DecidableEq, Repr

/-- R105: the window events named for one window. -/
structure WindowEvents where
  pinch : Option PinchCause
  stall : Bool
  normalised : Bool
  unnormalised : Bool
deriving DecidableEq, Repr

/-- R168: the detail of COMMAND_CANCELLED: tag and kind of the latest 8 entries, oldest first, and the number removed. -/
structure Cancelled where
  latest : List (Byte × CmdKind)
  count : Nat
deriving DecidableEq, Repr

/-- R143: why a trigger was refused. -/
inductive LostReason | overlap | full
deriving DecidableEq, Repr

/-- R143: the detail of TRACE_LOST. -/
structure Lost where
  count : Nat
  sequence : Nat
  reason : LostReason
deriving DecidableEq, Repr

/-- R155: the detail of FAULT: the kinds of each channel that changed to FAULT, and the channels in the order in which they
were first named (R165: a list stands oldest first). -/
structure FaultDetail where
  kinds : Channels KindSet
  order : List Channel
deriving DecidableEq, Repr

/-- R168: a port's notice set. A notice with an accumulated detail is present when its field is not none; a notice whose
detail is read at the moment is a Boolean. -/
structure NoticeSet where
  restarted : Option ResetCause
  crash : Option Nat
  lockChanged : Option (Closures Bool)
  childChanged : Option (Rears Bool)
  windowEvent : Option (Windows WindowEvents)
  actuationFailed : Option (Closures (Option FailReason))
  superlockRefused : Option SuperlockReason
  commandCancelled : Option Cancelled
  handleTouch : Bool
  fobCounter : Option (Vector Bool 8)
  contextChanged : Option (Windows Bool)
  traceReady : Bool
  traceLost : Option Lost
  fault : Option FaultDetail
  thermal : Bool
  supply : Bool
deriving DecidableEq, Repr

/-! ### The state -/

/-- The whole state. `pending` is the queue of commands that wait to be taken, `now` the timebase, and `freeCount` the
model's own count of the events whose outcome the free value of Config decides. -/
structure State where
  pending : List Instr
  now : Nat
  freeCount : Nat
  resetLine : Bool
  closures : Closures ClosureRec
  childs : Rears ChildRec
  sensing : Sensing
  seq : Sequencer
  crash : Crash
  fobs : Fobs
  touch : Touches TouchEntry
  win : WindowCtl
  pinch : Windows PinchState
  refs : Windows RefState
  trace : TraceStore
  mon : Monitors
  config : Configuration
  ports : Ports PortEngine
  staging : Option Staging
  softResetDue : Bool
  notices : Ports NoticeSet
deriving DecidableEq, Repr

/-- The block has no fault: no rule of spec/ stops it. Nothing raises one. -/
inductive Fault
deriving DecidableEq, Repr

/-- The refusals of the model. -/
inductive Refusal
  /-- Answered by `exec` alone, for a command that has no meaning yet; safe. No arm of `exec` answers it now. -/
  | notModelled (mnemonic : String)
deriving DecidableEq, Repr

/-! ### Full-reset values -/

/-- R7. -/
def ClosureRec.reset : ClosureRec :=
  { latch := .unknown, lockSensed := .invalid, lockGoal := .unlocked, confirmed := false, lastSource := .reset }

/-- R7. -/
def ChildRec.reset : ChildRec := { goal := .released, sensed := .released, confirmed := false }

/-- R5, R6: at the release of a full reset nothing has been read and the stability timer starts. -/
def Feed.reset (raw : α) : Feed α := { raw, read := false, timer := some Config.debounceTime }

/-- R5, R71, R91: the debounced level is undefined and the stability timer starts. -/
def Stage.reset (raw : α) : Stage α := { raw, level := none, timer := some Config.debounceTime }

/-- The lines after a full reset. The levels at the pins are the outside's; log entry 2 names those taken here. -/
def Sensing.reset : Sensing :=
  { latch := .all (.reset .closed), feedback := .all (.reset ⟨false, false⟩), child := .all (.reset .released),
    handle := .all (.reset false), keyLock := .reset false, keyUnlock := .reset false, touch := .all (.reset false),
    switch := .all (.reset .neutral) }

/-- R43. -/
def Sequencer.reset : Sequencer :=
  { queue := [], ops := .all none, heatL := .all 0, heatC := .all 0, heatTickAt := Config.heatPeriod,
    repeatRec := none, relock := none }

/-- R44, R53: released, with the line released (log entry 2). -/
def Crash.reset : Crash := { line := false, detector := .released, timer := none, latch := false }

/-- R54: the empty set. -/
def Rights.none : Rights := ⟨false, false, false, false⟩

/-- R70. -/
def FobSlot.reset : FobSlot :=
  { status := .empty, counter := 0, rights := .none, candidate := .none, streak := 0, lastAccepted := .none }

/-- R70. -/
def Fobs.reset : Fobs := { slots := Vector.replicate 8 .reset, session := none }

/-- R106. -/
def Causes.none : Causes := ⟨false, false, false, false⟩

/-- R106. -/
def WindowRec.reset : WindowRec :=
  { motion := .idle, causes := .none, position := .none, normalised := false, limited := false, pinchCount := 0,
    topCorrection := .none, lastDirection := .none, awaitPanel := false, awaitLocal := false,
    panelPosition := .neutral, panelTime := 0, panelTimer := .none, startPosition := .none, startWindow := .none,
    stall := .none, stallReached := false, dwell := .none, brake := .none }

/-- R106. -/
def WindowCtl.reset : WindowCtl := { recs := .all .reset, rearLockout := false, mode := .parked, retained := none }

/-- R170: the defaults of WINDOW_CAL. -/
def Cal.default : Cal :=
  { l := 1600, pz := 900, zs := 6, s := 2, t := 400, d := 12, coincidence := .effortOnly, c := 600, reversal := 320 }

/-- R151: every kind. -/
def KindSet.full : KindSet := ⟨true, true, true, true⟩

/-- R151: no kind. -/
def KindSet.empty : KindSet := ⟨false, false, false, false⟩

/-- R170, R171: the defaults, nothing frozen. -/
def Configuration.reset : Configuration :=
  { selectiveUnlock := true, childLockout := true, passive := true, overlapAccept := false, relockTime := 45,
    cal := .all .default, gain := Vector.replicate 16 16384, chanMask := .all .full, globalMask := .full,
    frozen := ⟨false, false, false, false, false⟩ }

/-- R124. -/
def PinchState.reset : PinchState :=
  { filter := none, acc := 0, lastInterval := 0, pulseBase := 0, cal := none, lastTeff := none }

/-- R136. -/
def RefState.reset : RefState :=
  { zones := Vector.replicate 32 none, learned := 0, stroke := none, pendingForget := none }

/-- R149. -/
def TraceStore.reset : TraceStore :=
  { rings := .all [], buffers := Vector.replicate 8 .free, captures := [], sequence := 0, tagBase := 0, cursor := none }

/-- R162. -/
def ChannelRec.reset : ChannelRec :=
  { drive := .off, driveStart := none, openLoad := .notTested, shortSupply := .notTested, shortGround := .notTested,
    overcurrent := .notTested, ocCount := 0, withdrawn := false, current := none, judged := false }

/-- R162: every flag clear. -/
def StickyFlags.clear : StickyFlags := ⟨false, false, false, false, false, false, false, false⟩

/-- R162. The measured die temperature and supply code are the outside's; log entry 2 names those taken here. -/
def Monitors.reset : Monitors :=
  { chans := .all .reset, flags := .clear, offTickAt := Config.offStatePeriod, temp := .normal, lastTemp := 25,
    supply := .normal, lastV := 600 }

/-- R172: an engine in IDLE. -/
def PortEngine.reset : PortEngine := { engine := .idle, buffer := [], timer := none, response := none }

/-- R172: the empty notice set. -/
def NoticeSet.empty : NoticeSet :=
  { restarted := none, crash := none, lockChanged := none, childChanged := none, windowEvent := none,
    actuationFailed := none, superlockRefused := none, commandCancelled := none, handleTouch := false,
    fobCounter := none, contextChanged := none, traceReady := false, traceLost := none, fault := none,
    thermal := false, supply := false }

/-- The machine right after power-on: every block at the full-reset values of its chapter and RESTARTED raised on the
three ports with cause POWER_ON (R172). No command waits. -/
def State.reset : State :=
  { pending := [], now := 0, freeCount := 0, resetLine := false,
    closures := .all .reset, childs := .all .reset, sensing := .reset, seq := .reset, crash := .reset, fobs := .reset,
    touch := .all .idle, win := .reset, pinch := .all .reset, refs := .all .reset, trace := .reset, mon := .reset,
    config := .reset, ports := .all .reset, staging := none, softResetDue := false,
    notices := .all { NoticeSet.empty with restarted := some .powerOn } }

end Sys2Proof.Machine
end

