-- ==== Sys2Proof/Machine/Ops.lean ====
section
/-! DEFINITION. Named reads and writes of single pieces of state, and the conversions between the names of one place. -/

namespace Sys2Proof.Machine
open Sys2Proof

/-! ### Names of one place -/

/-- The closure of a side closure. -/
def sideClosure : Side → Closure
  | .fd => .fd
  | .fp => .fp
  | .rd => .rd
  | .rp => .rp

/-- The closure of a rear closure. -/
def rearClosure : Rear → Closure
  | .rd => .rd
  | .rp => .rp

/-- The closure FP, RD or RP. -/
def otherClosure : OtherSide → Closure
  | .fp => .fp
  | .rd => .rd
  | .rp => .rp

/-- The window that a local switch moves (R91). -/
def otherWindow : OtherSide → Window
  | .fp => .wfp
  | .rd => .wrd
  | .rp => .wrp

/-- The window of a rear closure. -/
def rearWindow : Rear → Window
  | .rd => .wrd
  | .rp => .wrp

/-- The rear closure of a closure, when it is one. -/
def closureRear : Closure → Option Rear
  | .rd => some .rd
  | .rp => some .rp
  | .fd | .fp | .tg => none

/-- The rear closure of a rear window. -/
def windowRear : Window → Option Rear
  | .wrd => some .rd
  | .wrp => some .rp
  | .wfd | .wfp => none

/-- The eight fob slots or record buffers in order. -/
def eight : List (Fin 8) := [0, 1, 2, 3, 4, 5, 6, 7]

/-- A latch line reading as a debounced latch value (R7). -/
def latchOf : LatchLevel → Latch
  | .closed => .closed
  | .ajar => .ajar

/-- The sensed value that stands for a lock position. -/
def LockPos.sensed : LockPos → Sensed
  | .unlocked => .unlocked
  | .locked => .locked
  | .superlocked => .superlocked

/-- The lock position that a valid reading stands for (R6). -/
def Sensed.pos : Sensed → Option LockPos
  | .unlocked => some .unlocked
  | .locked => some .locked
  | .superlocked => some .superlocked
  | .invalid => none

/-- R6: the reading of a LOCK and SUPER pair. -/
def decodePair (p : LockPins) : Sensed :=
  match p.lock, p.sup with
  | false, false => .unlocked
  | true, false => .locked
  | true, true => .superlocked
  | false, true => .invalid

/-- R6: the reading of a closure's feedback: the pair of a side closure, the one line of TG. -/
def feedbackReading : Closure → LockPins → Sensed
  | .tg, p => if p.lock then .locked else .unlocked
  | .fd, p | .fp, p | .rd, p | .rp, p => decodePair p

/-! ### Single writes -/

namespace State

/-- The reset line is not asserted: only then is anything but a pin, the reset line and the supply taken (R172). -/
def live (s : State) (f : State → State) : State := if s.resetLine then s else f s

/-- The timebase stands at `t` or later: a timer's expiry is never taken before the timer has run out. -/
def reach (s : State) (t : Nat) : State := { s with now := max s.now t }

def setClosure (s : State) (c : Closure) (r : ClosureRec) : State := { s with closures := s.closures.set c r }
def setChild (s : State) (r : Rear) (v : ChildRec) : State := { s with childs := s.childs.set r v }
def setQueue (s : State) (q : List Entry) : State := { s with seq := { s.seq with queue := q } }
def setOp (s : State) (a : Actuator) (o : Option Op) : State :=
  { s with seq := { s.seq with ops := s.seq.ops.set a o } }
def setRelock (s : State) (t : Option Nat) : State := { s with seq := { s.seq with relock := t } }
def setRepeat (s : State) (r : Option Repeat) : State := { s with seq := { s.seq with repeatRec := r } }
def setSlot (s : State) (i : Fin 8) (f : FobSlot) : State :=
  { s with fobs := { s.fobs with slots := s.fobs.slots.set i.val f i.isLt } }
def setSession (s : State) (x : Option Session) : State := { s with fobs := { s.fobs with session := x } }
def setTouch (s : State) (t : TouchSource) (e : TouchEntry) : State := { s with touch := s.touch.set t e }
def setWin (s : State) (w : Window) (r : WindowRec) : State :=
  { s with win := { s.win with recs := s.win.recs.set w r } }
def setPinch (s : State) (w : Window) (p : PinchState) : State := { s with pinch := s.pinch.set w p }
def setRefs (s : State) (w : Window) (r : RefState) : State := { s with refs := s.refs.set w r }
def setChan (s : State) (ch : Channel) (r : ChannelRec) : State :=
  { s with mon := { s.mon with chans := s.mon.chans.set ch r } }
def setRing (s : State) (w : Window) (l : List Sample) : State :=
  { s with trace := { s.trace with rings := s.trace.rings.set w l } }
def setBuffer (s : State) (i : Fin 8) (b : Buffer) : State :=
  { s with trace := { s.trace with buffers := s.trace.buffers.set i.val b i.isLt } }
def setPort (s : State) (p : Port) (e : PortEngine) : State := { s with ports := s.ports.set p e }
def setNotices (s : State) (p : Port) (n : NoticeSet) : State := { s with notices := s.notices.set p n }

/-! ### Single reads -/

def closure (s : State) (c : Closure) : ClosureRec := s.closures.get c
def childOf (s : State) (r : Rear) : ChildRec := s.childs.get r
def opAt (s : State) (a : Actuator) : Option Op := s.seq.ops.get a
def winRec (s : State) (w : Window) : WindowRec := s.win.recs.get w
def pinchOf (s : State) (w : Window) : PinchState := s.pinch.get w
def refsOf (s : State) (w : Window) : RefState := s.refs.get w
def chan (s : State) (ch : Channel) : ChannelRec := s.mon.chans.get ch
def slotAt (s : State) (i : Fin 8) : FobSlot := s.fobs.slots[i]
def bufferAt (s : State) (i : Fin 8) : Buffer := s.trace.buffers[i]
def calOf (s : State) (w : Window) : Cal := s.config.cal.get w

/-- R32: the heat count of a channel; T1 has none. -/
def heatOf (s : State) : Actuator → Option Nat
  | .l c => some (s.seq.heatL.get c)
  | .c r => some (s.seq.heatC.get r)
  | .t1 => none

/-- R32: a pulse start adds 8, saturating at 255; T1 has no count. -/
def addHeat (s : State) (a : Actuator) : State :=
  match a with
  | .l c => { s with seq := { s.seq with heatL := s.seq.heatL.set c (satAdd 255 (s.seq.heatL.get c) 8) } }
  | .c r => { s with seq := { s.seq with heatC := s.seq.heatC.set r (satAdd 255 (s.seq.heatC.get r) 8) } }
  | .t1 => s

/-- A crash operation is in flight: the crash operation set is not empty (R48). -/
def crashOps (s : State) : Bool :=
  Closure.list.any (fun c => match s.seq.ops.l.get c with | some o => o.crash | none => false)

/-- R27: the number of drive slots held. -/
def heldSlots (s : State) : Nat :=
  (Actuator.list.filter (fun a => match s.opAt a with | some o => o.slot | none => false)).length

/-- An operation of the RUNNING command is left: every operation but the crash operations is one of its (R24, R26). -/
def ordinaryOps (s : State) : Bool :=
  Actuator.list.any (fun a => match s.opAt a with | some o => !o.crash | none => false)

/-- The state of every window that a table of causes leaves INHIBITED or frees is decided by this: no cause is left. -/
def noCause (c : Causes) : Bool := !(c.crash || c.thermal || c.supply || c.fault)

/-- R146: the time tag, in milliseconds modulo 2 to the power 32. -/
def timeTag (s : State) : Nat := ((s.now - s.trace.tagBase) / 10) % 4294967296

/-- R118: since_pulse of a window, in 0.1 ms units, clamped at 255. -/
def sincePulse (s : State) (w : Window) : Nat := min 255 (s.now - (s.pinchOf w).pulseBase)

/-- R88: window power. -/
def windowPower (s : State) : Bool := s.win.mode != .parked || s.win.retained.isSome

/-- R32: the withhold threshold in force. -/
def withholdThreshold (s : State) : Nat := if s.mon.temp = .normal then 160 else 96

/-- R159: the duty in percent at which a W channel is driven in RUN and REVERSE. -/
def windowDuty (s : State) : Nat :=
  match s.mon.temp with
  | .normal => 100
  | .warm => 60
  | .hot => 0

end State

/-! ### Central lock mode (R16) -/

/-- R16: the central lock modes, OPEN first. -/
inductive CentralMode | allOpen | driverOnly | locked | superlocked | mixed
deriving DecidableEq, Repr

/-- R16: the mode that the five goals give. -/
def modeOf (g : Closures LockPos) : CentralMode :=
  if g = ⟨.unlocked, .unlocked, .unlocked, .unlocked, .unlocked⟩ then .allOpen
  else if g = ⟨.unlocked, .locked, .locked, .locked, .locked⟩ then .driverOnly
  else if g = ⟨.locked, .locked, .locked, .locked, .locked⟩ then .locked
  else if g = ⟨.superlocked, .superlocked, .superlocked, .superlocked, .locked⟩ then .superlocked
  else .mixed

/-- The five lock goals. -/
def State.goals (s : State) : Closures LockPos :=
  ⟨s.closures.fd.lockGoal, s.closures.fp.lockGoal, s.closures.rd.lockGoal, s.closures.rp.lockGoal,
    s.closures.tg.lockGoal⟩

/-- R16: the central lock mode. -/
def State.mode (s : State) : CentralMode := modeOf s.goals

/-! ### Motion of a window (R84, R85) -/

/-- R84: the holder of a window. -/
def Motion.holder : Motion → Option Holder
  | .run r => some (.of r.holder)
  | .dwell (.run r) => some (.of r.holder)
  | .dwell (.reverse _) => some .reversal
  | .reverse _ => some .reversal
  | .idle | .inhibited => none

/-- The run, or the pending run of a direction-change DWELL. -/
def Motion.heldRun : Motion → Option RunRec
  | .run r => some r
  | .dwell (.run r) => some r
  | .dwell (.reverse _) | .reverse _ | .idle | .inhibited => none

/-- R85: running means RUN, DWELL or REVERSE. -/
def Motion.running : Motion → Bool
  | .run _ | .dwell _ | .reverse _ => true
  | .idle | .inhibited => false

/-- The direction in which the bridge is driven: the run's, or DOWN in REVERSE. -/
def Motion.drivenDir : Motion → Option Dir
  | .run r => some r.dir
  | .reverse _ => some .down
  | .dwell _ | .idle | .inhibited => none

end Sys2Proof.Machine
end

