-- ==== Sys2Proof/Machine/Flags.lean ====
section
/-! DEFINITION. The notice unit (R168) and the sticky summary flags (R157): one operation for each notice that raises it
to the ports its routing row names and adds the block's detail, and the two writes of the closure table that raise
LOCK_CHANGED and CHILD_CHANGED by R4. -/

namespace Sys2Proof.Machine
open Sys2Proof

namespace State

/-- A notice set changed on one port. -/
def onPort (s : State) (p : Port) (f : NoticeSet → NoticeSet) : State := s.setNotices p (f (s.notices.get p))

/-- A notice set changed on ports B, K and D. -/
def onAll (s : State) (f : NoticeSet → NoticeSet) : State :=
  { s with notices := ⟨f s.notices.b, f s.notices.k, f s.notices.d⟩ }

/-- A notice set changed on ports B and D. -/
def onBD (s : State) (f : NoticeSet → NoticeSet) : State :=
  { s with notices := ⟨f s.notices.b, s.notices.k, f s.notices.d⟩ }

/-- R172: RESTARTED on the three ports with its cause. -/
def raiseRestarted (s : State) (c : ResetCause) : State := s.onAll (fun n => { n with restarted := some c })

/-- R47, R50: CRASH on the three ports; the detail counts the events, saturating at 255. -/
def raiseCrash (s : State) : State := s.onAll (fun n => { n with crash := some (satAdd 255 (n.crash.getD 0) 1) })

/-- R4: LOCK_CHANGED on the three ports, naming the closure. -/
def raiseLockChanged (s : State) (c : Closure) : State :=
  s.onAll (fun n => { n with lockChanged := some ((n.lockChanged.getD (.all false)).set c true) })

/-- R4: CHILD_CHANGED on ports B and D, naming the side. -/
def raiseChildChanged (s : State) (r : Rear) : State :=
  s.onBD (fun n => { n with childChanged := some ((n.childChanged.getD (.all false)).set r true) })

/-- No event named for a window. -/
def noEvents : WindowEvents := ⟨none, false, false, false⟩

/-- R105: WINDOW_EVENT on ports B and D; `f` adds the event to the window's detail. -/
def raiseWindowEvent (s : State) (w : Window) (f : WindowEvents → WindowEvents) : State :=
  s.onBD (fun n =>
    let d := n.windowEvent.getD (.all noEvents)
    { n with windowEvent := some (d.set w (f (d.get w))) })

/-- The detail of ACTUATION_FAILED with the latest failure of a closure. -/
def failedDetail (c : Closure) (why : FailReason) (n : NoticeSet) : NoticeSet :=
  { n with actuationFailed := some ((n.actuationFailed.getD (.all none)).set c (some why)) }

/-- R31: ACTUATION_FAILED to port B, and to the command's port when that is K or D. -/
def raiseActuationFailed (s : State) (c : Closure) (why : FailReason) (port : Option Port) : State :=
  let n := s.notices
  { s with notices :=
      { b := failedDetail c why n.b
        k := if port = some .k then failedDetail c why n.k else n.k
        d := if port = some .d then failedDetail c why n.d else n.d } }

/-- R36: SUPERLOCK_REFUSED to port B, and to port K when the command's port is K. -/
def raiseSuperlockRefused (s : State) (why : SuperlockReason) (port : Option Port) : State :=
  let n := s.notices
  { s with notices :=
      { n with
        b := { n.b with superlockRefused := some why }
        k := if port = some .k then { n.k with superlockRefused := some why } else n.k } }

/-- The detail of COMMAND_CANCELLED with one more entry: the latest 8, and the count saturating at 255 (R168). -/
def cancelledDetail (e : Entry) (n : NoticeSet) : NoticeSet :=
  let old := n.commandCancelled.getD ⟨[], 0⟩
  let all := old.latest ++ [(e.tag.getD 0, e.kind)]
  { n with commandCancelled := some ⟨all.drop (all.length - 8), satAdd 255 old.count 1⟩ }

/-- R23: COMMAND_CANCELLED to the port of a removed entry; an entry with port none is dropped silently. -/
def raiseCancelled (s : State) (e : Entry) : State :=
  let n := s.notices
  { s with notices :=
      { b := if e.port = some .b then cancelledDetail e n.b else n.b
        k := if e.port = some .k then cancelledDetail e n.k else n.k
        d := if e.port = some .d then cancelledDetail e n.d else n.d } }

/-- R75: HANDLE_TOUCH to port K. -/
def raiseHandleTouch (s : State) : State := s.onPort .k (fun n => { n with handleTouch := true })

/-- R69: FOB_COUNTER to port B, naming the slot. -/
def raiseFobCounter (s : State) (i : Fin 8) : State :=
  s.onPort .b (fun n =>
    { n with fobCounter := some ((n.fobCounter.getD (Vector.replicate 8 false)).set i.val true i.isLt) })

/-- R131: CONTEXT_CHANGED to port B, naming the window. -/
def raiseContextChanged (s : State) (w : Window) : State :=
  s.onPort .b (fun n => { n with contextChanged := some ((n.contextChanged.getD (.all false)).set w true) })

/-- R143: TRACE_READY to port B. -/
def raiseTraceReady (s : State) : State := s.onPort .b (fun n => { n with traceReady := true })

/-- R143: TRACE_LOST to port B with its count, saturating at 255, and the latest sequence number and reason. -/
def raiseTraceLost (s : State) (sequence : Nat) (why : LostReason) : State :=
  s.onPort .b (fun n =>
    { n with traceLost := some ⟨satAdd 255 ((n.traceLost.map Lost.count).getD 0) 1, sequence, why⟩ })

/-- R155: FAULT to port B; `f` adds the kind to the channel's detail, and a channel not yet named joins the list. -/
def raiseFault (s : State) (ch : Channel) (f : KindSet → KindSet) : State :=
  s.onPort .b (fun n =>
    let d := n.fault.getD ⟨.all .empty, []⟩
    { n with fault := some ⟨d.kinds.set ch (f (d.kinds.get ch)), if ch ∈ d.order then d.order else d.order ++ [ch]⟩ })

/-- R158: THERMAL to port B. -/
def raiseThermal (s : State) : State := s.onPort .b (fun n => { n with thermal := true })

/-- R160: SUPPLY to port B. -/
def raiseSupply (s : State) : State := s.onPort .b (fun n => { n with supply := true })

/-- R157: a change of the sticky flags. -/
def setFlags (s : State) (f : StickyFlags → StickyFlags) : State :=
  { s with mon := { s.mon with flags := f s.mon.flags } }

/-! ### Writes of the closure table that raise by R4 -/

/-- R4: two closure records differ in a field whose change raises LOCK_CHANGED. -/
def lockChange (a b : ClosureRec) : Bool :=
  a.latch != b.latch || a.lockGoal != b.lockGoal || a.confirmed != b.confirmed || a.lastSource != b.lastSource

/-- A closure record is written, and LOCK_CHANGED is raised when R4 says so. -/
def writeClosure (s : State) (c : Closure) (r : ClosureRec) : State :=
  if lockChange (s.closure c) r then (s.setClosure c r).raiseLockChanged c else s.setClosure c r

/-- R4: two child records differ in a field whose change raises CHILD_CHANGED. -/
def childChange (a b : ChildRec) : Bool := a.goal != b.goal || a.confirmed != b.confirmed

/-- A child record is written, and CHILD_CHANGED is raised when R4 says so. -/
def writeChild (s : State) (r : Rear) (v : ChildRec) : State :=
  if childChange (s.childOf r) v then (s.setChild r v).raiseChildChanged r else s.setChild r v

/-- R2, R3: lock_goal is written with its source; a different goal sets confirmed to no. -/
def writeGoal (s : State) (c : Closure) (g : LockPos) (src : LastSource) : State :=
  let r := s.closure c
  s.writeClosure c { r with lockGoal := g, lastSource := src, confirmed := if r.lockGoal = g then r.confirmed else false }

/-- R3: confirmed takes the value that the end of an operation gives. -/
def writeConfirmed (s : State) (c : Closure) (v : Bool) : State :=
  s.writeClosure c { s.closure c with confirmed := v }

/-- R3: child_confirmed takes the value that the end of an operation gives. -/
def writeChildConfirmed (s : State) (r : Rear) (v : Bool) : State :=
  s.writeChild r { s.childOf r with confirmed := v }

/-- R3, R24: child_goal is written at the start of a CHILD_SET; a different goal sets child_confirmed to no. -/
def writeChildGoal (s : State) (r : Rear) (g : ChildState) : State :=
  let v := s.childOf r
  s.writeChild r { v with goal := g, confirmed := if v.goal = g then v.confirmed else false }

end State

/-! ### Presence of notices -/

/-- R168: the presence of the sixteen notices, in the order of the table. -/
def NoticeSet.present (n : NoticeSet) : List Bool :=
  [n.restarted.isSome, n.crash.isSome, n.lockChanged.isSome, n.childChanged.isSome, n.windowEvent.isSome,
    n.actuationFailed.isSome, n.superlockRefused.isSome, n.commandCancelled.isSome, n.handleTouch,
    n.fobCounter.isSome, n.contextChanged.isSome, n.traceReady, n.traceLost.isSome, n.fault.isSome, n.thermal,
    n.supply]

/-- R168, R172: a port's notice line is active while its set is not empty and the reset line is not asserted. -/
def State.noticeLine (s : State) (p : Port) : Bool := !s.resetLine && (s.notices.get p).present.any id

end Sys2Proof.Machine
end

