-- ==== Sys2Proof/Machine/References.lean ====
section
/-! DEFINITION. The reference store (chapter 8): strokes, learning, forgetting. -/

namespace Sys2Proof.Machine
open Sys2Proof

/-- R116, R125: the zone of a position under a zone shift; UNKNOWN selects none. -/
def zoneOf (zs : Nat) : Option Int → Option (Fin 32)
  | none => none
  | some p => some ⟨min 31 (p.toNat / 2 ^ zs), by omega⟩

/-- R126: no mark. -/
def Marks.none : Marks := ⟨false, false, false, false, false, false⟩

/-- R126: a stroke carries a mark. -/
def Marks.spoiled (m : Marks) : Bool :=
  m.lowStart || m.unnormalised || m.limited || m.warm || m.supply || m.pinch

/-- R130: a learned value moves a quarter of the way towards the sample, rounded. -/
def quarterStep (old sample : Nat) : Nat := ((old : Int) + roundedShift ((sample : Int) - old) 2).toNat

/-- R130: what a zone becomes when it is taught. -/
def teach (old : Option ZoneRef) (sample : ZoneRef) : ZoneRef :=
  match old with
  | none => sample
  | some r => { effort := quarterStep r.effort sample.effort, interval := quarterStep r.interval sample.interval }

/-- R130: a zone is taught by a stroke: it holds a sample and lies no further than the zone of the pinch zone's end. -/
def taught (k : Stroke) (z : Fin 32) : Bool := k.samples[z].isSome && decide (z.val ≤ k.pz / 2 ^ k.zs)

/-- R130: the table after the stroke. -/
def learnZones (k : Stroke) (zones : Vector (Option ZoneRef) 32) : Vector (Option ZoneRef) 32 :=
  Vector.ofFn (fun z : Fin 32 =>
    match k.samples[z] with
    | some x => if z.val ≤ k.pz / 2 ^ k.zs then some (teach zones[z] x) else zones[z]
    | none => zones[z])

/-- R130: the stroke teaches at least one zone. -/
def teaches (k : Stroke) : Bool := (List.finRange 32).any (taught k)

namespace State

/-- R126: a run start tells the reference store; an up-run makes the record active, a down-run inactive. -/
def startStroke (s : State) (w : Window) (dir : Dir) (c : Cal) : State :=
  let r := s.winRec w
  let low : Bool := match r.position with
    | none => true
    | some p => decide (p < c.pz)
  let k : Stroke :=
    { startPosition := r.position, pz := c.pz, zs := c.zs, samples := Vector.replicate 32 none,
      marks := { lowStart := low, unnormalised := !r.normalised, limited := r.limited, warm := s.mon.temp = .warm,
                 supply := s.mon.supply != .normal, pinch := false } }
  s.setRefs w { s.refsOf w with stroke := if dir = .up then some k else none }

/-- R129: the record becomes inactive and its samples are discarded. -/
def endStroke (s : State) (w : Window) : State := s.setRefs w { s.refsOf w with stroke := none }

/-- R128: a mark is added to the record of a window when it is active. -/
def markStroke (s : State) (w : Window) (f : Marks → Marks) : State :=
  s.setRefs w { s.refsOf w with stroke := (s.refsOf w).stroke.map (fun k => { k with marks := f k.marks }) }

/-- R128: a mark is added to every active record. -/
def markAllStrokes (s : State) (f : Marks → Marks) : State :=
  Window.list.foldl (fun s w => s.markStroke w f) s

/-- R127: a sample of phase RUN of an up-run is written into its zone's entry; an interval of 0 is written as 1. -/
def writeZoneSample (s : State) (w : Window) (z : Fin 32) (effort interval : Nat) : State :=
  s.setRefs w { s.refsOf w with
    stroke := (s.refsOf w).stroke.map (fun k =>
      { k with samples := k.samples.set z.val (some ⟨effort, max 1 interval⟩) z.isLt }) }

/-- R129, R130: at the top stop an unspoiled stroke teaches its zones; the record then becomes inactive. -/
def judgeStroke (s : State) (w : Window) : State :=
  let r := s.refsOf w
  match r.stroke with
  | none => s
  | some k =>
    if !k.marks.spoiled && teaches k then
      (s.setRefs w { r with zones := learnZones k r.zones, learned := satAdd 255 r.learned 1, stroke := none }).raiseContextChanged w
    else s.endStroke w

/-- R134, R135: all zones become unlearned and the learned-stroke count 0; a pending forget is withdrawn. -/
def forgetReferences (s : State) (w : Window) : State :=
  s.setRefs w { s.refsOf w with zones := Vector.replicate 32 none, learned := 0, pendingForget := none }

/-- R135: the next run start carries out a pending forget. -/
def carryOutForget (s : State) (w : Window) : State :=
  if (s.refsOf w).pendingForget.isSome then (s.forgetReferences w).raiseContextChanged w else s

end State

end Sys2Proof.Machine
end

