-- ==== Sys2Proof/Machine/Trace.lean ====
section
/-! DEFINITION. The trace store (chapter 9): rings, triggers, record buffers and completion. -/

namespace Sys2Proof.Machine
open Sys2Proof

namespace State

/-- The buffer is FREE. -/
def isFree (s : State) (i : Fin 8) : Bool :=
  match s.bufferAt i with
  | .free => true
  | .filling _ | .complete _ _ => false

/-- The buffer is FILLING with a record of window `w`. -/
def fillsFor (s : State) (w : Window) (i : Fin 8) : Bool :=
  match s.bufferAt i with
  | .filling r => r.window = w
  | .free | .complete _ _ => false

/-- The buffer is FILLING. -/
def isFilling (s : State) (i : Fin 8) : Bool :=
  match s.bufferAt i with
  | .filling _ => true
  | .free | .complete _ _ => false

/-- The buffer is COMPLETE. -/
def isComplete (s : State) (i : Fin 8) : Bool :=
  match s.bufferAt i with
  | .complete _ _ => true
  | .free | .filling _ => false

/-- R139: the buffer of the window's FILLING record; no window has more than one. -/
def fillingBuffer (s : State) (w : Window) : Option (Fin 8) := eight.find? (s.fillsFor w)

/-- R139: the FREE buffer that comes first in buffer order. -/
def firstFree (s : State) : Option (Fin 8) := eight.find? s.isFree

/-- R141: a FILLING buffer becomes COMPLETE with a cause and TRACE_READY is raised. -/
def completeBuffer (s : State) (i : Fin 8) (cause : Completion) : State :=
  match s.bufferAt i with
  | .filling r => (s.setBuffer i (.complete r cause)).raiseTraceReady
  | .free | .complete _ _ => s

/-- R141: the FILLING record of a window, if there is one, completes. -/
def completeFilling (s : State) (w : Window) (cause : Completion) : State :=
  match s.fillingBuffer w with
  | some i => s.completeBuffer i cause
  | none => s

/-- R137: a list that keeps its newest 16 entries. -/
def ringAdd (l : List Sample) (x : Sample) : List Sample := (l ++ [x]).drop ((l ++ [x]).length - 16)

/-- R137, R141: a sample joins the ring of its window and the post-trigger list of its FILLING record, which completes
with its eighth post-trigger sample. -/
def addSample (s : State) (w : Window) (x : Sample) : State :=
  let s := s.setRing w (ringAdd (s.trace.rings.get w) x)
  match s.fillingBuffer w with
  | none => s
  | some i =>
    match s.bufferAt i with
    | .filling r =>
      let s := s.setBuffer i (.filling { r with post := r.post ++ [x] })
      if 8 ≤ r.post.length + 1 then s.completeBuffer i .eight else s
    | .free | .complete _ _ => s

/-- R120: the threshold in force for a T and the limited state. -/
def teffOf (t : Nat) (limited : Bool) : Nat := if limited then min 65535 (2 * t) else t

/-- R140: the Teff of a header: that of the latest sample since the last run start, otherwise formed from the T of the
run copy, or of the WINDOW_CAL group when there is no run copy. -/
def headerTeff (s : State) (w : Window) : Nat :=
  match (s.pinchOf w).lastTeff with
  | some t => t
  | none =>
    match (s.pinchOf w).cal with
    | some c => teffOf c.t (s.winRec w).limited
    | none => teffOf (s.calOf w).t (s.winRec w).limited

/-- R139, steps 1 and 2: why a trigger on the window would be refused. -/
def triggerRefusal (s : State) (w : Window) : Option LostReason :=
  if (s.fillingBuffer w).isSome && !s.config.overlapAccept then some .overlap
  else if s.firstFree.isNone then some .full
  else none

/-- R138: the sequence number advances at each trigger taken. -/
def advanceSequence (s : State) : State :=
  { s with trace := { s.trace with sequence := (s.trace.sequence + 1) % 65536 } }

/-- R139, step 4: buffer `i` opens a record. It completes at once when the motion has ended (log entry 12). -/
def openRecord (s : State) (i : Fin 8) (w : Window) (kind : TriggerKind) (sequence : Nat) : State :=
  let r : TraceRec :=
    { sequence, kind, window := w, timeTag := s.timeTag, position := (s.winRec w).position, teff := s.headerTeff w,
      pre := s.trace.rings.get w, post := [] }
  let s := s.setBuffer i (.filling r)
  let s := { s with trace := { s.trace with captures := s.trace.captures ++ [i] } }
  if (s.winRec w).motion.running then s else s.completeBuffer i .stopped

/-- R138, R139: a trigger is taken. -/
def trigger (s : State) (w : Window) (kind : TriggerKind) : State :=
  let sequence := s.trace.sequence
  match s.triggerRefusal w, s.firstFree with
  | some why, _ => s.advanceSequence.raiseTraceLost sequence why
  | none, none => s.advanceSequence
  | none, some i => (s.advanceSequence.completeFilling w .overlap).openRecord i w kind sequence

/-- The record that a buffer holds. -/
def recordAt (s : State) (i : Fin 8) : Option TraceRec :=
  match s.bufferAt i with
  | .free => none
  | .filling r => some r
  | .complete r _ => some r

/-- R144: the oldest COMPLETE record in the capture queue. -/
def oldestComplete (s : State) : Option (Fin 8) := s.trace.captures.find? s.isComplete

/-- R144: a buffer becomes FREE and leaves the capture queue. -/
def freeBuffer (s : State) (i : Fin 8) : State :=
  let s := s.setBuffer i .free
  { s with trace := { s.trace with captures := s.trace.captures.filter (· ≠ i) } }

/-- A cursor value is written. -/
def setCursor (s : State) (c : Option Cursor) : State := { s with trace := { s.trace with cursor := c } }

end State

/-- R144: the number of parts of a record. -/
def TraceRec.parts (r : TraceRec) : Nat := 1 + (r.pre.length + r.post.length + 3) / 4

end Sys2Proof.Machine
end

