-- ==== Sys2Proof/Machine/Windows.lean ====
section
/-! DEFINITION. Motion of the windows (chapter 6): the bridge, the start and the end of runs, presses, stalls, pinch
reaction, inhibits, comfort requests, lockout and window power. -/

namespace Sys2Proof.Machine
open Sys2Proof

/-! ### The output stage's channel (R150) -/

/-- R150: a new drive begins. -/
def ChannelRec.driven (r : ChannelRec) (now : Nat) (d : Drive) : ChannelRec :=
  { r with drive := d, driveStart := some now, ocCount := 0, current := none, judged := false }

/-- R150: the drive ends, with the output OFF or in BRAKE. -/
def ChannelRec.ended (r : ChannelRec) (d : Drive) : ChannelRec := { r with drive := d, driveStart := none, ocCount := 0 }

/-- The drive of a W channel in a direction. -/
def Dir.drive : Dir → Drive
  | .up => .onFirst
  | .down => .onSecond

/-- The direction of a switch position (R93). -/
def switchDir : SwitchPos → Option Dir
  | .neutral => none
  | .up | .upAuto => some .up
  | .down | .downAuto => some .down

/-- The kind of run of a switch position (R93). -/
def switchKind : SwitchPos → RunKind
  | .upAuto | .downAuto => .auto
  | .neutral | .up | .down => .manual

/-- R104: the inhibit causes by name. -/
inductive Cause | crash | thermal | supply | fault
deriving DecidableEq, Repr

/-- R104: a cause written into a set. -/
def Causes.put (c : Causes) (k : Cause) (v : Bool) : Causes :=
  match k with
  | .crash => { c with crash := v }
  | .thermal => { c with thermal := v }
  | .supply => { c with supply := v }
  | .fault => { c with fault := v }

/-- R100: the outcome of a comfort request on one window. -/
inductive ComfortOutcome
  | started
  | skipped
  | refused (c : Code)
deriving DecidableEq, Repr

namespace State

/-- A new drive of a channel begins now. -/
def driveChan (s : State) (ch : Channel) (d : Drive) : State := s.setChan ch ((s.chan ch).driven s.now d)

/-- The drive of a channel ends with the output OFF. -/
def offChan (s : State) (ch : Channel) : State := s.setChan ch ((s.chan ch).ended .off)

/-- The drive of a W channel ends with the bridge in BRAKE. -/
def brakeChan (s : State) (ch : Channel) : State := s.setChan ch ((s.chan ch).ended .brake)

/-- R99: a motion ends into IDLE or INHIBITED: the bridge is braked for 50 ms (through the end of a DWELL's own 50 ms when
its pending run is dropped, R96) or switched off at once, the stroke ends (R129) and the FILLING record completes
(R141). -/
def stopMotion (s : State) (w : Window) (next : Motion) (braked : Bool) (cause : Completion) : State :=
  let r := s.winRec w
  let brake := if braked then some (r.dwell.getD (s.now + Config.brakeTime)) else none
  let s := s.setWin w
    { r with motion := next, startWindow := none, stall := none, stallReached := false, dwell := none, brake }
  let s := if braked then s.brakeChan (.w w) else s.offChan (.w w)
  (s.endStroke w).completeFilling w cause

/-- R99: a run, DWELL or REVERSE ends into IDLE with the brake. -/
def toIdle (s : State) (w : Window) : State := s.stopMotion w .idle true .stopped

/-- R96, R102: a run ends into DWELL: the bridge is braked, samples stop, the 50 ms timer starts, the stroke ends and the
trace store takes a pause. -/
def toDwell (s : State) (w : Window) (p : Pending) : State :=
  let s := s.setWin w
    { s.winRec w with motion := .dwell p, startWindow := none, stall := none, stallReached := false,
                      dwell := some (s.now + Config.dwellTime), brake := none }
  (s.brakeChan (.w w)).endStroke w

/-- R84: the target of a run in a direction under a travel length. -/
def targetOf (dir : Dir) (l : Nat) : Int :=
  match dir with
  | .up => 0
  | .down => l

/-- R96: the run copy of the window's calibration, or the group as it stands when there is none. -/
def runCal (s : State) (w : Window) : Cal := ((s.pinchOf w).cal).getD (s.calOf w)

/-- The record of a window as steps 1 to 3 of R96 leave it. -/
def startedRec (r : WindowRec) (m : Motion) (dir : Dir) (now : Nat) : WindowRec :=
  { r with motion := m, lastDirection := some dir, startPosition := r.position,
           startWindow := some (now + Config.startWindow), stall := some (now + Config.stallTime),
           stallReached := false, dwell := none, brake := none }

/-- R99: a position stands at the travel length or beyond. -/
def atBottom (p : Option Int) (l : Nat) : Bool :=
  match p with
  | some p => decide ((l : Int) ≤ p)
  | none => false

/-- R96, R109, R126, R137: a run starts with the calibration as it stands, which becomes the run copy. A normalised
down-run that starts at L or beyond ends at once (R99). -/
def startRun (s : State) (w : Window) (dir : Dir) (kind : RunKind) (holder : RunHolder) : State :=
  let s := s.carryOutForget w
  let c := s.calOf w
  let s := s.setWin w
    (startedRec (s.winRec w) (.run { dir, kind, target := targetOf dir c.l, holder }) dir s.now)
  let s := s.setPinch w
    { filter := none, acc := 0, lastInterval := 0, pulseBase := s.now, cal := some c, lastTeff := none }
  let s := ((s.setRing w []).startStroke w dir c).driveChan (.w w) dir.drive
  if dir = .down && (s.winRec w).normalised && atBottom (s.winRec w).position c.l then s.toIdle w else s

/-- R103: a REVERSE starts: like a run start, but the calibration, the ring and the stroke record are left. DESIGN CHOICE,
log entry 27: a REVERSE whose position stands at its target or beyond as it starts is driven, and ends at its next pulse
or at a stall. -/
def startReverse (s : State) (w : Window) (target : Int) : State :=
  let s := s.setWin w (startedRec (s.winRec w) (.reverse target) .down s.now)
  let s := s.setPinch w
    { s.pinchOf w with filter := none, acc := 0, lastInterval := 0, pulseBase := s.now }
  s.driveChan (.w w) .onSecond

/-- R94: the kind of a run after degradation. -/
def degrade (s : State) (w : Window) (dir : Dir) (kind : RunKind) : RunKind :=
  let r := s.winRec w
  match kind, dir with
  | .auto, .up => if !r.normalised || r.limited || s.mon.supply = .low then .manual else .auto
  | .auto, .down => if !r.normalised then .manual else .auto
  | k, _ => k

/-- R93: the await_neutral flag of a source. -/
def setAwait (s : State) (w : Window) (x : RunHolder) (v : Bool) : State :=
  let r := s.winRec w
  match x with
  | .panel => s.setWin w { r with awaitPanel := v }
  | .localSw => s.setWin w { r with awaitLocal := v }
  | .comfortB | .comfortK _ => s

/-- R93: a tap. -/
def tap (s : State) (w : Window) (x : RunHolder) : State := (s.toIdle w).setAwait w x true

/-- R93: the change is one by the holder between its two positions of the run's direction. -/
def sameSwitch (r : RunRec) (x : RunHolder) (dir : Dir) (prev : SwitchPos) : Bool :=
  r.holder = x && r.dir = dir && switchDir prev = some dir

/-- R93: a taken press of source `x` that moves its switch from `prev` to `pos`. -/
def press (s : State) (w : Window) (x : RunHolder) (prev pos : SwitchPos) : State :=
  match switchDir pos with
  | none => s
  | some dir =>
    let kind := s.degrade w dir (switchKind pos)
    let r := s.winRec w
    match r.motion with
    | .idle => s.startRun w dir kind x
    | .run k =>
      match k.kind with
      | .manual =>
        if k.dir = dir then
          s.setWin w { r with motion := .run { k with kind, target := targetOf dir (s.runCal w).l, holder := x } }
        else s.toDwell w (.run { dir, kind, target := targetOf dir (s.calOf w).l, holder := x })
      | .auto | .comfort => if sameSwitch k x dir prev then s else s.tap w x
    | .dwell (.run k) =>
      match k.kind with
      | .manual =>
        s.setWin w { r with motion := .dwell (.run { dir, kind, target := targetOf dir (s.calOf w).l, holder := x }) }
      | .auto | .comfort => if sameSwitch k x dir prev then s else s.tap w x
    | .dwell (.reverse _) | .reverse _ | .inhibited => s

/-- R95: a run or pending run that the NEUTRAL of a source ends. -/
def neutralEnds (m : Motion) (x : RunHolder) : Bool :=
  match m.heldRun with
  | some k => k.kind = .manual && k.holder = x
  | none => false

/-- R95: a NEUTRAL event of source `x`. -/
def neutral (s : State) (w : Window) (x : RunHolder) : State :=
  let s := s.setAwait w x false
  if neutralEnds (s.winRec w).motion x then s.toIdle w else s

/-- R102: a pinch is taken at position `p`. -/
def takePinch (s : State) (w : Window) (cause : PinchCause) (p : Int) : State :=
  let c := s.runCal w
  let s := s.markStroke w (fun m => { m with pinch := true })
  let s := s.toDwell w (.reverse (min (p + c.reversal) c.l))
  let r := s.winRec w
  let count := satAdd 3 r.pinchCount 1
  let s := s.setWin w { r with pinchCount := count, limited := r.limited || count = 3 }
  let s := s.raiseWindowEvent w (fun e => { e with pinch := some cause })
  s.trigger w (match cause with | .effort => .pinchEffort | .stall => .pinchStall)

/-- R98: an unexpected stall: the motion ends, STALL is raised and the trace store takes a STALL trigger. -/
def unexpectedStall (s : State) (w : Window) : State :=
  ((s.toIdle w).raiseWindowEvent w (fun e => { e with stall := true })).trigger w .stall

/-- R98: a full down-run is one that started at a position from 0 to 8. -/
def startedAtTop (r : WindowRec) : Bool :=
  match r.startPosition with
  | some p => decide (0 ≤ p) && decide (p ≤ 8)
  | none => false

/-- R98, R99: the bottom is reached: a full down-run clears pinch_count and limited; the motion ends. -/
def bottomReached (s : State) (w : Window) : State :=
  let r := s.winRec w
  let full := match r.motion with
    | .run _ => startedAtTop r
    | .idle | .dwell _ | .reverse _ | .inhibited => false
  let s := if full then s.setWin w { r with pinchCount := 0, limited := false } else s
  s.toIdle w

/-- R98: the top stop is reached at position `p`, and the reference store judges the stroke (R130). -/
def topStop (s : State) (w : Window) (p : Int) : State :=
  let s := s.setWin w
    { s.winRec w with topCorrection := some p, position := some 0, pinchCount := 0, limited := false }
  (s.judgeStroke w).toIdle w

/-- R98: the stall of an unnormalised up-run normalises the window. -/
def normalise (s : State) (w : Window) : State :=
  let s := s.setWin w { s.winRec w with position := some 0, normalised := true, topCorrection := none }
  ((s.toIdle w).raiseWindowEvent w (fun e => { e with normalised := true })).raiseContextChanged w

/-- R98: a stall is judged; it is taken in RUN and REVERSE only (R97). -/
def takeStall (s : State) (w : Window) : State :=
  let r := s.winRec w
  let c := s.runCal w
  match r.motion.drivenDir, r.normalised, r.position with
  | none, _, _ => s
  | some .up, true, some p =>
    if p ≤ 8 then s.topStop w p
    else if p ≤ c.pz then s.takePinch w .stall p
    else s.unexpectedStall w
  | some .up, _, _ => s.normalise w
  | some .down, true, some p => if (c.l : Int) - 16 ≤ p then s.bottomReached w else s.unexpectedStall w
  | some .down, _, _ => s.toIdle w

/-- R87: a pulse carries the position below −64 and the window loses its normalisation. -/
def loseNormalisation (s : State) (w : Window) : State :=
  let s := s.setWin w { s.winRec w with position := none, normalised := false, topCorrection := none }
  let s := s.markStroke w (fun m => { m with unnormalised := true })
  let s := match (s.winRec w).motion with
    | .run _ => s.toIdle w
    | .idle | .dwell _ | .reverse _ | .inhibited => s
  (s.raiseWindowEvent w (fun e => { e with unnormalised := true })).raiseContextChanged w

/-- R99: the motion's target stands at or before a position: L on a down-run, the reverse target in REVERSE. -/
def targetReached (m : Motion) (c : Cal) (p : Int) : Bool :=
  match m with
  | .run k => k.dir = .down && decide ((c.l : Int) ≤ p)
  | .reverse t => decide (t ≤ p)
  | .idle | .dwell _ | .inhibited => false

/-- R87: one count in a direction on a normalised window at position `p`. -/
def count (s : State) (w : Window) (dir : Dir) (p : Int) : State :=
  match dir with
  | .up => if p - 1 < -64 then s.loseNormalisation w else s.setWin w { s.winRec w with position := some (p - 1) }
  | .down =>
    let s := s.setWin w { s.winRec w with position := some (min 4095 (p + 1)) }
    if targetReached (s.winRec w).motion (s.runCal w) (min 4095 (p + 1)) then s.bottomReached w else s

/-- R87: the direction in which a pulse counts: that of the motion in RUN and REVERSE, otherwise last_direction. -/
def countDir (r : WindowRec) : Option Dir :=
  match r.motion.drivenDir with
  | some d => some d
  | none => r.lastDirection

/-- R118: a pulse in RUN or REVERSE sets last_interval and restarts since_pulse. -/
def pulseTiming (s : State) (w : Window) : State :=
  match (s.winRec w).motion.drivenDir with
  | some _ => s.setPinch w { s.pinchOf w with lastInterval := s.sincePulse w, pulseBase := s.now }
  | none => s

/-- R87, R97, R118: a ripple pulse. -/
def ripple (s : State) (w : Window) : State :=
  let s := s.pulseTiming w
  let s := s.setWin w { s.winRec w with stall := some (s.now + Config.stallTime), stallReached := false }
  let r := s.winRec w
  match r.normalised, r.position, countDir r with
  | true, some p, some dir => s.count w dir p
  | _, _, _ => s

/-- The pending run may start: R94 allows a COMFORT up-run only on a window that is normalised and not limited. -/
def mayStart (r : WindowRec) (k : RunRec) : Bool :=
  !(k.kind = .comfort && k.dir = .up && (!r.normalised || r.limited))

/-- R96, R103: the DWELL timer has run out. -/
def endDwell (s : State) (w : Window) : State :=
  let r := s.winRec w
  match r.motion with
  | .dwell (.run k) => if mayStart r k then s.startRun w k.dir (s.degrade w k.dir k.kind) k.holder else s.toIdle w
  | .dwell (.reverse t) => s.startReverse w t
  | .idle | .run _ | .reverse _ | .inhibited => s

/-- R104: a cause is added: any motion is dropped with the bridge switched off at once, and the window is INHIBITED. -/
def addCause (s : State) (w : Window) (k : Cause) : State :=
  let r := s.winRec w
  let s := s.setWin w { r with causes := r.causes.put k true }
  if r.motion = .inhibited then s else s.stopMotion w .inhibited false .stopped

/-- R104: a cause is removed; a window with none left becomes IDLE. -/
def removeCause (s : State) (w : Window) (k : Cause) : State :=
  let r := s.winRec w
  let causes := r.causes.put k false
  s.setWin w { r with causes, motion := if r.motion = .inhibited && noCause causes then .idle else r.motion }

/-- A cause is added on all four windows. -/
def addCauseAll (s : State) (k : Cause) : State := Window.list.foldl (fun s w => s.addCause w k) s

/-- A cause is removed on all four windows. -/
def removeCauseAll (s : State) (k : Cause) : State := Window.list.foldl (fun s w => s.removeCause w k) s

/-- The run or pending run of a window is held by a source that `f` names. -/
def heldBy (r : WindowRec) (f : RunHolder → Bool) : Bool :=
  match r.motion.heldRun with
  | some k => f k.holder
  | none => false

/-- R99: a run or pending run that `f`'s sources hold ends. -/
def endHeld (s : State) (f : RunHolder → Bool) (w : Window) : State :=
  if heldBy (s.winRec w) f then s.toIdle w else s

/-- R99: the runs and pending runs that `f`'s sources hold end on every window. -/
def endHeldAll (s : State) (f : RunHolder → Bool) : State := Window.list.foldl (fun s w => s.endHeld f w) s

/-- R88: window power has ended: the runs held by PANEL and LOCAL end. -/
def endPower (s : State) : State := s.endHeldAll (fun h => h = .panel || h = .localSw)

/-- R88: the retained-power timer stops or runs out; while PARKED that ends window power. -/
def stopRetained (s : State) : State :=
  if s.win.retained.isSome then
    let s := { s with win := { s.win with retained := none } }
    if s.win.mode = .parked then s.endPower else s
  else s

/-- R92: the local switch of a rear window is locked out. -/
def lockedOut (s : State) (w : Window) : Bool :=
  match windowRear w with
  | some r => s.win.rearLockout || (s.config.childLockout && (s.childOf r).goal = .engaged)
  | none => false

/-- R92: a lockout begins on a window. -/
def beginLockout (s : State) (w : Window) : State := s.endHeld (fun h => h = .localSw) w

/-- R100: a comfort request on one window. -/
def comfortOutcome (s : State) (w : Window) : ComfortOutcome :=
  let r := s.winRec w
  if r.motion = .inhibited then .refused (if r.causes.crash then .crash else .state)
  else if !r.normalised || r.limited then .skipped
  else
    match r.motion.holder with
    | some .reversal | some (.of .panel) | some (.of .localSw) => .refused .held
    | some (.of .comfortB) | some (.of (.comfortK _)) | none => .started

/-- R100: what a comfort request does on one window that it is STARTED on. -/
def comfortStart (s : State) (w : Window) (dir : Dir) (h : RunHolder) : State :=
  let r := s.winRec w
  let k : RunRec := { dir, kind := .comfort, target := targetOf dir (s.calOf w).l, holder := h }
  match r.motion with
  | .idle => s.startRun w dir .comfort h
  | .run old =>
    if old.dir = dir then
      s.setWin w { r with motion := .run { old with kind := .comfort, target := targetOf dir (s.runCal w).l, holder := h } }
    else s.toDwell w (.run k)
  | .dwell (.run _) => s.setWin w { r with motion := .dwell (.run k) }
  | .dwell (.reverse _) | .reverse _ | .inhibited => s

/-- R100: a comfort request on one window. -/
def comfortOn (s : State) (w : Window) (dir : Dir) (h : RunHolder) : State :=
  if s.comfortOutcome w = .started then s.comfortStart w dir h else s

/-- R100: the outcomes of a comfort request, in window order; each window is judged on its own record. -/
def comfortOutcomes (s : State) : Windows ComfortOutcome :=
  ⟨s.comfortOutcome .wfd, s.comfortOutcome .wfp, s.comfortOutcome .wrd, s.comfortOutcome .wrp⟩

/-- R100: a comfort request on the four windows in order. -/
def comfortAll (s : State) (dir : Dir) (h : RunHolder) : State :=
  Window.list.foldl (fun s w => s.comfortOn w dir h) s

end State

end Sys2Proof.Machine
end

