-- ==== Sys2Proof/Machine/Locks.lean ====
section
/-! DEFINITION. The lock sequencer (chapter 2): acceptance, queue, starts, operations, repeat record, relock timer. -/

namespace Sys2Proof.Machine
open Sys2Proof

/-! ### Commands (R20) -/

/-- R20: the class of a command. -/
inductive CmdClass | lock | unlock | release | child
deriving DecidableEq, Repr

/-- R20: the class of a kind. -/
def CmdKind.cls : CmdKind → CmdClass
  | .lockAll | .superlockAll => .lock
  | .unlockAll | .unlockDriver | .unlockOne _ | .unlockTailgate => .unlock
  | .releaseTailgate => .release
  | .childSet _ _ => .child

/-- R20: every command but CHILD_SET is lock-class. -/
def CmdKind.lockClass (k : CmdKind) : Bool := k.cls != .child

/-- R20: the goal that a kind writes on a closure, none where the closure is no target. -/
def CmdKind.goal : CmdKind → Closure → Option LockPos
  | .lockAll, _ => some .locked
  | .superlockAll, .tg => some .locked
  | .superlockAll, .fd | .superlockAll, .fp | .superlockAll, .rd | .superlockAll, .rp => some .superlocked
  | .unlockAll, _ => some .unlocked
  | .unlockDriver, c => if c = .fd then some .unlocked else none
  | .unlockOne o, c => if c = otherClosure o then some .unlocked else none
  | .unlockTailgate, c => if c = .tg then some .unlocked else none
  | .releaseTailgate, _ => none
  | .childSet _ _, _ => none

/-- R20: two commands are opposite. Every LOCK command targets all five closures, so it shares one with every UNLOCK
command. -/
def CmdKind.opposite : CmdKind → CmdKind → Bool
  | .childSet r a, .childSet r' b => r = r' && a != b
  | k, k' => (k.cls = .lock && k'.cls = .unlock) || (k.cls = .unlock && k'.cls = .lock)

/-- The last_source that a command's start writes; RELEASE_TAILGATE, the one command from the tailgate button, writes
none (R2, R41). -/
def CmdSource.last : CmdSource → Option LastSource
  | .b => some .b
  | .kFob i => some (.kFob i)
  | .kPassive i => some (.kPassive i)
  | .dButton => some .dButton
  | .key => some .key
  | .innerHandle => some .innerHandle
  | .relock => some .relock
  | .tgButton => none

/-- R33: the origin that the repeat record takes from a source. -/
def CmdSource.origin : CmdSource → Origin
  | .kFob i | .kPassive i => .slot i
  | .key => .key
  | .b | .dButton | .innerHandle | .relock | .tgButton => .other

/-- R33: the action that the repeat record takes from a kind. -/
def CmdKind.repeatAction (k : CmdKind) : RepeatAction :=
  match k.cls with
  | .lock => .lock
  | .unlock => .unlock
  | .release | .child => .other

/-- R38: the sources whose unlocks arm the relock timer. -/
def CmdSource.arms : CmdSource → Bool
  | .b | .kFob _ | .kPassive _ => true
  | .dButton | .key | .innerHandle | .relock | .tgButton => false

/-- R21: a command as it reaches the sequencer. -/
structure Command where
  kind : CmdKind
  source : CmdSource
  port : Option Port
  tag : Option Byte
  paired : Bool
deriving DecidableEq, Repr

/-- A command from inside the part: port none, no tag, unpaired. -/
def Command.internal (kind : CmdKind) (source : CmdSource) : Command :=
  { kind, source, port := none, tag := none, paired := false }

/-- A command that a request of a port carries. -/
def Command.ofPort (kind : CmdKind) (source : CmdSource) (p : Port) (tag : Byte) : Command :=
  { kind, source, port := some p, tag := some tag, paired := false }

/-- The PENDING entry that a command becomes. -/
def Command.entry (c : Command) : Entry :=
  { kind := c.kind, source := c.source, port := c.port, tag := c.tag, paired := c.paired, running := false }

/-- R26: the order UNLOCKED, LOCKED, SUPERLOCKED. -/
def LockPos.rank : LockPos → Nat
  | .unlocked => 0
  | .locked => 1
  | .superlocked => 2

/-- R26: the operation that R24 creates. -/
def Op.fresh (g : OpGoal) (retries : Nat) : Op :=
  { goal := g, phase := .waitSlot, slot := false, retriesLeft := retries, direction := none, pulse := none,
    crash := false, timer := none }

/-! ### Queue (R23) -/

/-- R23: of two identical PENDING entries next to each other the later one is removed. -/
def dedupe : List Entry → List Entry
  | [] => []
  | e :: rest =>
    match dedupe rest with
    | [] => [e]
    | f :: more => if !e.running && !f.running && e.kind = f.kind then e :: more else e :: f :: more

/-- R23: the newest PENDING entry. -/
def newestPending (q : List Entry) : Option Entry :=
  match q.getLast? with
  | some e => if e.running then none else some e
  | none => none

/-- R23: an entry that step 1 removes for a new command. -/
def cancels (k : CmdKind) (e : Entry) : Bool := !e.running && k.opposite e.kind

/-- R23, step 1: the queue after the opposite PENDING entries are removed. -/
def cancelled (k : CmdKind) (q : List Entry) : List Entry :=
  if q.any (cancels k) then dedupe (q.filter (fun e => !cancels k e)) else q

/-- The outcome of an offer to the sequencer: OK, MERGED or a refusal (R21). -/
def Code.accepted (c : Code) : Bool := c = .ok || c = .merged

namespace State

/-- R22: the acceptance checks; the code of the first that fails. -/
def acceptance (s : State) (c : Command) : Option Code :=
  if s.crash.latch && c.kind.lockClass then some .crash
  else if c.kind.cls = .lock && s.closures.fd.latch = .ajar && c.source != .b then some .ajar
  else if c.kind = .releaseTailgate && !c.paired then
    if s.closures.tg.lockGoal != .unlocked || s.closures.tg.lockSensed != .unlocked then some .tgLocked
    else if s.closures.tg.latch = .ajar then some .ajar
    else none
  else none

/-- R23: the answer of the queue steps. -/
def placement (s : State) (c : Command) : Code :=
  let q := cancelled c.kind s.seq.queue
  match newestPending q with
  | some e => if e.kind = c.kind then .merged else if 4 ≤ q.length then .busy else .ok
  | none => if 4 ≤ q.length then .busy else .ok

/-- R22, R23: what the sequencer answers to a command. -/
def offerCode (s : State) (c : Command) : Code := (s.acceptance c).getD (s.placement c)

/-- R33: an accepted lock-class command replaces the repeat record. -/
def recordRepeat (s : State) (c : Command) : State :=
  if c.kind.lockClass then
    s.setRepeat (some { origin := c.source.origin, action := c.kind.repeatAction, time := s.now })
  else s

/-- R22, R23, R33: a command is offered to the sequencer; a refused one changes nothing. -/
def offer (s : State) (c : Command) : State :=
  let code := s.offerCode c
  if code.accepted then
    let old := s.seq.queue
    let q := cancelled c.kind old
    let s := (old.filter (cancels c.kind)).foldl raiseCancelled s
    let s := s.setQueue (if code = .ok then q ++ [c.entry] else q)
    s.recordRepeat c
  else s

/-- R33: the repeat record matches a new action taken now. -/
def repeatMatches (s : State) (o : Origin) (a : RepeatAction) : Bool :=
  match s.seq.repeatRec with
  | some r => r.origin = o && r.action = a && decide (s.now ≤ r.time + Config.repeatWindow)
  | none => false

/-- R34: a LOCK action becomes SUPERLOCK_ALL when the repeat record matches, otherwise LOCK_ALL. -/
def lockAction (s : State) (o : Origin) : CmdKind :=
  if s.repeatMatches o .lock then .superlockAll else .lockAll

/-- R35: an UNLOCK action becomes UNLOCK_DRIVER by the selective rule, otherwise UNLOCK_ALL. -/
def unlockAction (s : State) (o : Origin) : CmdKind :=
  if s.config.selectiveUnlock && s.mode != .allOpen && !s.repeatMatches o .unlock then .unlockDriver else .unlockAll

/-- R37: the entries of a queue in which the relock LOCK_ALL is placed directly behind the RUNNING entry. -/
def insertFront (e : Entry) : List Entry → List Entry
  | [] => [e]
  | h :: rest => if h.running then h :: e :: rest else e :: h :: rest

/-- R37: the first PENDING entry. -/
def firstPending (q : List Entry) : Option Entry := q.find? (fun e => !e.running)

/-- R37: the relock to LOCKED at a latch going AJAR in mode SUPERLOCKED. -/
def superlockRelock (s : State) : State :=
  let q := s.seq.queue
  let first := match firstPending q with
    | some e => e.kind = .lockAll
    | none => false
  let unlock := q.any (fun e => !e.running && e.kind = .unlockAll)
  if s.mode != .superlocked || first || unlock then s
  else
    let c := Command.internal .lockAll .relock
    let s := match decide (4 ≤ q.length), newestPending q with
      | true, some e => (s.raiseCancelled e).setQueue (insertFront c.entry q.dropLast)
      | _, _ => s.setQueue (insertFront c.entry q)
    s.recordRepeat c

/-! ### End of operations and commands (R25, R31) -/

/-- R25: the RUNNING command whose operations have all ended is removed. -/
def finishIfDone (s : State) : State :=
  match s.seq.queue with
  | e :: rest => if e.running && !s.ordinaryOps then s.setQueue rest else s
  | [] => s

/-- R31: the port of the RUNNING command. -/
def runningPort (s : State) : Option Port :=
  match s.seq.queue with
  | e :: _ => if e.running then e.port else none
  | [] => none

/-- The closure that ACTUATION_FAILED names for a channel (R31). -/
def failClosure : Actuator → Closure
  | .l c => c
  | .c r => rearClosure r
  | .t1 => .tg

/-- R31: confirmed or child_confirmed takes the value that an operation's end gives; a T1 operation changes none. -/
def confirmEnd (s : State) (a : Actuator) (v : Bool) : State :=
  match a with
  | .l c => s.writeConfirmed c v
  | .c r => s.writeChildConfirmed r v
  | .t1 => s

/-- R29, R31: the sensed value of a channel equals its closure's or child lock's goal. -/
def atGoal (s : State) (a : Actuator) : Bool :=
  match a with
  | .l c => (s.closure c).lockSensed = (s.closure c).lockGoal.sensed
  | .c r => (s.childOf r).sensed = (s.childOf r).goal
  | .t1 => true

/-- R29: the sensed value of a channel equals the goal of an operation on it. -/
def senseEquals (s : State) (a : Actuator) (g : OpGoal) : Bool :=
  match a, g with
  | .l c, .lock p => (s.closure c).lockSensed = p.sensed
  | .c r, .child st => (s.childOf r).sensed = st
  | .t1, .release => true
  | .l _, .child _ | .l _, .release | .c _, .lock _ | .c _, .release | .t1, .lock _ | .t1, .child _ => false

/-- An operation record is removed: a drive in progress is switched off, and any slot it holds goes back with it. -/
def dropOp (s : State) (a : Actuator) : State :=
  let s := match s.opAt a with
    | some o => if o.phase = OpPhase.drive then s.offChan (.act a) else s
    | none => s
  s.setOp a none

/-- R31: an operation of the RUNNING command ends SUCCESS. -/
def endSuccess (s : State) (a : Actuator) : State := ((s.dropOp a).confirmEnd a true).finishIfDone

/-- R31: an operation of the RUNNING command ends FAILED, WITHDRAWN or HOT_WITHHELD with its reason. -/
def endFailed (s : State) (a : Actuator) (why : FailReason) : State :=
  (((s.dropOp a).confirmEnd a false).raiseActuationFailed (failClosure a) why s.runningPort).finishIfDone

/-! ### Pulses (R26 to R30) -/

/-- R26: the direction of a pulse on an L channel. -/
def lockDirection (c : Closure) (goal : LockPos) (sensed : Sensed) : ActDir :=
  match c, sensed.pos with
  | .tg, _ | _, none => if goal = .unlocked then .unlock else .lock
  | _, some at_ => if LockPos.rank at_ < LockPos.rank goal then .lock
      else if LockPos.rank goal < LockPos.rank at_ then .unlock
      else if goal = .unlocked then .unlock else .lock

/-- R26: the direction of the pulse that starts on a channel. -/
def pulseDir (s : State) (a : Actuator) (g : OpGoal) : ActDir :=
  match a, g with
  | .l c, .lock p => lockDirection c p (s.closure c).lockSensed
  | _, .child .engaged => .engage
  | _, _ => .release

/-- R26: the length in milliseconds of an ordinary pulse that starts on a channel. -/
def pulseMs (s : State) (a : Actuator) (g : OpGoal) : Nat :=
  match a with
  | .l .tg => 150
  | .l c => if g = .lock .superlocked || (s.closure c).lockSensed = .superlocked then 250 else 150
  | .c _ => 150
  | .t1 => 400

/-- R165: the output direction of a pulse: lock, engage and the release of T1 are the first direction. -/
def dirDrive (a : Actuator) : ActDir → Drive
  | .lock | .engage => .onFirst
  | .unlock => .onSecond
  | .release => if a = .t1 then .onFirst else .onSecond

/-- R28: all checks have passed: the operation enters DRIVE. -/
def startPulse (s : State) (a : Actuator) (o : Op) : State :=
  let dir := s.pulseDir a o.goal
  let len := s.pulseMs a o.goal
  let s := s.setOp a (some
    { o with phase := .drive, direction := some dir, pulse := some len, timer := some (s.now + Config.ms len) })
  (s.driveChan (.act a) (dirDrive a dir)).addHeat a

/-- R28: the heat count of an L or C channel is at or above the withhold threshold in force. -/
def tooHot (s : State) (a : Actuator) : Bool :=
  match s.heatOf a with
  | some h => decide (s.withholdThreshold ≤ h)
  | none => false

/-- R28: the checks at the moment a granted operation's pulse would start. -/
def pulseCheck (s : State) (a : Actuator) : State :=
  match s.opAt a with
  | none => s
  | some o =>
    if (s.chan (.act a)).withdrawn then s.endFailed a .withdrawn
    else if s.tooHot a then s.endFailed a .hotWithheld
    else if s.mon.supply = .cut then s
    else s.startPulse a o

/-- R27: the operation waits in WAIT_SLOT with no slot. -/
def waits (s : State) (a : Actuator) : Bool :=
  match s.opAt a with
  | some o => o.phase = .waitSlot && !o.slot && !o.crash
  | none => false

/-- R27: the waiting operation that a grant would go to, when a slot is free. -/
def nextGrant (s : State) : Option Actuator :=
  if s.heldSlots < 3 then Actuator.list.find? s.waits else none

/-- R27, R28: a free slot is granted to the first waiting operation in channel order, and its pulse is checked. -/
def grantSlot (s : State) : State :=
  match s.nextGrant with
  | none => s
  | some a =>
    let s := match s.opAt a with
      | some o => s.setOp a (some { o with slot := true })
      | none => s
    s.pulseCheck a

/-- R29: the pulse timer of an ordinary operation expires: L and C enter SETTLE, T1 ends SUCCESS (R41). -/
def endPulse (s : State) (a : Actuator) (o : Op) : State :=
  match a with
  | .t1 => s.endSuccess .t1
  | .l _ | .c _ =>
    (s.offChan (.act a)).setOp a (some
      { o with phase := .settle, slot := false, timer := some (s.now + Config.settleTime) })

/-- R29: SETTLE of an ordinary operation ends. -/
def endSettle (s : State) (a : Actuator) (o : Op) : State :=
  if s.senseEquals a o.goal then s.endSuccess a
  else if o.retriesLeft = 0 then s.endFailed a .noMove
  else s.setOp a (some
    { o with phase := .waitSlot, slot := false, retriesLeft := o.retriesLeft - 1, timer := none })

/-- R30: supply CUT drops the pulse of an ordinary operation in DRIVE, which waits with its slot. -/
def dropPulse (s : State) (a : Actuator) : State :=
  match s.opAt a with
  | some o =>
    if o.phase = .drive && !o.crash then
      (s.offChan (.act a)).setOp a (some { o with phase := .waitSlot, timer := none })
    else s
  | none => s

/-- R30: supply CUT on every channel. -/
def dropPulses (s : State) : State := Actuator.list.foldl dropPulse s

/-- R28: an operation that holds a slot through a CUT is checked when the supply leaves CUT. -/
def resumePulse (s : State) (a : Actuator) : State :=
  match s.opAt a with
  | some o => if o.phase = .waitSlot && o.slot && !o.crash then s.pulseCheck a else s
  | none => s

/-- R28: the supply leaves CUT, on every channel in order. -/
def resumePulses (s : State) : State := Actuator.list.foldl resumePulse s

/-- R42: one operation of the RUNNING command ends ABORTED with reason THERMAL. -/
def thermalAbort (s : State) (a : Actuator) : State :=
  match s.opAt a with
  | some o =>
    if o.crash then s
    else ((s.dropOp a).confirmEnd a (s.atGoal a)).raiseActuationFailed (failClosure a) .thermal s.runningPort
  | none => s

/-- R42: the temperature enters HOT: every operation of the RUNNING command is aborted and the command finishes. -/
def thermalAborts (s : State) : State := (Actuator.list.foldl thermalAbort s).finishIfDone

/-! ### Start of commands (R24) -/

/-- R24: the head may start. -/
def canStart (s : State) : Bool :=
  match s.seq.queue with
  | e :: _ => !e.running && s.mon.temp != .hot && !s.crashOps
  | [] => false

/-- R36: the first superlock condition that fails. -/
def superlockFailure (s : State) : Option SuperlockReason :=
  if Closure.list.any (fun c => (s.closure c).latch != .closed) then some .latch
  else if s.win.mode != .parked then some .notParked
  else if Side.list.any (fun c => (s.chan (.act (.l (sideClosure c)))).withdrawn) then some .withdrawn
  else none

/-- R24, step 4: an L operation is created when the closure is unconfirmed or away from its goal. -/
def createLockOp (s : State) (c : Closure) : State :=
  let r := s.closure c
  if !r.confirmed || r.lockSensed != r.lockGoal.sensed then s.setOp (.l c) (some (.fresh (.lock r.lockGoal) 2)) else s

/-- R24, steps 3 and 4 on one closure. -/
def startOn (k : CmdKind) (src : CmdSource) (s : State) (c : Closure) : State :=
  match k.goal c with
  | some g => (s.writeGoal c g (src.last.getD (s.closure c).lastSource)).createLockOp c
  | none => s

/-- R38, R39: the relock timer at the start of a lock-class command: cancelled, and armed by an arming unlock. -/
def relockAtStart (s : State) (k : CmdKind) (src : CmdSource) : State :=
  let arms := (k = .unlockAll || k = .unlockDriver) && src.arms && s.config.relockTime != 0
  s.setRelock (if arms then some (s.now + Config.sec s.config.relockTime) else none)

/-- R41: the checks of a RELEASE_TAILGATE at its start. -/
def releaseAllowed (s : State) : Bool :=
  let r := s.closures.tg
  r.lockGoal = .unlocked && r.lockSensed = .unlocked && r.latch != .ajar

/-- R41: a RELEASE_TAILGATE starts. -/
def startRelease (s : State) (port : Option Port) : State :=
  if s.releaseAllowed then s.setOp .t1 (some (.fresh .release 0))
  else s.raiseActuationFailed .tg .releaseRefused port

/-- R40: a CHILD_SET starts; a child_goal that becomes ENGAGED under the policy begins the lockout (R92). -/
def startChild (s : State) (r : Rear) (st : ChildState) : State :=
  let s := s.writeChildGoal r st
  let s := if st = .engaged && s.config.childLockout then s.beginLockout (rearWindow r) else s
  let v := s.childOf r
  if !v.confirmed || v.sensed != v.goal then s.setOp (.c r) (some (.fresh (.child v.goal) 2)) else s

/-- R24, steps 3 to 5, for the kind that the entry runs as. -/
def startKind (s : State) (k : CmdKind) (e : Entry) : State :=
  match k with
  | .childSet r st => s.startChild r st
  | .releaseTailgate => (s.startRelease e.port).relockAtStart k e.source
  | .lockAll | .superlockAll | .unlockAll | .unlockDriver | .unlockOne _ | .unlockTailgate =>
    (Closure.list.foldl (startOn k e.source) s).relockAtStart k e.source

/-- R24, R36: the head entry starts; a SUPERLOCK_ALL whose conditions fail runs as LOCK_ALL. A command that creates no
operation finishes at once. -/
def startHead (s : State) : State :=
  match s.seq.queue with
  | [] => s
  | e :: rest =>
    let fail := if e.kind = .superlockAll then s.superlockFailure else none
    let k := if fail.isSome then .lockAll else e.kind
    let s := s.setQueue ({ e with kind := k, running := true } :: rest)
    let s := match fail with
      | some why => s.raiseSuperlockRefused why e.port
      | none => s
    (s.startKind k e).finishIfDone

/-- R24: the head is tried. -/
def tryHead (s : State) : State := if s.canStart then s.startHead else s

end State

end Sys2Proof.Machine
end

