-- ==== Sys2Proof/Machine/Keyless.lean ====
section
/-! DEFINITION. The credential checker (chapter 4) and the touch window table (chapter 5). -/

namespace Sys2Proof.Machine
open Sys2Proof

/-- R58: the outcome of the counter step. -/
inductive CounterVerdict | duplicate | stale | resyncNeeded | accepted
deriving DecidableEq, Repr

/-- R58: the counter distance. -/
def counterDistance (c counter : Nat) : Nat :=
  (c % Config.counterModulus + (Config.counterModulus - counter % Config.counterModulus)) % Config.counterModulus

/-- R58, row 1: the frame repeats the last accepted one; a passive claim has no action and never does (R62). DESIGN CHOICE,
log entry 28: on the tick at which the 1 s window ends, the frame is taken first (R59 gives both orders). -/
def repeatsLast (f : FobSlot) (now : Nat) (action : Option FobAction) : Bool :=
  match f.lastAccepted, action with
  | some a, some x => decide (now ≤ a.time + Config.duplicateWindow) && x = a.action
  | _, _ => false

/-- R58, row 4: the counter confirms the slot's candidate. -/
def confirmsCandidate (f : FobSlot) (c : Nat) : Bool :=
  match f.candidate with
  | some k => c = (k.value + 1) % Config.counterModulus || c = (k.value + 2) % Config.counterModulus
  | none => false

/-- R58: the classification of counter `c` against a slot. -/
def classify (f : FobSlot) (now c : Nat) (action : Option FobAction) : CounterVerdict :=
  let d := counterDistance c f.counter
  if d = 0 then if repeatsLast f now action then .duplicate else .stale
  else if 32768 < d then .stale
  else if d ≤ 256 then .accepted
  else if confirmsCandidate f c then .accepted
  else if f.streak < 8 then .resyncNeeded
  else .stale

/-- R63: the right that an action needs. -/
def FobAction.allowed : FobAction → Rights → Bool
  | .lock, r | .unlock, r => r.doors
  | .tailgate, r => r.tailgate
  | .comfortClose, r | .comfortOpen, r | .comfortStop, r => r.comfort

/-- R66: the session direction of a comfort action. -/
def FobAction.comfort : FobAction → Option ComfortDir
  | .comfortClose => some .close
  | .comfortOpen => some .opening
  | .lock | .unlock | .tailgate | .comfortStop => none

/-- R66: the window direction of a session direction. -/
def ComfortDir.dir : ComfortDir → Dir
  | .close => .up
  | .opening => .down

/-- R57: the answer formed from the outcomes of the things handed over: `cmds` are the sequencer's answers, `wins` the
refusals of windows, `runs` says that a window run was started. -/
def formAnswer (cmds wins : List Code) (runs : Bool) : Code :=
  match (cmds ++ wins).find? (fun c => !c.accepted) with
  | some c => c
  | none => if !cmds.isEmpty && cmds.all (fun c => c = .merged) && !runs then .merged else .ok

/-- R101, R66: the refusals among the comfort outcomes, in window order. -/
def comfortRefusals (o : Windows ComfortOutcome) : List Code :=
  (Window.list.map o.get).filterMap (fun x => match x with
    | .refused c => some c
    | .started | .skipped => none)

/-- The windows on which a comfort run was started. -/
def comfortStarted (o : Windows ComfortOutcome) : Windows Bool := o.map (fun x => x = .started)

namespace State

/-- R60, R61: the reject streak rises, saturating at 15. -/
def rejected (f : FobSlot) : FobSlot := { f with streak := satAdd 15 f.streak 1 }

/-- R59 to R62: what the classification leaves in the slot; an acceptance raises FOB_COUNTER. -/
def applyCounter (s : State) (i : Fin 8) (c : Nat) (action : Option FobAction) (v : CounterVerdict) : State :=
  let f := s.slotAt i
  match v with
  | .duplicate => s.setSlot i { f with lastAccepted := f.lastAccepted.map (fun a => { a with time := s.now }) }
  | .stale => s.setSlot i (rejected f)
  | .resyncNeeded =>
    s.setSlot i { rejected f with candidate := some { value := c, expiry := s.now + Config.candidateLife } }
  | .accepted =>
    (s.setSlot i { f with counter := c, candidate := none, streak := 0,
                          lastAccepted := action.map (fun a => { time := s.now, action := a }) }).raiseFobCounter i

/-- R66: the session belongs to a slot and has a direction. -/
def sessionIs (s : State) (i : Fin 8) (d : ComfortDir) : Bool :=
  match s.fobs.session with
  | some x => x.slot = i && x.dir = d
  | none => false

/-- R67: the keep-alive timer restarts. -/
def renewSession (s : State) : State :=
  s.setSession (s.fobs.session.map (fun x => { x with keepAlive := s.now + Config.keepAlive }))

/-- R67, R68: the session ends and the runs held by COMFORT_K with its slot are stopped. -/
def endSession (s : State) : State :=
  match s.fobs.session with
  | some x => (s.setSession none).endHeldAll (fun h => h = RunHolder.comfortK x.slot)
  | none => s

/-- R66, step 3: the session is replaced; the runs still held under another slot are stopped. -/
def replaceSession (s : State) (i : Fin 8) (d : ComfortDir) : State :=
  let s := match s.fobs.session with
    | some x => if x.slot = i then s else s.endHeldAll (fun h => h = RunHolder.comfortK x.slot)
    | none => s
  s.setSession (some { slot := i, dir := d, keepAlive := s.now + Config.keepAlive })

/-- R66: a new start of a comfort session. -/
def comfortNew (s : State) (i : Fin 8) (d : ComfortDir) (cmd : Command) : State :=
  ((s.offer cmd).comfortAll d.dir (.comfortK i)).replaceSession i d

/-- R73: a touch event on a source is judged by the passive policy and the entry. -/
def touchEvent (s : State) (t : TouchSource) : State :=
  match s.config.passive, s.touch.get t with
  | true, .idle | true, .expired _ => (s.setTouch t (.waiting s.now)).raiseHandleTouch
  | true, .waiting _ | false, _ => s

/-- R82: a press of the tailgate button. -/
def tailgatePress (s : State) : State :=
  if s.closures.tg.lockGoal = .unlocked && s.closures.tg.lockSensed = .unlocked then
    if s.crash.latch then s else s.offer (.internal .releaseTailgate .tgButton)
  else s.touchEvent .tgButton

end State

end Sys2Proof.Machine
end

