-- ==== Sys2Proof/Machine/Operands.lean ====
section
/-! DEFINITION. The fields of request and response payloads (R165): reading fields of a payload, and the bytes of each
field type. -/

namespace Sys2Proof.Machine
open Sys2Proof

/-! ### Reading a payload -/

/-- A one-byte field. -/
def byteAt (q : List Byte) (i : Nat) : Nat := (q.getD i 0).toNat

/-- A field of several bytes, most significant first. -/
def fieldAt (q : List Byte) (i n : Nat) : Nat := ofBytes ((q.drop i).take n)

/-- An enumeration field: the value at that place of its list, none outside the list. -/
def pick (l : List α) (q : List Byte) (i : Nat) : Option α := l[byteAt q i]?

/-- A yes or no, set or clear, on or off field; none for any other byte. -/
def flagAt (q : List Byte) (i : Nat) : Option Bool := pick [false, true] q i

/-- A fob slot field, none outside 0 to 7. -/
def slotField (q : List Byte) (i : Nat) : Option (Fin 8) := pick eight q i

/-! ### Orders of the owning lists -/

/-- R21: the actions of a LOCK request. -/
def lockActions : List CmdKind :=
  [.lockAll, .superlockAll, .unlockAll, .unlockDriver, .unlockTailgate, .releaseTailgate]

/-- R1. -/
def childStates : List ChildState := [.engaged, .released]

/-- R57. -/
def fobActions : List FobAction := [.lock, .unlock, .tailgate, .comfortClose, .comfortOpen, .comfortStop]

/-- R76: where the answering fob was located. -/
inductive KeyZone | none | outsideNear | inside
deriving DecidableEq, Repr

/-- R76. -/
def keyZones : List KeyZone := [.none, .outsideNear, .inside]

/-- R84. -/
def switchPositions : List SwitchPos := [.neutral, .up, .upAuto, .down, .downAuto]

/-- R101: the field of a COMFORT request. -/
inductive ComfortAsk | close | opening | stop
deriving DecidableEq, Repr

/-- R101. -/
def comfortAsks : List ComfortAsk := [.close, .opening, .stop]

/-- R88. -/
def vehicleModes : List VehicleMode := [.parked, .accessory, .run]

/-- R134: what a WINDOW_FORGET names. -/
inductive ForgetWhat | references | normalisation | both
deriving DecidableEq, Repr

/-- R134. -/
def forgetWhats : List ForgetWhat := [.references, .normalisation, .both]

/-- R54. -/
def slotStatuses : List SlotStatus := [.empty, .active, .suspended]

/-- R170. -/
def groups : List Group := [.policy, .windowCal, .supplyGain, .diagMask, .fobTable]

/-- R1. -/
def latches : List Latch := [.closed, .ajar, .unknown]

/-- R1. -/
def sensedValues : List Sensed := [.unlocked, .locked, .superlocked, .invalid]

/-- R1. -/
def lockPositions : List LockPos := [.unlocked, .locked, .superlocked]

/-- R16. -/
def centralModes : List CentralMode := [.allOpen, .driverOnly, .locked, .superlocked, .mixed]

/-- R150. -/
def testResults : List TestResult := [.normal, .fault, .notTested]

/-- R158. -/
def tempStates : List TempState := [.normal, .warm, .hot]

/-- R160. -/
def supplyStates : List SupplyState := [.normal, .low, .cut]

/-- R138. -/
def triggerKinds : List TriggerKind := [.pinchEffort, .pinchStall, .stall, .overcurrent, .requested]

/-- R140. -/
def completions : List Completion := [.eight, .stopped, .overlap, .reset]

/-- R108. -/
def samplePhases : List SamplePhase := [.start, .run, .reverse]

/-- R168. -/
def resetCauses : List ResetCause := [.powerOn, .resetLine, .soft]

/-- R31: the reasons in the order of its table, then RELEASE_REFUSED. -/
def failReasons : List FailReason := [.noMove, .overcurrent, .withdrawn, .hotWithheld, .thermal, .releaseRefused]

/-- R36. -/
def superlockReasons : List SuperlockReason := [.latch, .notParked, .withdrawn]

/-- R102. -/
def pinchCauses : List PinchCause := [.effort, .stall]

/-- R143. -/
def lostReasons : List LostReason := [.overlap, .full]

/-- R167: the result codes in the order of their values. -/
def codes : List Code :=
  [.ok, .merged, .duplicate, .format, .authority, .frozen, .range, .busy, .crash, .crashActive, .ajar, .tgLocked,
    .superlocked, .held, .noPower, .state, .emptySlot, .suspended, .stale, .resyncNeeded, .noRight, .noTouch, .tooLate,
    .noKey, .keyInside, .noRecord]

/-! ### Writing a payload -/

/-- An enumeration: the value's place in its list. -/
def enumByte [DecidableEq α] (l : List α) (x : α) : List Byte := u8 (l.idxOf x)

/-- R167: the byte of a result code. -/
def codeByte (c : Code) : List Byte := enumByte codes c

/-- yes or no, set or clear, on or off. -/
def flagByte (b : Bool) : List Byte := u8 (bit b)

/-- The number whose bits are the members of a set, bit 0 first. -/
def setBits (l : List Bool) : Nat := l.foldr (fun b n => bit b + 2 * n) 0

/-- A set of up to 8 values. -/
def setByte (l : List Bool) : List Byte := u8 (setBits l)

/-- A position; UNKNOWN is 8000h. -/
def posBytes : Option Int → List Byte
  | none => u16 32768
  | some p => i16 p

/-- An optional field. -/
def optField (f : α → List Byte) : Option α → List Byte
  | none => u8 0
  | some x => u8 1 ++ f x

/-- A time left or an age of so many ticks, in milliseconds. DESIGN CHOICE, log entry 29: an age that 4 bytes do not hold
wraps. -/
def msBytes (ticks : Nat) : List Byte := u32 (ticks / 10)

/-- A list in a notice detail: its count, then the entries. -/
def listField (f : α → List Byte) (l : List α) : List Byte := u8 l.length ++ l.flatMap f

/-- The set of closures. -/
def closureSet (t : Closures Bool) : List Byte := setByte (Closure.list.map t.get)

/-- The set of windows. -/
def windowSet (t : Windows Bool) : List Byte := setByte (Window.list.map t.get)

/-- R151: a set of detection kinds. -/
def kindSetByte (k : KindSet) : List Byte := setByte [k.openLoad, k.shortSupply, k.shortGround, k.overcurrent]

/-- R151: the set of detection kinds that a number below 16 spells. -/
def kindSetOf (n : Nat) : KindSet := ⟨n.testBit 0, n.testBit 1, n.testBit 2, n.testBit 3⟩

/-- R54: a set of rights. -/
def rightsByte (r : Rights) : List Byte := setByte [r.doors, r.tailgate, r.comfort, r.passive]

/-- R54: the set of rights that a number below 16 spells. -/
def rightsOf (n : Nat) : Rights := ⟨n.testBit 0, n.testBit 1, n.testBit 2, n.testBit 3⟩

/-- R84: a set of inhibit causes. -/
def causesByte (c : Causes) : List Byte := setByte [c.crash, c.thermal, c.supply, c.fault]

/-- R157: the set of sticky flags. -/
def flagsByte (f : StickyFlags) : List Byte :=
  setByte [f.openLoad, f.shortSupply, f.shortGround, f.overcurrent, f.twarm, f.thot, f.slow, f.scut]

/-- R1: last_source, with its slot. -/
def lastSourceBytes : LastSource → List Byte
  | .b => u8 0 ++ u8 0
  | .kFob i => u8 1 ++ u8 i.val
  | .kPassive i => u8 2 ++ u8 i.val
  | .dButton => u8 3 ++ u8 0
  | .key => u8 4 ++ u8 0
  | .knob => u8 5 ++ u8 0
  | .innerHandle => u8 6 ++ u8 0
  | .relock => u8 7 ++ u8 0
  | .crash => u8 8 ++ u8 0
  | .reset => u8 9 ++ u8 0

/-- R84: a holder, with its slot. -/
def holderBytes : Holder → List Byte
  | .of .panel => u8 0 ++ u8 0
  | .of .localSw => u8 1 ++ u8 0
  | .of .comfortB => u8 2 ++ u8 0
  | .of (.comfortK i) => u8 3 ++ u8 i.val
  | .reversal => u8 4 ++ u8 0

/-- R165: an operation phase, with bit 7 for a crash operation. -/
def phaseByte : Option Op → List Byte
  | none => u8 0
  | some o => u8 ((match o.phase with | .waitSlot => 1 | .drive => 2 | .settle => 3) + 128 * bit o.crash)

/-- R165: a channel drive. -/
def driveByte : Drive → List Byte
  | .off => u8 0
  | .onFirst => u8 1
  | .onSecond => u8 2
  | .brake => u8 3

/-- UP or DOWN. -/
def dirByte (d : Dir) : List Byte := enumByte [Dir.up, .down] d

/-- R165: MANUAL, AUTO or COMFORT. -/
def runKindByte (k : RunKind) : List Byte := enumByte [RunKind.manual, .auto, .comfort] k

/-- R165: a run: direction, kind and target. -/
def runBytes (k : RunRec) : List Byte := dirByte k.dir ++ runKindByte k.kind ++ i16 k.target

/-- R165: run or pending run, when present. A window in REVERSE has no run. -/
def runField : Motion → List Byte
  | .run k => u8 1 ++ runBytes k
  | .dwell (.run k) => u8 1 ++ runBytes k
  | .dwell (.reverse t) => u8 1 ++ dirByte .down ++ u8 3 ++ i16 t
  | .idle | .reverse _ | .inhibited => u8 0

/-- R84: the state of a window. -/
def motionByte : Motion → List Byte
  | .idle => u8 0
  | .run _ => u8 1
  | .dwell _ => u8 2
  | .reverse _ => u8 3
  | .inhibited => u8 4

/-- R20: the place of a command kind in the list of kinds. -/
def cmdKindByte : CmdKind → List Byte
  | .lockAll => u8 0
  | .superlockAll => u8 1
  | .unlockAll => u8 2
  | .unlockDriver => u8 3
  | .unlockOne _ => u8 4
  | .unlockTailgate => u8 5
  | .releaseTailgate => u8 6
  | .childSet _ _ => u8 7

/-! ### Segments (R165) -/

/-- R165: the piece of a content that a segment carries, padded with 00h to 44 bytes. -/
def piece (content : List Byte) (index : Nat) : List Byte :=
  let p := (content.drop (44 * index)).take 44
  p ++ List.replicate (44 - p.length) 0

/-- R165: the payload of one segment of a read with a fixed total. -/
def segment (content : List Byte) (index total : Nat) : List Byte := u8 index ++ u8 total ++ piece content index

end Sys2Proof.Machine
end

