-- ==== Sys2Proof/Machine/Reports.lean ====
section
/-! DEFINITION. What the part reports: the contents of the status reads (R17, R56, R105, R132, R148, R161), of trace
parts (R144), and of notice details (R168), byte by byte as R165 lays fields out. -/

namespace Sys2Proof.Machine
open Sys2Proof

namespace State

/-! ### Closure status (R17) -/

/-- R17: the child fields of a rear closure. -/
def childBytes (s : State) (r : Rear) : List Byte :=
  let x := s.childOf r
  enumByte childStates x.goal ++ enumByte childStates x.sensed ++ flagByte x.confirmed ++ phaseByte (s.opAt (.c r))

/-- R17: one closure. -/
def closureBytes (s : State) (c : Closure) : List Byte :=
  let r := s.closure c
  enumByte latches r.latch ++ enumByte sensedValues r.lockSensed ++ enumByte lockPositions r.lockGoal
    ++ flagByte r.confirmed ++ phaseByte (s.opAt (.l c)) ++ lastSourceBytes r.lastSource
    ++ (match closureRear c with | some x => s.childBytes x | none => [])

/-- R17: the payload of CLOSURE_STATUS. -/
def closureStatus (s : State) : List Byte :=
  Closure.list.flatMap s.closureBytes ++ enumByte centralModes s.mode ++ flagByte s.crash.latch

/-! ### Window status (R105) -/

/-- R105: one window. -/
def windowBytes (s : State) (w : Window) : List Byte :=
  let r := s.winRec w
  motionByte r.motion ++ runField r.motion ++ optField holderBytes r.motion.holder ++ causesByte r.causes
    ++ posBytes r.position ++ flagByte r.normalised ++ flagByte r.limited ++ u8 r.pinchCount
    ++ optField i16 r.topCorrection ++ flagByte r.awaitPanel ++ flagByte r.awaitLocal
    ++ enumByte switchPositions r.panelPosition

/-- R105: the retained-power time left, in ticks. -/
def retainedLeft (s : State) : Nat :=
  match s.win.retained with
  | some t => t - s.now
  | none => 0

/-- R105: the content of WINDOW_STATUS. -/
def windowStatus (s : State) : List Byte :=
  Window.list.flatMap s.windowBytes ++ flagByte s.win.rearLockout ++ enumByte vehicleModes s.win.mode
    ++ flagByte s.windowPower ++ msBytes s.retainedLeft

/-! ### Window context (R132) -/

/-- A zone's reference: R in two bytes and Iref in one (R165). -/
def zoneBytes (z : ZoneRef) : List Byte := u16 z.effort ++ u8 z.interval

/-- R132: the content of WINDOW_CONTEXT_READ. -/
def contextBytes (s : State) (w : Window) : List Byte :=
  let r := s.winRec w
  let f := s.refsOf w
  u8 (Window.list.idxOf w) ++ motionByte r.motion ++ posBytes r.position ++ flagByte r.normalised ++ flagByte r.limited
    ++ u8 r.pinchCount ++ optField i16 r.topCorrection ++ u8 f.learned ++ f.zones.toList.flatMap (optField zoneBytes)
    ++ u8 (f.pendingForget.getD (s.calOf w).zs)

/-! ### Fob slots (R56) -/

/-- R56: the payload of FOB_READ. -/
def fobBytes (s : State) (i : Fin 8) : List Byte :=
  let f := s.slotAt i
  enumByte slotStatuses f.status ++ u24 f.counter ++ rightsByte f.rights
    ++ optField (fun k => u24 k.value ++ msBytes (k.expiry - s.now)) f.candidate ++ u8 f.streak
    ++ optField (fun a => enumByte fobActions a.action ++ msBytes (s.now - a.time)) f.lastAccepted

/-! ### Diagnostics (R161) -/

/-- R161: one channel. -/
def channelBytes (s : State) (ch : Channel) : List Byte :=
  let r := s.chan ch
  driveByte r.drive ++ enumByte testResults r.openLoad ++ enumByte testResults r.shortSupply
    ++ enumByte testResults r.shortGround ++ enumByte testResults r.overcurrent ++ flagByte r.withdrawn ++ u8 r.ocCount
    ++ kindSetByte (s.config.chanMask.get ch)

/-- R158: the temperature state and the temperature. -/
def tempBytes (s : State) : List Byte := enumByte tempStates s.mon.temp ++ i16 s.mon.lastTemp

/-- R160: the supply state and V. -/
def supplyBytes (s : State) : List Byte := enumByte supplyStates s.mon.supply ++ u16 s.mon.lastV

/-- R161: the content of DIAG_STATUS. -/
def diagStatus (s : State) : List Byte :=
  Channel.list.flatMap s.channelBytes ++ Closure.list.flatMap (fun c => u8 (s.seq.heatL.get c))
    ++ Rear.list.flatMap (fun r => u8 (s.seq.heatC.get r)) ++ kindSetByte s.config.globalMask ++ flagsByte s.mon.flags
    ++ s.tempBytes ++ s.supplyBytes

/-! ### Trace store (R143, R144, R148) -/

/-- R140: the header of a COMPLETE record. -/
def headerBytes (r : TraceRec) (cause : Completion) : List Byte :=
  u16 r.sequence ++ enumByte triggerKinds r.kind ++ u8 (Window.list.idxOf r.window) ++ u32 r.timeTag
    ++ posBytes r.position ++ u16 r.teff ++ u8 r.pre.length ++ u8 r.post.length ++ enumByte completions cause

/-- R123, R144: a sample with its index in the record. DESIGN CHOICE, log entry 10: the index stands before the sample's
fields. -/
def sampleBytes (x : Sample × Nat) : List Byte :=
  u8 x.2 ++ u16 x.1.ic ++ u16 x.1.effort ++ u16 x.1.acc ++ posBytes x.1.position ++ flagByte x.1.speed
    ++ enumByte samplePhases x.1.phase

/-- R144: a part of a record. -/
def partBytes (r : TraceRec) (cause : Completion) (part : Nat) : List Byte :=
  u16 r.sequence ++ u8 part ++ u8 r.parts
    ++ (if part = 0 then headerBytes r cause
      else ((((r.pre ++ r.post).zipIdx).drop (4 * (part - 1))).take 4).flatMap sampleBytes)

/-- R139: the number of buffers that `f` names. -/
def countBuffers (f : Fin 8 → Bool) : Nat := (eight.filter f).length

/-- The sequence number of the record in a buffer, 0 when it holds none. -/
def sequenceAt (s : State) (i : Fin 8) : Nat :=
  match s.recordAt i with
  | some r => r.sequence
  | none => 0

/-- R148: the payload of TRACE_STATUS. -/
def traceStatus (s : State) : List Byte :=
  u8 (countBuffers s.isFree) ++ u8 (countBuffers s.isFilling) ++ u8 (countBuffers s.isComplete)
    ++ u16 s.trace.sequence ++ u32 s.timeTag
    ++ optField (fun c => u16 (s.sequenceAt c.buffer) ++ u8 c.part) s.trace.cursor
    ++ Window.list.flatMap (fun w => optField (fun i => u16 (s.sequenceAt i)) (s.fillingBuffer w))
    ++ flagByte s.config.overlapAccept

/-- R143: the detail of TRACE_READY. -/
def traceReadyBytes (s : State) : List Byte :=
  u8 (countBuffers s.isComplete) ++ optField (fun i => u16 (s.sequenceAt i)) s.oldestComplete

/-! ### Notices (R168, R169) -/

/-- R169: the mask of a port's notice set. -/
def noticeMask (n : NoticeSet) : List Byte := u16 (setBits n.present)

/-- A touch placed in a list by its time left, the least first, before those of the same time. -/
def placeTouch (e : TouchSource × Nat) : List (TouchSource × Nat) → List (TouchSource × Nat)
  | [] => [e]
  | x :: xs => if e.2 ≤ x.2 then e :: x :: xs else x :: placeTouch e xs

/-- R75, R165: the sources whose entry is WAITING, each with the time left, the oldest touch first. -/
def waitingTouches (s : State) : List (TouchSource × Nat) :=
  (TouchSource.list.filterMap (fun t =>
    match s.touch.get t with
    | .waiting time => some (t, time + Config.touchWindow - s.now)
    | .idle | .expired _ => none)).foldr placeTouch []

/-- R105: the events of one window: the kinds PINCH, STALL, NORMALISED, UNNORMALISED and the cause of the latest PINCH. -/
def eventBytes (e : WindowEvents) : List Byte :=
  setByte [e.pinch.isSome, e.stall, e.normalised, e.unnormalised] ++ optField (enumByte pinchCauses) e.pinch

/-- R155, R165: the channels of a FAULT detail, the first named first, each with its kinds and whether it is withdrawn now. -/
def faultBytes (s : State) (d : FaultDetail) : List Byte :=
  listField (fun ch => u8 (Channel.list.idxOf ch) ++ kindSetByte (d.kinds.get ch) ++ flagByte (s.chan ch).withdrawn) d.order

/-- A detail that is present when its notice is. -/
def detailOf (f : α → List Byte) : Option α → List Byte
  | some x => f x
  | none => []

/-- A detail read at the moment, empty while its notice is absent. -/
def readNow (present : Bool) (bytes : List Byte) : List Byte := if present then bytes else []

/-- R168, R169: the detail of the notice at a place of the table, for one port. -/
def noticeDetail (s : State) (n : NoticeSet) (place : Nat) : List Byte :=
  match place with
  | 0 => detailOf (enumByte resetCauses) n.restarted
  | 1 => detailOf u8 n.crash
  | 2 => detailOf closureSet n.lockChanged
  | 3 => detailOf (fun t => setByte (Rear.list.map t.get)) n.childChanged
  | 4 => detailOf (fun t => Window.list.flatMap (fun w => eventBytes (t.get w))) n.windowEvent
  | 5 => detailOf (fun t => Closure.list.flatMap (fun c => optField (enumByte failReasons) (t.get c))) n.actuationFailed
  | 6 => detailOf (enumByte superlockReasons) n.superlockRefused
  | 7 => detailOf (fun d => listField (fun e => u8 e.1.toNat ++ cmdKindByte e.2) d.latest ++ u8 d.count)
      n.commandCancelled
  | 8 => readNow n.handleTouch
      (listField (fun e => u8 (TouchSource.list.idxOf e.1) ++ msBytes e.2) s.waitingTouches)
  | 9 => detailOf (fun v => setByte v.toList) n.fobCounter
  | 10 => detailOf windowSet n.contextChanged
  | 11 => readNow n.traceReady s.traceReadyBytes
  | 12 => detailOf (fun l => u8 l.count ++ u16 l.sequence ++ enumByte lostReasons l.reason) n.traceLost
  | 13 => detailOf s.faultBytes n.fault
  | 14 => readNow n.thermal s.tempBytes
  | 15 => readNow n.supply s.supplyBytes
  | _ => []

end State

/-- R169: the notices that a mask names are removed and their details emptied. -/
def NoticeSet.ack (n : NoticeSet) (m : Nat) : NoticeSet :=
  { restarted := if m.testBit 0 then none else n.restarted
    crash := if m.testBit 1 then none else n.crash
    lockChanged := if m.testBit 2 then none else n.lockChanged
    childChanged := if m.testBit 3 then none else n.childChanged
    windowEvent := if m.testBit 4 then none else n.windowEvent
    actuationFailed := if m.testBit 5 then none else n.actuationFailed
    superlockRefused := if m.testBit 6 then none else n.superlockRefused
    commandCancelled := if m.testBit 7 then none else n.commandCancelled
    handleTouch := if m.testBit 8 then false else n.handleTouch
    fobCounter := if m.testBit 9 then none else n.fobCounter
    contextChanged := if m.testBit 10 then none else n.contextChanged
    traceReady := if m.testBit 11 then false else n.traceReady
    traceLost := if m.testBit 12 then none else n.traceLost
    fault := if m.testBit 13 then none else n.fault
    thermal := if m.testBit 14 then false else n.thermal
    supply := if m.testBit 15 then false else n.supply }

end Sys2Proof.Machine
end

