-- ==== Sys2Proof/Machine/CrashOps.lean ====
section
/-! DEFINITION. The crash response (chapter 3): crash events, crash operations, and the line detector. -/

namespace Sys2Proof.Machine
open Sys2Proof

namespace State

/-- R44: the detector state and its timer are written. -/
def setDetector (s : State) (d : Detector) (timer : Option Nat) : State :=
  { s with crash := { s.crash with detector := d, timer } }

/-- R48: a crash operation record in DRIVE. -/
def crashOp (retries now : Nat) : Op :=
  { goal := .lock .unlocked, phase := .drive, slot := false, retriesLeft := retries, direction := some .unlock,
    pulse := some 300, crash := true, timer := some (now + Config.ms 300) }

/-- R48: a crash pulse starts on a closure's L channel: the output is switched ON in the unlock direction, whatever the
withdrawal, heat, temperature or supply (R49), and the heat count rises by 8. -/
def driveCrash (s : State) (c : Closure) (retries : Nat) : State :=
  ((s.setOp (.l c) (some (crashOp retries s.now))).driveChan (.act (.l c)) .onSecond).addHeat (.l c)

/-- R48: a crash operation is created on a closure's L channel. -/
def createCrash (s : State) (c : Closure) : State := s.driveCrash c 4

/-- R50: the closure gets a fresh crash operation: no op, and not sensed UNLOCKED. -/
def needsCrash (s : State) (c : Closure) : Bool :=
  (s.opAt (.l c)).isNone && (s.closure c).lockSensed != .unlocked

/-- R50: fresh crash operations where they are needed. -/
def refreshCrash (s : State) : State :=
  Closure.list.foldl (fun s c => if s.needsCrash c then s.createCrash c else s) s

/-- R46: an operation of the RUNNING command is aborted; it is not judged. -/
def abortOrdinary (s : State) (a : Actuator) : State :=
  match s.opAt a with
  | some o => if o.crash then s else s.dropOp a
  | none => s

/-- R46, step 1: a PENDING lock-class entry. -/
def pendingLock (e : Entry) : Bool := !e.running && e.kind.lockClass

/-- R46, step 1: the PENDING lock-class entries are removed. -/
def clearPending (s : State) : State :=
  let q := s.seq.queue
  let s := (q.filter pendingLock).foldl raiseCancelled s
  s.setQueue (dedupe (q.filter (fun e => !pendingLock e)))

/-- R46, step 2: a RUNNING lock-class command is aborted and removed. -/
def clearRunningLock (s : State) : State :=
  match s.seq.queue with
  | e :: rest =>
    if e.running && e.kind.lockClass then (Actuator.list.foldl abortOrdinary s).setQueue rest else s
  | [] => s

/-- R46, step 3: a RUNNING CHILD_SET has its child_op aborted and returns to PENDING at the head. -/
def returnChild (s : State) : State :=
  match s.seq.queue with
  | e :: rest =>
    match e.running, e.kind with
    | true, .childSet r _ =>
      let s := s.abortOrdinary (.c r)
      let s := s.writeChildConfirmed r ((s.childOf r).sensed = (s.childOf r).goal)
      s.setQueue (dedupe ({ e with running := false } :: rest))
    | _, _ => s
  | [] => s

/-- R47: every lock_goal is written UNLOCKED with source CRASH. -/
def crashGoals (s : State) : State := Closure.list.foldl (fun s c => s.writeGoal c .unlocked .crash) s

/-- R46 to R48: the first crash event. -/
def firstCrash (s : State) : State :=
  let s := { s with crash := { s.crash with latch := true } }
  let s := (s.clearPending.clearRunningLock.returnChild).setRelock none
  let s := (s.crashGoals.addCauseAll .crash).raiseCrash
  Closure.list.foldl createCrash s

/-- R50: a second crash event. -/
def secondCrash (s : State) : State := ((s.raiseCrash.addCauseAll .crash).returnChild).refreshCrash

/-- R44: a crash event is handed to the crash response. -/
def crashEvent (s : State) : State := if s.crash.latch then s.secondCrash else s.firstCrash

/-- R48: a crash pulse ends and the operation enters SETTLE. -/
def endCrashPulse (s : State) (c : Closure) (o : Op) : State :=
  (s.offChan (.act (.l c))).setOp (.l c) (some { o with phase := .settle, timer := some (s.now + Config.settleTime) })

/-- R48, R49: a crash operation ends FAILED; ACTUATION_FAILED goes to port B. -/
def failCrash (s : State) (c : Closure) (why : FailReason) : State :=
  ((s.dropOp (.l c)).writeConfirmed c false).raiseActuationFailed c why none

/-- R48: SETTLE of a crash operation ends. -/
def endCrashSettle (s : State) (c : Closure) (o : Op) : State :=
  if (s.closure c).lockSensed = .unlocked then (s.dropOp (.l c)).writeConfirmed c true
  else if o.retriesLeft = 0 then s.failCrash c .noMove
  else s.driveCrash c (o.retriesLeft - 1)

/-- R53: a soft reset aborts a crash operation. -/
def abortCrash (s : State) (c : Closure) : State :=
  match s.opAt (.l c) with
  | some o =>
    if o.crash then
      let s := s.dropOp (.l c)
      s.writeConfirmed c ((s.closure c).lockSensed = .unlocked)
    else s
  | none => s

end State

end Sys2Proof.Machine
end

