-- ==== Sys2Proof/Machine/Diagnostics.lean ====
section
/-! DEFINITION. The diagnostic monitor (chapter 10): the enables, open load, off-state test, overcurrent, withdrawal. -/

namespace Sys2Proof.Machine
open Sys2Proof

/-- R151: the four detection kinds. -/
inductive DetectKind | openLoad | shortSupply | shortGround | overcurrent
deriving DecidableEq, Repr

/-- R151: a kind of a set. -/
def KindSet.get (k : KindSet) : DetectKind → Bool
  | .openLoad => k.openLoad
  | .shortSupply => k.shortSupply
  | .shortGround => k.shortGround
  | .overcurrent => k.overcurrent

/-- A kind put into a set. -/
def KindSet.add (k : KindSet) : DetectKind → KindSet
  | .openLoad => { k with openLoad := true }
  | .shortSupply => { k with shortSupply := true }
  | .shortGround => { k with shortGround := true }
  | .overcurrent => { k with overcurrent := true }

/-- R150: the result of a kind. -/
def ChannelRec.result (r : ChannelRec) : DetectKind → TestResult
  | .openLoad => r.openLoad
  | .shortSupply => r.shortSupply
  | .shortGround => r.shortGround
  | .overcurrent => r.overcurrent

/-- R150: the result of a kind is written. -/
def ChannelRec.setResult (r : ChannelRec) (k : DetectKind) (v : TestResult) : ChannelRec :=
  match k with
  | .openLoad => { r with openLoad := v }
  | .shortSupply => { r with shortSupply := v }
  | .shortGround => { r with shortGround := v }
  | .overcurrent => { r with overcurrent := v }

/-- R157: the sticky flag of a kind is set. -/
def StickyFlags.put (f : StickyFlags) : DetectKind → StickyFlags
  | .openLoad => { f with openLoad := true }
  | .shortSupply => { f with shortSupply := true }
  | .shortGround => { f with shortGround := true }
  | .overcurrent => { f with overcurrent := true }

/-- R152: the open threshold of a channel. -/
def openThreshold : Channel → Nat
  | .w _ => 15
  | .act _ => 10

/-- R154: the count of consecutive over-limit measurements that is an overcurrent. -/
def ocLimit : Channel → Nat
  | .w _ => 5
  | .act _ => 3

/-- R154: a measurement over the limit: the clamp mark on a W channel, above code 400 on an actuator channel. -/
def overLimit : Channel → Nat → Bool
  | .w _, i => decide (1023 ≤ i)
  | .act _, i => decide (400 < i)

/-- The drive is ON in one direction or the other. -/
def Drive.on : Drive → Bool
  | .onFirst | .onSecond => true
  | .off | .brake => false

namespace State

/-- R151: a kind is enabled on a channel. -/
def enabled (s : State) (ch : Channel) (k : DetectKind) : Bool :=
  (s.config.chanMask.get ch).get k && s.config.globalMask.get k

/-- R155, R157: a result is FAULT at a judgement: it is written, its sticky flag is set, and FAULT is raised when the
result changes to FAULT. -/
def faultFound (s : State) (ch : Channel) (k : DetectKind) : State :=
  let r := s.chan ch
  let s := (s.setChan ch (r.setResult k .fault)).setFlags (fun f => f.put k)
  if r.result k = .fault then s else s.raiseFault ch (fun d => d.add k)

/-- R155: a channel is withdrawn and its output held OFF; a window whose W channel is newly withdrawn gets the cause
FAULT. -/
def withdraw (s : State) (ch : Channel) : State :=
  if (s.chan ch).withdrawn then s
  else
    let s := s.offChan ch
    let s := s.setChan ch { s.chan ch with withdrawn := true }
    match ch with
    | .w w => s.addCause w .fault
    | .act _ => s

/-- R30, R49, R155: the operation in DRIVE on an actuator channel ends FAILED with OVERCURRENT. -/
def overcurrentEnd (s : State) (a : Actuator) : State :=
  match s.opAt a with
  | some o =>
    if o.phase = OpPhase.drive then
      match o.crash, a with
      | true, .l c => s.failCrash c .overcurrent
      | _, _ => s.endFailed a .overcurrent
    else s
  | none => s

/-- R154, R155: an overcurrent is detected on a channel. -/
def detectOvercurrent (s : State) (ch : Channel) : State :=
  let fresh := !(s.chan ch).withdrawn
  let s := (s.faultFound ch .overcurrent).offChan ch
  let s := s.withdraw ch
  match ch with
  | .w w => if fresh then s.trigger w .overcurrent else s
  | .act a => s.overcurrentEnd a

/-- R154: the count of a channel after one measurement. -/
def nextCount (s : State) (ch : Channel) (code : Nat) : Nat :=
  if overLimit ch code then satAdd 5 (s.chan ch).ocCount 1 else 0

/-- R154: a measurement of a driven channel is noted and, when OVERCURRENT is enabled, counted; the answer says whether
the count has reached its limit. -/
def countCurrent (s : State) (ch : Channel) (code : Nat) : State :=
  let r := s.chan ch
  s.setChan ch
    { r with current := some code, ocCount := if s.enabled ch .overcurrent then s.nextCount ch code else r.ocCount }

/-- R154: a measurement completes the overcurrent count of a channel. -/
def completesCount (s : State) (ch : Channel) (code : Nat) : Bool :=
  s.enabled ch .overcurrent && decide (ocLimit ch ≤ s.nextCount ch code)

/-- R154: one measurement of a driven actuator channel. -/
def measure (s : State) (a : Actuator) (code : Nat) : State :=
  if (s.chan (.act a)).drive.on then
    let hit := s.completesCount (.act a) code
    let s := s.countCurrent (.act a) code
    if hit then s.detectOvercurrent (.act a) else s
  else s

/-- A crash operation drives the channel. -/
def crashDrives (s : State) (ch : Channel) : Bool :=
  match ch with
  | .act a => match s.opAt a with
    | some o => o.crash
    | none => false
  | .w _ => false

/-- R154: a drive of 20 ms with no detection sets overcurrent to NORMAL; a FAULT is lifted by a crash pulse alone. -/
def cleanDrive (s : State) (ch : Channel) : State :=
  let r := s.chan ch
  if s.enabled ch .overcurrent && (r.overcurrent != .fault || s.crashDrives ch) then
    s.setChan ch { r with overcurrent := .normal }
  else s

/-- R152: the open-load judgement of the present drive. -/
def judgeOpenLoad (s : State) (ch : Channel) : State :=
  if s.enabled ch .openLoad && s.mon.supply != .cut then
    match (s.chan ch).current with
    | some i =>
      if i < openThreshold ch then s.faultFound ch .openLoad
      else s.setChan ch { s.chan ch with openLoad := .normal }
    | none => s
  else s

/-- R152, R154: the 20 ms point of a drive, taken once in each drive. -/
def drivePoint (s : State) (ch : Channel) : State :=
  let r := s.chan ch
  match r.driveStart with
  | some t =>
    if r.drive.on && !r.judged then
      let s := (s.reach (t + Config.openLoadPoint)).setChan ch { r with judged := true }
      (s.judgeOpenLoad ch).cleanDrive ch
    else s
  | none => s

/-- R153: one kind of short at the off-state test of a channel: FAULT and withdrawal when a leg shows it, NORMAL when
every leg follows the bias. -/
def judgeShort (s : State) (ch : Channel) (k : DetectKind) (held clean : Bool) : State :=
  if s.enabled ch k then
    if held then (s.faultFound ch k).withdraw ch
    else if clean then s.setChan ch ((s.chan ch).setResult k .normal)
    else s
  else s

/-- R153: the off-state test of a channel whose drive is OFF. -/
def testOff (s : State) (ch : Channel) (f : Finding) : State :=
  if (s.chan ch).drive = .off && s.mon.supply != .cut then
    let clean := !f.nearSupply && !f.nearGround
    (s.judgeShort ch .shortSupply f.nearSupply clean).judgeShort ch .shortGround f.nearGround clean
  else s

/-- R153: the off-state tick on the twelve channels. DESIGN CHOICE, log entry 10: they are tested, and join the detail of
FAULT, in channel order. -/
def testAllOff (s : State) (f : Channels Finding) : State := Channel.list.foldl (fun s ch => s.testOff ch (f.get ch)) s

/-- R151: an OVERCURRENT kind that is not enabled on a channel leaves its count at 0. -/
def clearCounts (s : State) : State :=
  Channel.list.foldl (fun s ch =>
    if s.enabled ch .overcurrent then s else s.setChan ch { s.chan ch with ocCount := 0 }) s

end State

end Sys2Proof.Machine
end

