-- ==== Sys2Proof/Machine/Settings.lean ====
section
/-! DEFINITION. The configuration store (R170, R171): items, ranges, freezes, and what a write makes other blocks do. -/

namespace Sys2Proof.Machine
open Sys2Proof

/-- R170: an item of a WINDOW_CAL group. -/
def Cal.item (c : Cal) : Nat → Option Nat
  | 0 => some c.l
  | 1 => some c.pz
  | 2 => some c.zs
  | 3 => some c.s
  | 4 => some c.t
  | 5 => some c.d
  | 6 => some (bit (c.coincidence = .effortAndSpeed))
  | 7 => some c.c
  | 8 => some c.reversal
  | _ => none

/-- A value when it lies in a range. -/
def ranged (lo hi v : Nat) (x : α) : Option α := if lo ≤ v && v ≤ hi then some x else none

/-- R170: an item of a WINDOW_CAL group is written; none outside its range. -/
def Cal.withItem (c : Cal) (item v : Nat) : Option Cal :=
  match item with
  | 0 => if c.pz ≤ v then ranged 200 4000 v { c with l := v } else none
  | 1 => ranged 16 c.l v { c with pz := v }
  | 2 => ranged 0 7 v { c with zs := v }
  | 3 => ranged 1 4 v { c with s := v }
  | 4 => ranged 1 65535 v { c with t := v }
  | 5 => ranged 0 255 v { c with d := v }
  | 6 => ranged 0 1 v { c with coincidence := if v = 0 then .effortOnly else .effortAndSpeed }
  | 7 => ranged 0 2047 v { c with c := v }
  | 8 => ranged 50 1000 v { c with reversal := v }
  | _ => none

/-- R165: the number that a set of detection kinds is written as. -/
def kindSetNumber (k : KindSet) : Nat := setBits [k.openLoad, k.shortSupply, k.shortGround, k.overcurrent]

/-- R170: the item at an index; none when the item or the index does not exist in the group. -/
def Configuration.item (g : Configuration) (group : Group) (item index : Nat) : Option Nat :=
  match group with
  | .policy =>
    if index = 0 then
      match item with
      | 0 => some (bit g.selectiveUnlock)
      | 1 => some (bit g.childLockout)
      | 2 => some (bit g.passive)
      | 3 => some (bit g.overlapAccept)
      | 4 => some g.relockTime
      | _ => none
    else none
  | .windowCal =>
    match Window.list[index]? with
    | some w => (g.cal.get w).item item
    | none => none
  | .supplyGain => if item = 0 then g.gain[index]? else none
  | .diagMask =>
    match item with
    | 0 => (Channel.list[index]?).map (fun ch => kindSetNumber (g.chanMask.get ch))
    | 1 => if index = 0 then some (kindSetNumber g.globalMask) else none
    | _ => none
  | .fobTable => none

/-- R170: an item is written; none where CONFIG_WRITE answers RANGE. -/
def Configuration.withItem (g : Configuration) (group : Group) (item index v : Nat) : Option Configuration :=
  match group with
  | .policy =>
    if index = 0 then
      match item with
      | 0 => ranged 0 1 v { g with selectiveUnlock := v = 1 }
      | 1 => ranged 0 1 v { g with childLockout := v = 1 }
      | 2 => ranged 0 1 v { g with passive := v = 1 }
      | 3 => ranged 0 1 v { g with overlapAccept := v = 1 }
      | 4 => if v = 0 then some { g with relockTime := 0 } else ranged 15 120 v { g with relockTime := v }
      | _ => none
    else none
  | .windowCal =>
    match Window.list[index]? with
    | some w => ((g.cal.get w).withItem item v).map (fun c => { g with cal := g.cal.set w c })
    | none => none
  | .supplyGain =>
    if h : index < 16 then
      if item = 0 then ranged 0 32767 v { g with gain := g.gain.set index v h } else none
    else none
  | .diagMask =>
    match item with
    | 0 =>
      match Channel.list[index]? with
      | some ch => ranged 0 15 v { g with chanMask := g.chanMask.set ch (kindSetOf v) }
      | none => none
    | 1 => if index = 0 then ranged 0 15 v { g with globalMask := kindSetOf v } else none
    | _ => none
  | .fobTable => none

/-- R171: a group is frozen. -/
def Frozen.has (f : Frozen) : Group → Bool
  | .policy => f.policy
  | .windowCal => f.windowCal
  | .supplyGain => f.supplyGain
  | .diagMask => f.diagMask
  | .fobTable => f.fobTable

/-- R171: a group becomes frozen. -/
def Frozen.add (f : Frozen) : Group → Frozen
  | .policy => { f with policy := true }
  | .windowCal => { f with windowCal := true }
  | .supplyGain => { f with supplyGain := true }
  | .diagMask => { f with diagMask := true }
  | .fobTable => { f with fobTable := true }

namespace State

/-- R135: the zone shift of a window's group changes to `new`. -/
def changeShift (s : State) (w : Window) (new : Nat) : State :=
  let f := s.refsOf w
  let running := (s.winRec w).motion.running
  match f.pendingForget with
  | some z => if new = z then s.setRefs w { f with pendingForget := none }
    else if running then s
    else (s.forgetReferences w).raiseContextChanged w
  | none => if running then s.setRefs w { f with pendingForget := some (s.runCal w).zs }
    else (s.forgetReferences w).raiseContextChanged w

/-- R135: the window's zone shift has changed under a written configuration. -/
def shiftWritten (old : Configuration) (s : State) (w : Window) : State :=
  if (old.cal.get w).zs = (s.calOf w).zs then s else s.changeShift w (s.calOf w).zs

/-- R92: the policy child-implies-lockout turns on: the lockout begins where the child lock's goal is ENGAGED. -/
def lockoutByPolicy (s : State) (r : Rear) : State :=
  if (s.childOf r).goal = .engaged then s.beginLockout (rearWindow r) else s

/-- R170: an accepted CONFIG_WRITE: the value is replaced, and R83, R92, R135 and R151 act at once. -/
def applyConfig (s : State) (g : Configuration) (group : Group) : State :=
  let old := s.config
  let s := { s with config := g }
  let s := if old.passive && !g.passive then { s with touch := .all .idle } else s
  let s := if !old.childLockout && g.childLockout then Rear.list.foldl lockoutByPolicy s else s
  let s := Window.list.foldl (shiftWritten old) s
  if group = .diagMask then s.clearCounts else s

end State

end Sys2Proof.Machine
end

