-- ==== Sys2Proof/Machine/Ports.lean ====
section
/-! DEFINITION. The port engines and the request decoder (R163, R164, R167): frames, kinds, authority, the order of the
refusals, and the answer. -/

namespace Sys2Proof.Machine
open Sys2Proof

/-- R164: what a request leads to: the state after it, its result code and its response payload. -/
structure Reply where
  state : State
  code : Code
  payload : List Byte
deriving DecidableEq, Repr

/-- R167: the request kinds, in the order of their codes 01h to 20h. -/
inductive Kind
  | lock | centralToggle | childSet | credential | passiveClaim | windowSwitch | rearLockout | comfort | vehicleMode
  | crashClear | windowRestore | windowForget | windowContextRead | traceTrigger | traceRead | traceRewind | traceClear
  | timeTagReset | traceStatus | clearFault | clearStatus | diagStatus | configWrite | configRead | configFreeze
  | fobWrite | fobRead | softReset | closureStatus | windowStatus | readNotices | ackNotices
deriving DecidableEq, Repr

/-- R167: the kinds in the order of the table. -/
def Kind.list : List Kind :=
  [.lock, .centralToggle, .childSet, .credential, .passiveClaim, .windowSwitch, .rearLockout, .comfort, .vehicleMode,
    .crashClear, .windowRestore, .windowForget, .windowContextRead, .traceTrigger, .traceRead, .traceRewind, .traceClear,
    .timeTagReset, .traceStatus, .clearFault, .clearStatus, .diagStatus, .configWrite, .configRead, .configFreeze,
    .fobWrite, .fobRead, .softReset, .closureStatus, .windowStatus, .readNotices, .ackNotices]

/-- R167: the kind that a kind byte names. -/
def Kind.ofByte (b : Byte) : Option Kind := if b.toNat = 0 then none else Kind.list[b.toNat - 1]?

/-- R167: the payload bytes of a kind, lowest and highest. -/
def Kind.length : Kind → Nat × Nat
  | .windowRestore => (3, 46)
  | .lock | .rearLockout | .comfort | .vehicleMode | .traceTrigger | .clearFault | .clearStatus | .diagStatus
  | .configFreeze | .fobRead | .windowStatus | .readNotices => (1, 1)
  | .childSet | .windowSwitch | .windowForget | .windowContextRead | .ackNotices => (2, 2)
  | .configRead => (3, 3)
  | .credential | .configWrite => (5, 5)
  | .fobWrite => (6, 6)
  | .passiveClaim => (7, 7)
  | .centralToggle | .crashClear | .traceRead | .traceRewind | .traceClear | .timeTagReset | .traceStatus | .softReset
  | .closureStatus => (0, 0)

/-- R167: the ports marked for a kind. -/
def Kind.allows : Kind → Port → Bool
  | .closureStatus, _ | .windowStatus, _ | .readNotices, _ | .ackNotices, _ => true
  | .childSet, p => p != .k
  | .credential, p | .passiveClaim, p => p = .k
  | .centralToggle, p | .windowSwitch, p | .rearLockout, p => p = .d
  | .lock, p | .comfort, p | .vehicleMode, p | .crashClear, p | .windowRestore, p | .windowForget, p
  | .windowContextRead, p | .traceTrigger, p | .traceRead, p | .traceRewind, p | .traceClear, p | .timeTagReset, p
  | .traceStatus, p | .clearFault, p | .clearStatus, p | .diagStatus, p | .configWrite, p | .configRead, p
  | .configFreeze, p | .fobWrite, p | .fobRead, p | .softReset, p => p = .b

/-- R163: the sum of bytes modulo 256. -/
def byteSum (bytes : List Byte) : Byte := bytes.foldl (· + ·) 0

/-- R163: the check byte that makes the sum of `bytes` and itself 0 modulo 256. -/
def checkByte (bytes : List Byte) : Byte := 0 - byteSum bytes

/-- R163: the bytes of a frame behind a sync byte. -/
def frame (sync tag third : Byte) (payload : List Byte) : List Byte :=
  let body := BitVec.ofNat 8 (payload.length + 2) :: tag :: third :: payload
  sync :: body ++ [checkByte body]

/-- R163: a response frame. -/
def Response.frame (r : Response) : List Byte :=
  Machine.frame 0xC5 r.tag (BitVec.ofNat 8 (codes.idxOf r.code)) r.payload

namespace State

/-- A refusal with an empty payload (R164). -/
def refuse (s : State) (c : Code) : Reply := ⟨s, c, []⟩

/-- An answer OK with an empty payload. -/
def accept (s : State) : Reply := ⟨s, .ok, []⟩

/-- R167, step 3: the request writes a frozen group. -/
def writesFrozen (s : State) (k : Kind) (q : List Byte) : Bool :=
  match k with
  | .configWrite => match pick groups q 0 with
    | some g => s.config.frozen.has g
    | none => false
  | .fobWrite => s.config.frozen.fobTable
  | _ => false

/-- R167, steps 1 to 3: the first failure of a request. -/
def decoderRefusal (s : State) (k : Kind) (p : Port) (q : List Byte) : Option Code :=
  if q.length < k.length.1 || k.length.2 < q.length then some .format
  else if !k.allows p then some .authority
  else if s.writesFrozen k q then some .frozen
  else none

/-- R167: a request of a known kind is judged; `owner` judges the ranges of the fields (step 4) and then the request. -/
def judge (s : State) (k : Kind) (owner : List Byte → State → Reply) (p : Port) (q : List Byte) : Reply :=
  match s.decoderRefusal k p q with
  | some c => s.refuse c
  | none => owner q s

/-- R163, R164: the port engine enters ANSWERING with the response. -/
def answer (p : Port) (tag : Byte) (r : Reply) : State :=
  r.state.setPort p { engine := .answering, buffer := [], timer := none, response := some ⟨tag, r.code, r.payload⟩ }

/-- R163: the port is still answering an earlier request. -/
def answering (s : State) (p : Port) : Bool := (s.ports.get p).engine = .answering

/-- R163: a whole request frame with a good check byte: lost while the port answers, otherwise judged and answered. -/
def request (s : State) (k : Kind) (owner : List Byte → State → Reply) (p : Port) (tag : Byte) (q : List Byte) : State :=
  if s.answering p then s else answer p tag (s.judge k owner p q)

/-- R167, step 1: a whole frame whose kind byte is unknown. -/
def unknownRequest (s : State) (p : Port) (tag : Byte) : State :=
  if s.answering p then s else answer p tag (s.refuse .format)

/-- R163: a port engine in IDLE with nothing received. -/
def idlePort (s : State) (p : Port) : State := s.setPort p .reset

/-- R163: a partial or bad frame is discarded; an engine that is not in RECEIVING is left. -/
def discard (s : State) (p : Port) : State :=
  if (s.ports.get p).engine = .receiving then s.idlePort p else s

end State

end Sys2Proof.Machine
end

