-- ==== Sys2Proof/Machine/KeylessRequests.lean ====
section
/-! DEFINITION. The requests of the fob and passive paths (R55 to R57, R64 to R68, R76 to R81), and the commands of those
families. -/

namespace Sys2Proof.Machine
open Sys2Proof

namespace State

/-! ### CREDENTIAL (R57) -/

/-- R57: the answer to a CREDENTIAL: slot, counter as it stands after the request, and the windows started. -/
def credentialReply (s : State) (i : Fin 8) (code : Code) (started : Windows Bool) : Reply :=
  ⟨s, code, u8 i.val ++ u24 (s.slotAt i).counter ++ windowSet started⟩

/-- A lock command from port K for a slot. -/
def slotCommand (k : CmdKind) (src : CmdSource) (tag : Byte) : Command := .ofPort k src .k tag

/-- R41, R65: UNLOCK_TAILGATE and then RELEASE_TAILGATE, paired when the first was accepted: the state and the two
answers. -/
def tailgatePair (s : State) (src : CmdSource) (tag : Byte) : State × List Code :=
  let first := slotCommand .unlockTailgate src tag
  let code := s.offerCode first
  let s := s.offer first
  let second : Command := { slotCommand .releaseTailgate src tag with paired := code.accepted }
  (s.offer second, [code, s.offerCode second])

/-- R57, R64: one lock command is handed over and answers the request. -/
def lockReply (s : State) (i : Fin 8) (k : CmdKind) (tag : Byte) : Reply :=
  let c := slotCommand k (.kFob i) tag
  (s.offer c).credentialReply i (formAnswer [s.offerCode c] [] false) (.all false)

/-- R66: the lock command of a new comfort start. -/
def comfortKind : ComfortDir → CmdKind
  | .close => .lockAll
  | .opening => .unlockAll

/-- R66, R67: an accepted COMFORT_CLOSE or COMFORT_OPEN. -/
def comfortReply (s : State) (i : Fin 8) (d : ComfortDir) (tag : Byte) : Reply :=
  if s.sessionIs i d then s.renewSession.credentialReply i .ok (.all false)
  else
    let c := slotCommand (comfortKind d) (.kFob i) tag
    let outcomes := (s.offer c).comfortOutcomes
    let started := comfortStarted outcomes
    let runs := Window.list.any started.get
    (s.comfortNew i d c).credentialReply i (formAnswer [s.offerCode c] (comfortRefusals outcomes) runs) started

/-- R64 to R68: the action of an accepted frame whose right is held. -/
def fobAction (s : State) (i : Fin 8) (a : FobAction) (tag : Byte) : Reply :=
  match a with
  | .lock => s.lockReply i (s.lockAction (.slot i)) tag
  | .unlock => s.lockReply i (s.unlockAction (.slot i)) tag
  | .tailgate =>
    let r := s.tailgatePair (.kFob i) tag
    r.1.credentialReply i (formAnswer r.2 [] false) (.all false)
  | .comfortClose => s.comfortReply i .close tag
  | .comfortOpen => s.comfortReply i .opening tag
  | .comfortStop => s.endSession.credentialReply i .ok (.all false)

/-- R59, R67: a DUPLICATE of a comfort frame renews the session of its slot and direction. -/
def renewByDuplicate (s : State) (i : Fin 8) (a : FobAction) : State :=
  match a.comfort with
  | some d => if s.sessionIs i d then s.renewSession else s
  | none => s

/-- R57, steps 2 to 4, for a slot that is ACTIVE. -/
def judgeFrame (s : State) (i : Fin 8) (c : Nat) (a : FobAction) (tag : Byte) : Reply :=
  let v := classify (s.slotAt i) s.now c (some a)
  let t := s.applyCounter i c (some a) v
  match v with
  | .duplicate => (t.renewByDuplicate i a).credentialReply i .duplicate (.all false)
  | .stale => t.credentialReply i .stale (.all false)
  | .resyncNeeded => t.credentialReply i .resyncNeeded (.all false)
  | .accepted =>
    if a.allowed (s.slotAt i).rights then t.fobAction i a tag else t.credentialReply i .noRight (.all false)

/-- R57: a CREDENTIAL with its fields in range. -/
def credential (s : State) (i : Fin 8) (c : Nat) (a : FobAction) (tag : Byte) : Reply :=
  match (s.slotAt i).status with
  | .empty => s.credentialReply i .emptySlot (.all false)
  | .suspended => s.credentialReply i .suspended (.all false)
  | .active => s.judgeFrame i c a tag

/-- R57: CREDENTIAL. -/
def ownCredential (tag : Byte) (q : List Byte) (s : State) : Reply :=
  match slotField q 0, pick fobActions q 4 with
  | some i, some a => s.credential i (fieldAt q 1 3) a tag
  | _, _ => s.refuse .range

/-! ### PASSIVE_CLAIM (R76) -/

/-- R76: the answer to a claim: source, slot and counter as it stands after the claim. -/
def claimReply (s : State) (t : TouchSource) (i : Fin 8) (code : Code) : Reply :=
  ⟨s, code, u8 (TouchSource.list.idxOf t) ++ u8 i.val ++ u24 (s.slotAt i).counter⟩

/-- R81: one command of a claim. -/
def claimCommand (s : State) (t : TouchSource) (i : Fin 8) (k : CmdKind) (tag : Byte) : Reply :=
  let c := slotCommand k (.kPassive i) tag
  (s.offer c).claimReply t i (formAnswer [s.offerCode c] [] false)

/-- R81: the action of a claim. -/
def claimAction (s : State) (t : TouchSource) (i : Fin 8) (tag : Byte) : Reply :=
  match t with
  | .fdOpen => s.claimCommand t i (s.unlockAction (.slot i)) tag
  | .fpOpen => s.claimCommand t i .unlockAll tag
  | .fdLock | .fpLock => s.claimCommand t i .lockAll tag
  | .tgButton =>
    let r := s.tailgatePair (.kPassive i) tag
    r.1.claimReply t i (formAnswer r.2 [] false)

/-- R80: the code that the zone and inside_clear end a claim with. -/
def zoneRefusal (t : TouchSource) (z : KeyZone) (clear : Bool) : Option Code :=
  match z with
  | .none => some .noKey
  | .inside => some .keyInside
  | .outsideNear =>
    match t with
    | .fdLock | .fpLock => if clear then none else some .keyInside
    | .fdOpen | .fpOpen | .tgButton => none

/-- R79 to R81: steps 4 to 6 of a claim. -/
def claimCounter (s : State) (t : TouchSource) (i : Fin 8) (c : Nat) (z : KeyZone) (clear : Bool) (tag : Byte) : Reply :=
  let v := classify (s.slotAt i) s.now c none
  let s := s.applyCounter i c none v
  match v with
  | .stale | .duplicate => s.claimReply t i .stale
  | .resyncNeeded => s.claimReply t i .resyncNeeded
  | .accepted =>
    match zoneRefusal t z clear with
    | some code => s.claimReply t i code
    | none => s.claimAction t i tag

/-- R78: steps 2 and 3 of a claim. -/
def claimSlot (s : State) (t : TouchSource) (i : Fin 8) (c : Nat) (z : KeyZone) (clear : Bool) (tag : Byte) : Reply :=
  match (s.slotAt i).status with
  | .empty => s.claimReply t i .emptySlot
  | .suspended => s.claimReply t i .suspended
  | .active => if (s.slotAt i).rights.passive then s.claimCounter t i c z clear tag else s.claimReply t i .noRight

/-- R77: step 1 of a claim. -/
def claim (s : State) (t : TouchSource) (i : Fin 8) (c : Nat) (z : KeyZone) (clear : Bool) (tag : Byte) : Reply :=
  match s.touch.get t with
  | .idle => s.claimReply t i .noTouch
  | .expired _ => s.claimReply t i .tooLate
  | .waiting _ => (s.setTouch t .idle).claimSlot t i c z clear tag

/-- R76: PASSIVE_CLAIM. -/
def ownPassiveClaim (tag : Byte) (q : List Byte) (s : State) : Reply :=
  match pick TouchSource.list q 0, slotField q 1, pick keyZones q 5, flagAt q 6 with
  | some t, some i, some z, some clear => s.claim t i (fieldAt q 2 3) z clear tag
  | _, _, _, _ => s.refuse .range

/-! ### Fob table requests (R55, R56) -/

/-- R55: the slot that a FOB_WRITE leaves. -/
def writtenSlot (st : SlotStatus) (counter : Nat) (r : Rights) : FobSlot :=
  match st with
  | .empty => .reset
  | .active | .suspended => { FobSlot.reset with status := st, counter, rights := r }

/-- R55: a FOB_WRITE with its fields in range; a session of the slot ends. -/
def writeFob (s : State) (i : Fin 8) (f : FobSlot) : State :=
  let s := s.setSlot i f
  match s.fobs.session with
  | some x => if x.slot = i then s.endSession else s
  | none => s

/-- R55: FOB_WRITE. -/
def ownFobWrite (q : List Byte) (s : State) : Reply :=
  match slotField q 0, pick slotStatuses q 1 with
  | some i, some st =>
    if byteAt q 5 < 16 then (s.writeFob i (writtenSlot st (fieldAt q 2 3) (rightsOf (byteAt q 5)))).accept
    else s.refuse .range
  | _, _ => s.refuse .range

/-- R56: FOB_READ. -/
def ownFobRead (q : List Byte) (s : State) : Reply :=
  match slotField q 0 with
  | some i => ⟨s, .ok, s.fobBytes i⟩
  | none => s.refuse .range

/-! ### Timers of the families -/

/-- R61: a candidate reaches its expiry time. -/
def candidateEnd (s : State) (i : Fin 8) : State :=
  match (s.slotAt i).candidate with
  | some k => (s.reach k.expiry).setSlot i { s.slotAt i with candidate := none }
  | none => s

/-- R67: the keep-alive timer expires. -/
def keepAliveEnd (s : State) : State :=
  match s.fobs.session with
  | some x => (s.reach x.keepAlive).endSession
  | none => s

/-- R74: the 400 ms timer of a WAITING entry expires. -/
def touchWindowEnd (s : State) (t : TouchSource) : State :=
  match s.touch.get t with
  | .waiting time =>
    let s := s.reach (time + Config.touchWindow)
    s.setTouch t (.expired s.now)
  | .idle | .expired _ => s

/-- R74: the 2 s timer of an EXPIRED entry expires. -/
def touchHoldEnd (s : State) (t : TouchSource) : State :=
  match s.touch.get t with
  | .expired time => (s.reach (time + Config.touchHold)).setTouch t .idle
  | .idle | .waiting _ => s

end State

/-! ### The meanings -/

/-- CREDENTIAL (R57). -/
def execCredential (p : Port) (tag : Byte) (payload : List Byte) (s : State) : Host.Outcome State Fault Refusal :=
  .next (s.live (fun s => s.request .credential (State.ownCredential tag) p tag payload))

/-- PASSIVE_CLAIM (R76). -/
def execPassiveClaim (p : Port) (tag : Byte) (payload : List Byte) (s : State) : Host.Outcome State Fault Refusal :=
  .next (s.live (fun s => s.request .passiveClaim (State.ownPassiveClaim tag) p tag payload))

/-- FOB_WRITE (R55). -/
def execFobWrite (p : Port) (tag : Byte) (payload : List Byte) (s : State) : Host.Outcome State Fault Refusal :=
  .next (s.live (fun s => s.request .fobWrite State.ownFobWrite p tag payload))

/-- FOB_READ (R56). -/
def execFobRead (p : Port) (tag : Byte) (payload : List Byte) (s : State) : Host.Outcome State Fault Refusal :=
  .next (s.live (fun s => s.request .fobRead State.ownFobRead p tag payload))

/-- CANDIDATE_EXPIRY (R61). -/
def execCandidateExpiry (slot : Fin 8) (s : State) : Host.Outcome State Fault Refusal :=
  .next (s.live (fun s => s.candidateEnd slot))

/-- KEEP_ALIVE_EXPIRY (R67). -/
def execKeepAliveExpiry (s : State) : Host.Outcome State Fault Refusal := .next (s.live State.keepAliveEnd)

/-- TOUCH_WINDOW_EXPIRY (R74). -/
def execTouchWindowExpiry (t : TouchSource) (s : State) : Host.Outcome State Fault Refusal :=
  .next (s.live (fun s => s.touchWindowEnd t))

/-- TOUCH_HOLD_EXPIRY (R74). -/
def execTouchHoldExpiry (t : TouchSource) (s : State) : Host.Outcome State Fault Refusal :=
  .next (s.live (fun s => s.touchHoldEnd t))

end Sys2Proof.Machine
end

