-- ==== Sys2Proof/Machine/LockRequests.lean ====
section
/-! DEFINITION. What the lock sequencer, the crash response and the closure table do with the requests they own (R17,
R21, R40, R52), and the commands of those families. -/

namespace Sys2Proof.Machine
open Sys2Proof

namespace State

/-- R21: a command of a request is offered to the sequencer, whose answer is the answer to the request. -/
def offerReply (s : State) (c : Command) : Reply := ⟨s.offer c, s.offerCode c, []⟩

/-- R21: LOCK. -/
def ownLock (p : Port) (tag : Byte) (q : List Byte) (s : State) : Reply :=
  match pick lockActions q 0 with
  | some k => s.offerReply (.ofPort k .b p tag)
  | none => s.refuse .range

/-- R21: the command that CENTRAL_TOGGLE becomes, none in mode SUPERLOCKED. -/
def toggleKind : CentralMode → Option CmdKind
  | .allOpen | .driverOnly | .mixed => some .lockAll
  | .locked => some .unlockAll
  | .superlocked => none

/-- R21: CENTRAL_TOGGLE. -/
def ownCentralToggle (p : Port) (tag : Byte) (_q : List Byte) (s : State) : Reply :=
  match toggleKind s.mode with
  | some k => s.offerReply (.ofPort k .dButton p tag)
  | none => s.refuse .superlocked

/-- R21: the source of a CHILD_SET request. -/
def childSource (p : Port) : CmdSource := if p = .b then .b else .dButton

/-- R21, R40: CHILD_SET. -/
def ownChildSet (p : Port) (tag : Byte) (q : List Byte) (s : State) : Reply :=
  match pick Rear.list q 0, pick childStates q 1 with
  | some r, some st => s.offerReply (.ofPort (.childSet r st) (childSource p) p tag)
  | _, _ => s.refuse .range

/-- R52: the latch is cleared and the cause CRASH removed from the four windows. -/
def clearCrash (s : State) : State :=
  if s.crash.latch then ({ s with crash := { s.crash with latch := false } }).removeCauseAll .crash else s

/-- R52: CRASH_CLEAR. -/
def ownCrashClear (_q : List Byte) (s : State) : Reply :=
  if s.crash.detector = .released then s.clearCrash.accept else s.refuse .crashActive

/-- R17: CLOSURE_STATUS. -/
def ownClosureStatus (_q : List Byte) (s : State) : Reply := ⟨s, .ok, s.closureStatus⟩

end State

/-! ### The meanings -/

/-- LOCK (R21). -/
def execLock (p : Port) (tag : Byte) (payload : List Byte) (s : State) : Host.Outcome State Fault Refusal :=
  .next (s.live (fun s => s.request .lock (State.ownLock p tag) p tag payload))

/-- CENTRAL_TOGGLE (R21). -/
def execCentralToggle (p : Port) (tag : Byte) (payload : List Byte) (s : State) : Host.Outcome State Fault Refusal :=
  .next (s.live (fun s => s.request .centralToggle (State.ownCentralToggle p tag) p tag payload))

/-- CHILD_SET (R40). -/
def execChildSet (p : Port) (tag : Byte) (payload : List Byte) (s : State) : Host.Outcome State Fault Refusal :=
  .next (s.live (fun s => s.request .childSet (State.ownChildSet p tag) p tag payload))

/-- CRASH_CLEAR (R52). -/
def execCrashClear (p : Port) (tag : Byte) (payload : List Byte) (s : State) : Host.Outcome State Fault Refusal :=
  .next (s.live (fun s => s.request .crashClear State.ownCrashClear p tag payload))

/-- CLOSURE_STATUS (R17). -/
def execClosureStatus (p : Port) (tag : Byte) (payload : List Byte) (s : State) : Host.Outcome State Fault Refusal :=
  .next (s.live (fun s => s.request .closureStatus State.ownClosureStatus p tag payload))

/-- COMMAND_START (R24): the head starts when it may. -/
def execCommandStart (s : State) : Host.Outcome State Fault Refusal := .next (s.live State.tryHead)

/-- SLOT_GRANT (R27): a free slot goes to the first waiting operation, whose pulse is then checked (R28). -/
def execSlotGrant (s : State) : Host.Outcome State Fault Refusal := .next (s.live State.grantSlot)

namespace State

/-- The running timer of the operation on a channel, in a phase, with the crash marker as asked. -/
def opTimer (s : State) (a : Actuator) (ph : OpPhase) (crash : Bool) : Option (Op × Nat) :=
  match s.opAt a with
  | some o =>
    match o.timer with
    | some t => if o.phase = ph && o.crash = crash then some (o, t) else none
    | none => none
  | none => none

/-- R29: the pulse timer of an ordinary operation expires. -/
def pulseExpiry (s : State) (a : Actuator) : State :=
  match s.opTimer a .drive false with
  | some (o, t) => (s.reach t).endPulse a o
  | none => s

/-- R29: SETTLE of an ordinary operation ends. -/
def settleExpiry (s : State) (a : Actuator) : State :=
  match s.opTimer a .settle false with
  | some (o, t) => (s.reach t).endSettle a o
  | none => s

/-- R48: a crash pulse timer expires. -/
def crashPulseExpiry (s : State) (c : Closure) : State :=
  match s.opTimer (.l c) .drive true with
  | some (o, t) => (s.reach t).endCrashPulse c o
  | none => s

/-- R48: SETTLE of a crash operation ends. -/
def crashSettleExpiry (s : State) (c : Closure) : State :=
  match s.opTimer (.l c) .settle true with
  | some (o, t) => (s.reach t).endCrashSettle c o
  | none => s

/-- R32: the common tick; every count above 0 falls by 1. The tick is never early: it stands at its own time. -/
def heatTick (s : State) : State :=
  let s := s.reach s.seq.heatTickAt
  { s with seq := { s.seq with
      heatL := s.seq.heatL.map (· - 1), heatC := s.seq.heatC.map (· - 1),
      heatTickAt := s.seq.heatTickAt + Config.heatPeriod } }

/-- R39: the relock timer expires; its LOCK_ALL passes R22 and R23 like any other command. -/
def relockExpiry (s : State) : State :=
  match s.seq.relock with
  | some t => ((s.reach t).setRelock none).offer (.internal .lockAll .relock)
  | none => s

/-- R44: the crash line becomes asserted or released. -/
def crashLine (s : State) (asserted : Bool) : State :=
  let s := { s with crash := { s.crash with line := asserted } }
  if s.resetLine then s
  else
    match s.crash.detector, asserted with
    | .released, true => s.setDetector .asserting (some (s.now + Config.crashFilter))
    | .asserting, false => s.setDetector .released none
    | .asserted, false => s.setDetector .releasing (some (s.now + Config.crashFilter))
    | .releasing, true => s.setDetector .asserted none
    | .released, false | .asserting, true | .asserted, true | .releasing, false => s

/-- R44: the detector's timer expires. -/
def crashTimer (s : State) : State :=
  match s.crash.timer, s.crash.detector with
  | some t, .asserting => ((s.reach t).setDetector .asserted none).crashEvent
  | some t, .releasing => (s.reach t).setDetector .released none
  | _, _ => s

end State

/-- PULSE_END (R29, R41). -/
def execPulseEnd (a : Actuator) (s : State) : Host.Outcome State Fault Refusal :=
  .next (s.live (fun s => s.pulseExpiry a))

/-- SETTLE_END (R29). -/
def execSettleEnd (a : Actuator) (s : State) : Host.Outcome State Fault Refusal :=
  .next (s.live (fun s => s.settleExpiry a))

/-- CRASH_PULSE_END (R48). -/
def execCrashPulseEnd (c : Closure) (s : State) : Host.Outcome State Fault Refusal :=
  .next (s.live (fun s => s.crashPulseExpiry c))

/-- CRASH_SETTLE_END (R48). -/
def execCrashSettleEnd (c : Closure) (s : State) : Host.Outcome State Fault Refusal :=
  .next (s.live (fun s => s.crashSettleExpiry c))

/-- HEAT_TICK (R32). -/
def execHeatTick (s : State) : Host.Outcome State Fault Refusal := .next (s.live State.heatTick)

/-- RELOCK_TIMER_EXPIRY (R39). -/
def execRelockTimerExpiry (s : State) : Host.Outcome State Fault Refusal := .next (s.live State.relockExpiry)

/-- CRASH_LINE_CHANGE (R44); while the reset line is asserted the pin alone changes (log entry 6). -/
def execCrashLineChange (asserted : Bool) (s : State) : Host.Outcome State Fault Refusal := .next (s.crashLine asserted)

/-- CRASH_DETECTOR_TIMER (R44). -/
def execCrashDetectorTimer (s : State) : Host.Outcome State Fault Refusal := .next (s.live State.crashTimer)

end Sys2Proof.Machine
end

