-- ==== Sys2Proof/Machine/Monitors.lean ====
section
/-! DEFINITION. The temperature and supply monitors (R158 to R160) and what they hand on. -/

namespace Sys2Proof.Machine
open Sys2Proof

/-- R158: the new temperature state. -/
def judgeTemp (st : TempState) (t : Int) : TempState :=
  match st with
  | .normal => if 150 ≤ t then .hot else if 125 ≤ t then .warm else .normal
  | .warm => if 150 ≤ t then .hot else if 115 ≤ t then .warm else .normal
  | .hot => if 140 ≤ t then .hot else if 115 ≤ t then .warm else .normal

/-- R160: the new supply state. -/
def judgeSupply (st : SupplyState) (v : Nat) : SupplyState :=
  match st with
  | .normal => if v < 400 || 800 < v then .cut else if v < 450 then .low else .normal
  | .low => if v < 400 || 800 < v then .cut else if v < 465 then .low else .normal
  | .cut => if v < 415 || 785 < v then .cut else if v < 465 then .low else .normal

namespace State

/-- R159: a change of the temperature state from `old` to `new` is handed to the readers. -/
def handTemp (s : State) (old new : TempState) : State :=
  match old, new with
  | .hot, .hot | .warm, .warm | .normal, .normal => s
  | .normal, .hot | .warm, .hot => (s.addCauseAll .thermal).thermalAborts
  | .hot, .normal => s.removeCauseAll .thermal
  | .hot, .warm => (s.removeCauseAll .thermal).markAllStrokes (fun m => { m with warm := true })
  | .normal, .warm => s.markAllStrokes (fun m => { m with warm := true })
  | .warm, .normal => s

/-- R157, R158: one measurement of the die temperature; the code reported lies from −40 to 200 (R161). -/
def measureTemp (s : State) (t : Int) : State :=
  let old := s.mon.temp
  let new := judgeTemp old t
  let s := { s with mon := { s.mon with temp := new, lastTemp := clamp (-40) 200 t } }
  let s := s.setFlags (fun f => { f with twarm := f.twarm || new != .normal, thot := f.thot || new = .hot })
  if new = old then s else s.raiseThermal.handTemp old new

/-- R160: a change of the supply state from `old` to `new` is handed to the readers. -/
def handSupply (s : State) (old new : SupplyState) : State :=
  match old, new with
  | .cut, .cut | .low, .low | .normal, .normal => s
  | .normal, .cut | .low, .cut => (s.addCauseAll .supply).dropPulses
  | .cut, .normal => (s.removeCauseAll .supply).resumePulses
  | .cut, .low => ((s.removeCauseAll .supply).markAllStrokes (fun m => { m with supply := true })).resumePulses
  | .normal, .low => s.markAllStrokes (fun m => { m with supply := true })
  | .low, .normal => s

/-- R157, R160: one measurement of the supply. -/
def measureSupply (s : State) (v : Nat) : State :=
  let old := s.mon.supply
  let new := judgeSupply old v
  let s := { s with mon := { s.mon with supply := new, lastV := min 1023 v } }
  let s := s.setFlags (fun f => { f with slow := f.slow || new != .normal, scut := f.scut || new = .cut })
  if new = old then s else s.raiseSupply.handSupply old new

end State

end Sys2Proof.Machine
end

