-- ==== Sys2Proof/Machine/Sense.lean ====
section
/-! DEFINITION. The debounce stage and the events of the lines (chapter 1, R71, R91). -/

namespace Sys2Proof.Machine
open Sys2Proof

namespace State

/-- R5: the lines are written. -/
def setSensing (s : State) (x : Sensing) : State := { s with sensing := x }

/-- R5: the deadline of a stability timer that starts now; none runs while the reset line is asserted (R18). -/
def stabilityTimer (s : State) : Option Nat := if s.resetLine then none else some (s.now + Config.debounceTime)

/-- R5: a raw level of a line; a change restarts the stability timer. -/
def rawStage [DecidableEq α] (s : State) (x : Stage α) (v : α) : Stage α :=
  if x.raw = v then x else { x with raw := v, timer := s.stabilityTimer }

/-- R5, R6: a raw level of a line whose debounced level is a field of a record. -/
def rawFeed [DecidableEq α] (s : State) (x : Feed α) (v : α) : Feed α :=
  if x.raw = v then x else { x with raw := v, timer := s.stabilityTimer }

/-- R5, R6: a raw level at a pin. -/
def rawLine (s : State) (r : RawReading) : State :=
  let x := s.sensing
  match r with
  | .latch c v => s.setSensing { x with latch := x.latch.set c (s.rawFeed (x.latch.get c) v) }
  | .lockLine c v =>
    let f := x.feedback.get (sideClosure c)
    s.setSensing { x with feedback := x.feedback.set (sideClosure c) (s.rawFeed f { f.raw with lock := v }) }
  | .superLine c v =>
    let f := x.feedback.get (sideClosure c)
    s.setSensing { x with feedback := x.feedback.set (sideClosure c) (s.rawFeed f { f.raw with sup := v }) }
  | .tgFeedback v =>
    s.setSensing { x with feedback := x.feedback.set .tg (s.rawFeed x.feedback.tg { x.feedback.tg.raw with lock := v }) }
  | .child c v => s.setSensing { x with child := x.child.set c (s.rawFeed (x.child.get c) v) }
  | .handle c v => s.setSensing { x with handle := x.handle.set c (s.rawStage (x.handle.get c) v) }
  | .keyLock v => s.setSensing { x with keyLock := s.rawStage x.keyLock v }
  | .keyUnlock v => s.setSensing { x with keyUnlock := s.rawStage x.keyUnlock v }
  | .touch t v => s.setSensing { x with touch := x.touch.set t (s.rawStage (x.touch.get t) v) }
  | .localSwitch w v => s.setSensing { x with switch := x.switch.set w (s.rawStage (x.switch.get w) v) }

/-- R8: a latch that goes AJAR is handed to the lock sequencer and to the window controller. -/
def latchAjar (s : State) (c : Closure) : State :=
  let s := (s.setRelock none).superlockRelock
  if c = .fd || c = .fp then s.stopRetained else s

/-- R7, R8: the stability timer of a latch line has run out. -/
def latchExpiry (s : State) (c : Closure) (f : Feed LatchLevel) : State :=
  let r := s.closure c
  let v := latchOf f.raw
  if !f.read then (s.setClosure c { r with latch := v }).raiseLockChanged c
  else if v = r.latch then s
  else
    let s := s.writeClosure c { r with latch := v }
    if v = .ajar then s.latchAjar c else s

/-- R7, R11: the first stable lock reading adopted on a closure with no op: under the crash latch the goal stays
UNLOCKED (R2). -/
def adoptReading (r : ClosureRec) (latch : Bool) (v : Sensed) : ClosureRec :=
  if latch then { r with lockSensed := v, lockGoal := .unlocked, confirmed := v = .unlocked }
  else
    match v.pos with
    | some p => { r with lockSensed := v, lockGoal := p, confirmed := true }
    | none => { r with lockSensed := v, lockGoal := .unlocked, confirmed := false }

/-- R10, R11: a knob event. -/
def knobEvent (r : ClosureRec) (latch : Bool) (v : Sensed) : ClosureRec :=
  if latch then { r with lockSensed := v, confirmed := v = .unlocked }
  else
    match v.pos with
    | some p => { r with lockSensed := v, lockGoal := p, confirmed := true, lastSource := .knob }
    | none => { r with lockSensed := v, confirmed := false }

/-- R6, R7, R9 to R11: the stability timer of a closure's lock feedback has run out. -/
def feedbackExpiry (s : State) (c : Closure) (f : Feed LockPins) : State :=
  let r := s.closure c
  let v := feedbackReading c f.raw
  let free := (s.opAt (.l c)).isNone
  if !f.read then
    (s.setClosure c (if free then adoptReading r s.crash.latch v else { r with lockSensed := v })).raiseLockChanged c
  else if v = r.lockSensed then s
  else s.writeClosure c (if free then knobEvent r s.crash.latch v else { r with lockSensed := v })

/-- R7, R12: the stability timer of a child feedback line has run out. -/
def childExpiry (s : State) (r : Rear) (f : Feed ChildState) : State :=
  let x := s.childOf r
  let free := (s.opAt (.c r)).isNone
  if !f.read then
    (s.setChild r (if free then { goal := f.raw, sensed := f.raw, confirmed := true }
      else { x with sensed := f.raw })).raiseChildChanged r
  else if f.raw = x.sensed then s
  else s.writeChild r (if free then { x with sensed := f.raw, confirmed := f.raw = x.goal } else { x with sensed := f.raw })

/-- A closure stands unlocked and confirmed (R13). -/
def unlockedConfirmed (s : State) (c : Closure) : Bool :=
  (s.closure c).lockGoal = .unlocked && (s.closure c).confirmed

/-- R13, step 2: the child lock of a rear closure is engaged. -/
def childEngaged (s : State) (c : Closure) : Bool :=
  match closureRear c with
  | some r => (s.childOf r).goal = .engaged
  | none => false

/-- R13: an inner-handle pull. -/
def handlePull (s : State) (c : Side) : State :=
  if (s.closure (sideClosure c)).lockSensed = .superlocked || s.childEngaged (sideClosure c) then s
  else
    match c with
    | .fd =>
      if Closure.list.all s.unlockedConfirmed then s else s.offer (.internal .unlockAll .innerHandle)
    | .fp => if s.unlockedConfirmed .fp then s else s.offer (.internal (.unlockOne .fp) .innerHandle)
    | .rd => if s.unlockedConfirmed .rd then s else s.offer (.internal (.unlockOne .rd) .innerHandle)
    | .rp => if s.unlockedConfirmed .rp then s else s.offer (.internal (.unlockOne .rp) .innerHandle)

/-- R14: a key lock contact. -/
def keyLockContact (s : State) : State :=
  if s.sensing.keyUnlock.level = some true then s else s.offer (.internal (s.lockAction .key) .key)

/-- R14: a key unlock contact. -/
def keyUnlockContact (s : State) : State :=
  if s.sensing.keyLock.level = some true then s else s.offer (.internal .unlockAll .key)

/-- R71, R73, R82: a touch event. -/
def touched (s : State) (t : TouchSource) : State :=
  match t with
  | .tgButton => s.tailgatePress
  | .fdOpen | .fdLock | .fpOpen | .fpLock => s.touchEvent t

/-- R91: a press of a local switch is ignored. -/
def localIgnored (s : State) (w : Window) : Bool :=
  let r := s.winRec w
  s.crash.latch || r.motion = .inhibited || !s.windowPower || s.lockedOut w || r.awaitLocal
    || r.motion.holder = some .reversal || r.motion.holder = some (.of .panel)

/-- R91: a local switch event, from `prev` to `pos`. -/
def localEvent (s : State) (w : Window) (prev pos : SwitchPos) : State :=
  if pos = .neutral then s.neutral w .localSw
  else if s.localIgnored w then s
  else s.press w .localSw prev pos

/-- R5: a contact's change event: its level becomes the raw level; a change to the closed, pulled or touched level gives
the event `f`. The first stable level and a glitch give none (R7, R71). -/
def contactEvent (s : State) (x : Stage Bool) (f : State → State) : State :=
  if x.level = some false && x.raw then f s else s

/-- R5: the stage after its timer has run out. -/
def settled (x : Stage α) : Stage α := { x with level := some x.raw, timer := none }

/-- R5: the stage of a recorded line after its timer has run out. -/
def settledFeed (x : Feed α) : Feed α := { x with read := true, timer := none }

/-- R5: the stability timer of a line runs out, when it runs. -/
def debounce (s : State) (l : Line) : State :=
  let y := s.sensing
  match l with
  | .latch c =>
    let x := y.latch.get c
    match x.timer with
    | some t => ((s.reach t).setSensing { y with latch := y.latch.set c (settledFeed x) }).latchExpiry c x
    | none => s
  | .feedback c =>
    let x := y.feedback.get c
    match x.timer with
    | some t => ((s.reach t).setSensing { y with feedback := y.feedback.set c (settledFeed x) }).feedbackExpiry c x
    | none => s
  | .child r =>
    let x := y.child.get r
    match x.timer with
    | some t => ((s.reach t).setSensing { y with child := y.child.set r (settledFeed x) }).childExpiry r x
    | none => s
  | .handle c =>
    let x := y.handle.get c
    match x.timer with
    | some t =>
      ((s.reach t).setSensing { y with handle := y.handle.set c (settled x) }).contactEvent x (fun s => s.handlePull c)
    | none => s
  | .keyLock =>
    let x := y.keyLock
    match x.timer with
    | some t => ((s.reach t).setSensing { y with keyLock := settled x }).contactEvent x keyLockContact
    | none => s
  | .keyUnlock =>
    let x := y.keyUnlock
    match x.timer with
    | some t => ((s.reach t).setSensing { y with keyUnlock := settled x }).contactEvent x keyUnlockContact
    | none => s
  | .touch t =>
    let x := y.touch.get t
    match x.timer with
    | some d =>
      ((s.reach d).setSensing { y with touch := y.touch.set t (settled x) }).contactEvent x (fun s => s.touched t)
    | none => s
  | .localSwitch w =>
    let x := y.switch.get w
    match x.timer with
    | some t =>
      let s := (s.reach t).setSensing { y with switch := y.switch.set w (settled x) }
      match x.level with
      | some prev => if prev = x.raw then s else s.localEvent (otherWindow w) prev x.raw
      | none => s
    | none => s

end State

end Sys2Proof.Machine
end

