-- ==== Sys2Proof/Machine/Resets.lean ====
section
/-! DEFINITION. The resets (R172 with R18, R19, R43, R53, R70, R83, R106, R107, R124, R136, R149, R162), the pin events of
the closure lines, and the commands of those families. -/

namespace Sys2Proof.Machine
open Sys2Proof

/-- R5, R18: after a full reset the debounced levels are undefined and the stability timers start; the pins stand as the
outside holds them. -/
def Sensing.restarted (x : Sensing) : Sensing :=
  { latch := x.latch.map (fun f => .reset f.raw), feedback := x.feedback.map (fun f => .reset f.raw),
    child := x.child.map (fun f => .reset f.raw), handle := x.handle.map (fun f => .reset f.raw),
    keyLock := .reset x.keyLock.raw, keyUnlock := .reset x.keyUnlock.raw, touch := x.touch.map (fun f => .reset f.raw),
    switch := x.switch.map (fun f => .reset f.raw) }

namespace State

/-- R172: every block at its full-reset values and every notice set empty. What the outside holds stays: the waiting
commands, the pins, the crash line and the reset line; the model's own counter of free values stays too. -/
def fullReset (s : State) : State :=
  { State.reset with
    pending := s.pending, freeCount := s.freeCount, resetLine := s.resetLine, sensing := s.sensing.restarted,
    crash := { Crash.reset with line := s.crash.line }, notices := .all .empty }

/-- R44: a crash line that is asserted when a reset is released enters ASSERTING at once. -/
def startDetector (s : State) : State :=
  if s.crash.line then s.setDetector .asserting (some (s.now + Config.crashFilter)) else s

/-- R172, R162: the reset is released: RESTARTED is raised with its cause, and the first temperature and supply
measurements are taken. -/
def released (s : State) (cause : ResetCause) (temp : Int) (v : Nat) : State :=
  ((s.startDetector.raiseRestarted cause).measureTemp temp).measureSupply v

/-- R172: the supply rises through 5 V. With the reset line asserted the part stays held. -/
def powerOn (s : State) (temp : Int) (v : Nat) : State :=
  let s := s.fullReset
  if s.resetLine then s else s.released .powerOn temp v

/-- R172: the reset line is asserted. -/
def holdReset (s : State) : State := fullReset { s with resetLine := true }

/-- R172: the reset line is released; a line that was not asserted is not released. -/
def releaseReset (s : State) (temp : Int) (v : Nat) : State :=
  if s.resetLine then (fullReset { s with resetLine := false }).released .resetLine temp v else s

/-! ### Soft reset -/

/-- R43: the queue, the repeat record and the relock timer at a soft reset. -/
def clearQueue (s : State) : State := { s with seq := { s.seq with queue := [], repeatRec := none, relock := none } }

/-- R107: one window at a soft reset. -/
def softStop (s : State) (w : Window) : State :=
  let r := s.winRec w
  let s :=
    if r.motion.running then s.stopMotion w (if noCause r.causes then .idle else .inhibited) false .reset
    else (s.setWin w { r with brake := none }).offChan (.w w)
  s.setWin w { s.winRec w with panelPosition := .neutral, panelTimer := none, awaitPanel := false, awaitLocal := false }

/-- R19, R53: confirmed of one closure at a soft reset. -/
def softConfirm (s : State) (c : Closure) : State :=
  match s.opAt (.l c) with
  | some _ => s.abortCrash c
  | none => if (s.closure c).lockSensed = (s.closure c).lockGoal.sensed then s else s.writeConfirmed c false

/-- R19: child_confirmed of one rear closure at a soft reset. -/
def softChild (s : State) (r : Rear) : State :=
  if (s.childOf r).sensed = (s.childOf r).goal then s else s.writeChildConfirmed r false

/-- R83, R107, R166: the touch windows, the comfort session, retained power and the staging record at a soft reset. -/
def softIdle (s : State) : State :=
  { s with
    touch := .all .idle, fobs := { s.fobs with session := none }, win := { s.win with retained := none },
    staging := none, softResetDue := false }

/-- R53: with the latch still set, crash operations start afresh. -/
def softCrash (s : State) : State := if s.crash.latch then s.refreshCrash else s

/-- R172: a soft reset is taken. -/
def softReset (s : State) : State :=
  let s := (Actuator.list.foldl abortOrdinary s).clearQueue
  let s := Window.list.foldl softStop s
  let s := Rear.list.foldl softChild (Closure.list.foldl softConfirm s)
  (s.softIdle.softCrash).raiseRestarted .soft

end State

/-! ### The meanings -/

/-- POWER_ON (R172). -/
def execPowerOn (temp : Int) (v : Nat) (s : State) : Host.Outcome State Fault Refusal := .next (s.powerOn temp v)

/-- RESET_LINE_ASSERT (R172). -/
def execResetLineAssert (s : State) : Host.Outcome State Fault Refusal := .next s.holdReset

/-- RESET_LINE_RELEASE (R172). -/
def execResetLineRelease (temp : Int) (v : Nat) (s : State) : Host.Outcome State Fault Refusal :=
  .next (s.releaseReset temp v)

/-- RAW_LINE_CHANGE (R5, R6). The pins change under an asserted reset line as well. -/
def execRawLineChange (r : RawReading) (s : State) : Host.Outcome State Fault Refusal := .next (s.rawLine r)

/-- DEBOUNCE_EXPIRY (R5). -/
def execDebounceExpiry (l : Line) (s : State) : Host.Outcome State Fault Refusal :=
  .next (s.live (fun s => s.debounce l))

end Sys2Proof.Machine
end

