-- ==== Sys2Proof/Machine/ServiceRequests.lean ====
section
/-! DEFINITION. The requests of the trace store, the diagnostic monitor, the configuration store and the notice unit
(R142 to R148, R156, R157, R161, R169 to R171), the measurements, and the commands of those families. -/

namespace Sys2Proof.Machine
open Sys2Proof

namespace State

/-! ### Trace store -/

/-- R142: a TRACE_TRIGGER on a window in RUN or REVERSE; the payload is the sequence number given to the trigger. -/
def requestTrigger (s : State) (w : Window) : Reply :=
  ⟨s.trigger w .requested, if (s.triggerRefusal w).isSome then .busy else .ok, u16 s.trace.sequence⟩

/-- R142: TRACE_TRIGGER. -/
def ownTraceTrigger (q : List Byte) (s : State) : Reply :=
  match pick Window.list q 0 with
  | some w => if (s.winRec w).motion.drivenDir.isSome then s.requestTrigger w else s.refuse .state
  | none => s.refuse .range

/-- R144, step 3: the cursor after part `part` of `parts` parts of a buffer's record has been returned. -/
def advanceCursor (s : State) (i : Fin 8) (part parts : Nat) : State :=
  if parts ≤ part + 1 then (s.freeBuffer i).setCursor none else s.setCursor (some ⟨i, part + 1⟩)

/-- R144: the next part of a record is returned. The record under read is COMPLETE at every read. -/
def readPart (s : State) (c : Cursor) : Reply :=
  match s.bufferAt c.buffer with
  | .complete r cause => ⟨s.advanceCursor c.buffer c.part r.parts, .ok, partBytes r cause c.part⟩
  | .free | .filling _ => s.refuse .noRecord

/-- R144: TRACE_READ. -/
def ownTraceRead (_q : List Byte) (s : State) : Reply :=
  match s.trace.cursor, s.oldestComplete with
  | some c, _ => s.readPart c
  | none, some i => s.readPart ⟨i, 0⟩
  | none, none => s.refuse .noRecord

/-- R145: TRACE_REWIND. -/
def ownTraceRewind (_q : List Byte) (s : State) : Reply :=
  (s.setCursor (s.trace.cursor.map (fun c => { c with part := 0 }))).accept

/-- R147: TRACE_CLEAR. -/
def ownTraceClear (_q : List Byte) (s : State) : Reply :=
  ({ s with trace := { s.trace with buffers := Vector.replicate 8 .free, captures := [], cursor := none } }).accept

/-- R146: TIME_TAG_RESET. -/
def ownTimeTagReset (_q : List Byte) (s : State) : Reply :=
  ({ s with trace := { s.trace with tagBase := s.now } }).accept

/-- R148: TRACE_STATUS. -/
def ownTraceStatus (_q : List Byte) (s : State) : Reply := ⟨s, .ok, s.traceStatus⟩

/-! ### Diagnostic monitor -/

/-- R156: withdrawn becomes no and the four results NOT_TESTED. -/
def cleared (r : ChannelRec) : ChannelRec :=
  { r with withdrawn := false, openLoad := .notTested, shortSupply := .notTested, shortGround := .notTested,
           overcurrent := .notTested }

/-- R156: a channel is cleared; the clearing of a withdrawn W channel removes the cause FAULT. -/
def clearChan (s : State) (ch : Channel) : State :=
  let was := (s.chan ch).withdrawn
  let s := s.setChan ch (cleared (s.chan ch))
  match ch with
  | .w w => if was then s.removeCause w .fault else s
  | .act _ => s

/-- R156: CLEAR_FAULT. -/
def ownClearFault (q : List Byte) (s : State) : Reply :=
  match pick Channel.list q 0 with
  | some ch => if s.crashDrives ch then s.refuse .crash else (s.clearChan ch).accept
  | none => s.refuse .range

/-- R157: the sticky flags that a number does not name. -/
def flagsWithout (f : StickyFlags) (m : Nat) : StickyFlags :=
  { openLoad := f.openLoad && !m.testBit 0, shortSupply := f.shortSupply && !m.testBit 1,
    shortGround := f.shortGround && !m.testBit 2, overcurrent := f.overcurrent && !m.testBit 3,
    twarm := f.twarm && !m.testBit 4, thot := f.thot && !m.testBit 5, slow := f.slow && !m.testBit 6,
    scut := f.scut && !m.testBit 7 }

/-- R157: CLEAR_STATUS. One byte names no more than the eight flags, so no value is out of range. -/
def ownClearStatus (q : List Byte) (s : State) : Reply := (s.setFlags (fun f => flagsWithout f (byteAt q 0))).accept

/-- R161, R165: DIAG_STATUS, with the segment index that R165 gives it. -/
def ownDiagStatus (q : List Byte) (s : State) : Reply :=
  let index := byteAt q 0
  if index < 3 then ⟨s, .ok, segment s.diagStatus index 3⟩ else s.refuse .range

/-! ### Configuration store -/

/-- R170: CONFIG_WRITE. -/
def ownConfigWrite (q : List Byte) (s : State) : Reply :=
  match pick groups q 0 with
  | some g =>
    match s.config.withItem g (byteAt q 1) (byteAt q 2) (fieldAt q 3 2) with
    | some c => (s.applyConfig c g).accept
    | none => s.refuse .range
  | none => s.refuse .range

/-- R170: the value that CONFIG_READ returns; 0 for FOB_TABLE, whatever item and index. -/
def configValue (s : State) (g : Group) (item index : Nat) : Option Nat :=
  if g = .fobTable then some 0 else s.config.item g item index

/-- R170: CONFIG_READ. -/
def ownConfigRead (q : List Byte) (s : State) : Reply :=
  match pick groups q 0 with
  | some g =>
    match s.configValue g (byteAt q 1) (byteAt q 2) with
    | some v => ⟨s, .ok, u16 v ++ flagByte (s.config.frozen.has g)⟩
    | none => s.refuse .range
  | none => s.refuse .range

/-- R171: CONFIG_FREEZE. -/
def ownConfigFreeze (q : List Byte) (s : State) : Reply :=
  match pick groups q 0 with
  | some g => ({ s with config := { s.config with frozen := s.config.frozen.add g } }).accept
  | none => s.refuse .range

/-! ### Notice unit and soft reset -/

/-- R169: READ_NOTICES; place 16 is NONE. -/
def ownReadNotices (p : Port) (q : List Byte) (s : State) : Reply :=
  let n := s.notices.get p
  let place := byteAt q 0
  if place ≤ 16 then ⟨s, .ok, noticeMask n ++ s.noticeDetail n place⟩ else s.refuse .range

/-- R169: ACK_NOTICES. -/
def ownAckNotices (p : Port) (q : List Byte) (s : State) : Reply :=
  (s.setNotices p ((s.notices.get p).ack (fieldAt q 0 2))).accept

/-- R172: SOFT_RESET is answered OK; the reset is taken when its response has been sent. -/
def ownSoftReset (_q : List Byte) (s : State) : Reply := ({ s with softResetDue := true }).accept

end State

/-! ### The meanings -/

/-- TRACE_TRIGGER (R142). -/
def execTraceTrigger (p : Port) (tag : Byte) (payload : List Byte) (s : State) : Host.Outcome State Fault Refusal :=
  .next (s.live (fun s => s.request .traceTrigger State.ownTraceTrigger p tag payload))

/-- TRACE_READ (R144). -/
def execTraceRead (p : Port) (tag : Byte) (payload : List Byte) (s : State) : Host.Outcome State Fault Refusal :=
  .next (s.live (fun s => s.request .traceRead State.ownTraceRead p tag payload))

/-- TRACE_REWIND (R145). -/
def execTraceRewind (p : Port) (tag : Byte) (payload : List Byte) (s : State) : Host.Outcome State Fault Refusal :=
  .next (s.live (fun s => s.request .traceRewind State.ownTraceRewind p tag payload))

/-- TRACE_CLEAR (R147). -/
def execTraceClear (p : Port) (tag : Byte) (payload : List Byte) (s : State) : Host.Outcome State Fault Refusal :=
  .next (s.live (fun s => s.request .traceClear State.ownTraceClear p tag payload))

/-- TIME_TAG_RESET (R146). -/
def execTimeTagReset (p : Port) (tag : Byte) (payload : List Byte) (s : State) : Host.Outcome State Fault Refusal :=
  .next (s.live (fun s => s.request .timeTagReset State.ownTimeTagReset p tag payload))

/-- TRACE_STATUS (R148). -/
def execTraceStatus (p : Port) (tag : Byte) (payload : List Byte) (s : State) : Host.Outcome State Fault Refusal :=
  .next (s.live (fun s => s.request .traceStatus State.ownTraceStatus p tag payload))

/-- CLEAR_FAULT (R156). -/
def execClearFault (p : Port) (tag : Byte) (payload : List Byte) (s : State) : Host.Outcome State Fault Refusal :=
  .next (s.live (fun s => s.request .clearFault State.ownClearFault p tag payload))

/-- CLEAR_STATUS (R157). -/
def execClearStatus (p : Port) (tag : Byte) (payload : List Byte) (s : State) : Host.Outcome State Fault Refusal :=
  .next (s.live (fun s => s.request .clearStatus State.ownClearStatus p tag payload))

/-- DIAG_STATUS (R161). -/
def execDiagStatus (p : Port) (tag : Byte) (payload : List Byte) (s : State) : Host.Outcome State Fault Refusal :=
  .next (s.live (fun s => s.request .diagStatus State.ownDiagStatus p tag payload))

/-- CONFIG_WRITE (R170). -/
def execConfigWrite (p : Port) (tag : Byte) (payload : List Byte) (s : State) : Host.Outcome State Fault Refusal :=
  .next (s.live (fun s => s.request .configWrite State.ownConfigWrite p tag payload))

/-- CONFIG_READ (R170). -/
def execConfigRead (p : Port) (tag : Byte) (payload : List Byte) (s : State) : Host.Outcome State Fault Refusal :=
  .next (s.live (fun s => s.request .configRead State.ownConfigRead p tag payload))

/-- CONFIG_FREEZE (R171). -/
def execConfigFreeze (p : Port) (tag : Byte) (payload : List Byte) (s : State) : Host.Outcome State Fault Refusal :=
  .next (s.live (fun s => s.request .configFreeze State.ownConfigFreeze p tag payload))

/-- SOFT_RESET (R172). -/
def execSoftReset (p : Port) (tag : Byte) (payload : List Byte) (s : State) : Host.Outcome State Fault Refusal :=
  .next (s.live (fun s => s.request .softReset State.ownSoftReset p tag payload))

/-- READ_NOTICES (R169). -/
def execReadNotices (p : Port) (tag : Byte) (payload : List Byte) (s : State) : Host.Outcome State Fault Refusal :=
  .next (s.live (fun s => s.request .readNotices (State.ownReadNotices p) p tag payload))

/-- ACK_NOTICES (R169). -/
def execAckNotices (p : Port) (tag : Byte) (payload : List Byte) (s : State) : Host.Outcome State Fault Refusal :=
  .next (s.live (fun s => s.request .ackNotices (State.ownAckNotices p) p tag payload))

/-- ACTUATOR_CURRENT_MEASUREMENT (R154). -/
def execActuatorCurrentMeasurement (a : Actuator) (code : Nat) (s : State) : Host.Outcome State Fault Refusal :=
  .next (s.live (fun s => s.measure a code))

/-- OPEN_LOAD_JUDGEMENT (R152). -/
def execOpenLoadJudgement (ch : Channel) (s : State) : Host.Outcome State Fault Refusal :=
  .next (s.live (fun s => s.drivePoint ch))

/-- OFF_STATE_TICK (R153): the tick stands at its own time, and the next one a period later. -/
def execOffStateTick (findings : Channels Finding) (s : State) : Host.Outcome State Fault Refusal :=
  .next (s.live (fun s =>
    let s := s.reach s.mon.offTickAt
    let s := { s with mon := { s.mon with offTickAt := s.mon.offTickAt + Config.offStatePeriod } }
    s.testAllOff findings))

/-- TEMPERATURE_MEASUREMENT (R158). -/
def execTemperatureMeasurement (t : Int) (s : State) : Host.Outcome State Fault Refusal :=
  .next (s.live (fun s => s.measureTemp t))

/-- SUPPLY_MEASUREMENT (R160). -/
def execSupplyMeasurement (v : Nat) (s : State) : Host.Outcome State Fault Refusal :=
  .next (s.live (fun s => s.measureSupply v))

end Sys2Proof.Machine
end

