-- ==== Sys2Proof/Machine/Pinch.lean ====
section
/-! DEFINITION. The pinch computation (chapter 7): the stages of one sample and what it hands on. -/

namespace Sys2Proof.Machine
open Sys2Proof

/-- R113: stage 1, the compensated current. -/
def compensate (i gain : Nat) : Nat := (i * gain / 8192 + 1) / 2

/-- R113: the supply band. -/
def supplyBand (v : Nat) : Fin 16 := ⟨min 15 (v / 64), by omega⟩

/-- R114, R115: stage 2, the filter at a sample of phase RUN or REVERSE. -/
def filterStep (f : Option Nat) (ic s : Nat) : Nat :=
  match f with
  | none => ic * 16
  | some f => ((f : Int) + roundedShift ((ic : Int) * 16 - f) s).toNat

/-- R116: the reference of a zone: learned, or the cold reference. -/
def zoneEffort (zones : Vector (Option ZoneRef) 32) (z : Option (Fin 32)) (cold : Nat) : Nat :=
  match z with
  | some z => match zones[z] with
    | some r => r.effort
    | none => cold
  | none => cold

/-- R117: stage 4, the accumulator. -/
def accumulate (p : Nat) (x : Int) (d : Nat) : Nat := (clamp 0 65535 ((p : Int) + x - d)).toNat

/-- R119: stage 5, the speed indicator. -/
def speedIndicator (zones : Vector (Option ZoneRef) 32) (z : Option (Fin 32)) (last since : Nat) (temp : TempState) :
    Bool :=
  let slow := match z with
    | some z => match zones[z] with
      | some r => decide (r.interval * 5 ≤ max last since * 4)
      | none => true
    | none => true
  slow || temp = .warm

/-- R120: the position lies in the pinch zone. -/
def inPinchZone (p : Option Int) (pz : Nat) : Bool :=
  match p with
  | some p => decide (4 ≤ p) && decide (p ≤ pz)
  | none => false

/-- R120: the motion is a run with direction UP. -/
def upRun (m : Motion) : Bool :=
  match m with
  | .run k => k.dir = .up
  | .idle | .dwell _ | .reverse _ | .inhibited => false

namespace State

/-- R108: the phase of a sample taken now, none when the window is not driven. -/
def samplePhase (s : State) (w : Window) : Option SamplePhase :=
  let r := s.winRec w
  match r.motion with
  | .run _ => some (if r.startWindow.isSome then .start else .run)
  | .reverse _ => some (if r.startWindow.isSome then .start else .reverse)
  | .idle | .dwell _ | .inhibited => none

/-- R113: the compensated current of a sample with current I and supply V. -/
def sampleIc (s : State) (i v : Nat) : Nat := compensate (min 1023 i) s.config.gain[supplyBand v]

/-- R114 to R117: the pinch state after the stages of a sample, with the Teff that stage 6 applies (R140). -/
def samplePinch (s : State) (w : Window) (ph : SamplePhase) (ic : Nat) : PinchState :=
  let q := s.pinchOf w
  let c := s.runCal w
  let teff := some (teffOf c.t (s.winRec w).limited)
  match ph with
  | .start => { q with lastTeff := teff }
  | .run | .reverse =>
    let f := filterStep q.filter ic c.s
    let r := zoneEffort (s.refsOf w).zones (zoneOf c.zs (s.winRec w).position) c.c
    { q with filter := some f, acc := accumulate q.acc ((f / 16 : Nat) - (r : Int)) c.d, lastTeff := teff }

/-- R119: the speed indicator of a sample. -/
def sampleSpeed (s : State) (w : Window) : Bool :=
  let z := zoneOf (s.runCal w).zs (s.winRec w).position
  speedIndicator (s.refsOf w).zones z (s.pinchOf w).lastInterval (s.sincePulse w) s.mon.temp

/-- R123: the effort that a sample's record shows. -/
def sampleEffort (ph : SamplePhase) (ic : Nat) (q : PinchState) : Nat :=
  match ph with
  | .start => ic
  | .run | .reverse => (q.filter.getD 0) / 16

/-- R123: the sample record. -/
def sampleRecord (s : State) (w : Window) (ph : SamplePhase) (ic : Nat) : Sample :=
  let q := s.samplePinch w ph ic
  { ic, effort := sampleEffort ph ic q, acc := q.acc, position := (s.winRec w).position, speed := s.sampleSpeed w,
    phase := ph }

/-- R120: stage 6 declares an effort pinch at a sample whose record is `x`. -/
def declares (s : State) (w : Window) (x : Sample) : Bool :=
  let r := s.winRec w
  let c := s.runCal w
  x.phase = .run && upRun r.motion && r.normalised && inPinchZone x.position c.pz
    && decide (teffOf c.t r.limited < x.acc) && (c.coincidence = .effortOnly || x.speed)

/-- R127: a sample of phase RUN of an up-run in a zone reaches the stroke record. -/
def feedStroke (s : State) (w : Window) (x : Sample) : State :=
  match zoneOf (s.runCal w).zs x.position with
  | some z =>
    if x.phase = .run && upRun (s.winRec w).motion then
      s.writeZoneSample w z x.effort (s.pinchOf w).lastInterval
    else s
  | none => s

/-- R121: a declared pinch is taken while the window is still in RUN. -/
def takeDeclared (s : State) (w : Window) (p : Option Int) : State :=
  match p with
  | some p => if upRun (s.winRec w).motion then s.takePinch w .effort p else s
  | none => s

/-- R122: what a sample that declared a pinch (`pinch`) or completed the overcurrent count (`jam`) gives. When it did
both, the free value decides which is taken first (log entry 1). -/
def sampleOutcome (s : State) (w : Window) (p : Option Int) (pinch jam : Bool) : State :=
  match pinch, jam with
  | false, false => s
  | true, false => s.takeDeclared w p
  | false, true => s.detectOvercurrent (.w w)
  | true, true =>
    let first := Config.pinchTakenFirst s.freeCount
    let s := { s with freeCount := s.freeCount + 1 }
    if first then (s.takeDeclared w p).detectOvercurrent (.w w)
    else (s.detectOvercurrent (.w w)).takeDeclared w p

/-- R111: one sample of a window with measured current I and supply V. -/
def sample (s : State) (w : Window) (i v : Nat) : State :=
  match s.samplePhase w with
  | none => s
  | some ph =>
    let ic := s.sampleIc i v
    let x := s.sampleRecord w ph ic
    let pinch := s.declares w x
    let jam := s.completesCount (.w w) (min 1023 i)
    let s := s.setPinch w (s.samplePinch w ph ic)
    let s := s.feedStroke w x
    let s := (s.countCurrent (.w w) (min 1023 i)).addSample w x
    s.sampleOutcome w x.position pinch jam

end State

end Sys2Proof.Machine
end

