-- ==== Sys2Proof/Machine/WindowRequests.lean ====
section
/-! DEFINITION. The requests, pulses, samples and timers of the windows (chapters 6 to 8), and the commands of those
families. -/

namespace Sys2Proof.Machine
open Sys2Proof

namespace State

/-! ### WINDOW_SWITCH (R89, R90) -/

/-- R89: what a frame records before it is judged. -/
def recordPanel (s : State) (w : Window) (pos : SwitchPos) : State :=
  let r := s.winRec w
  if pos = .neutral then s.setWin w { r with panelPosition := pos, panelTimer := none }
  else s.setWin w { r with panelPosition := pos, panelTime := s.now, panelTimer := some (s.now + Config.panelRefresh) }

/-- R90: the answer to a non-neutral frame judged against the previous position, and whether its press is taken. -/
def panelJudgement (s : State) (w : Window) (prev pos : SwitchPos) : Code × Bool :=
  let r := s.winRec w
  if s.crash.latch then (.crash, false)
  else if r.motion = .inhibited then (.state, false)
  else if !s.windowPower then (.noPower, false)
  else if pos = prev then (.ok, false)
  else if r.awaitPanel then (.ok, false)
  else if r.motion.holder = some .reversal then (.held, false)
  else (.ok, true)

/-- R89, R90: a frame of the driver switch pack. -/
def panelFrame (s : State) (w : Window) (pos : SwitchPos) : Reply :=
  let prev := (s.winRec w).panelPosition
  let s := s.recordPanel w pos
  if pos = .neutral then (s.neutral w .panel).accept
  else
    let j := s.panelJudgement w prev pos
    ⟨if j.2 then s.press w .panel prev pos else s, j.1, []⟩

/-- R89: WINDOW_SWITCH. -/
def ownWindowSwitch (q : List Byte) (s : State) : Reply :=
  match pick Window.list q 0, pick switchPositions q 1 with
  | some w, some pos => s.panelFrame w pos
  | _, _ => s.refuse .range

/-! ### REAR_LOCKOUT, COMFORT, VEHICLE_MODE, WINDOW_STATUS -/

/-- R92: the rear lockout flag is written; SET begins the lockout of both rear windows. -/
def writeLockout (s : State) (on : Bool) : State :=
  let s := { s with win := { s.win with rearLockout := on } }
  if on then (s.beginLockout .wrd).beginLockout .wrp else s

/-- R92: REAR_LOCKOUT. -/
def ownRearLockout (q : List Byte) (s : State) : Reply :=
  match flagAt q 0 with
  | some on => (s.writeLockout on).accept
  | none => s.refuse .range

/-- R101: the byte of a window's comfort outcome: STARTED, SKIPPED or the refusal code (log entry 22). -/
def outcomeByte : ComfortOutcome → List Byte
  | .started => u8 0
  | .skipped => u8 1
  | .refused c => codeByte c

/-- R101: the code of the first refused window, OK when there is none. -/
def comfortCode (o : Windows ComfortOutcome) : Code := (comfortRefusals o).head?.getD .ok

/-- R101: COMFORT CLOSE or OPEN. -/
def comfortRequest (s : State) (dir : Dir) : Reply :=
  let o := s.comfortOutcomes
  ⟨s.comfortAll dir .comfortB, comfortCode o, Window.list.flatMap (fun w => outcomeByte (o.get w))⟩

/-- R101: a holder is COMFORT_B. -/
def isComfortB (h : RunHolder) : Bool := h = .comfortB

/-- R101: COMFORT STOP; the response lists the windows it stops. -/
def comfortStopB (s : State) : Reply :=
  ⟨s.endHeldAll isComfortB, .ok, windowSet (s.win.recs.map (fun r => heldBy r isComfortB))⟩

/-- R101: COMFORT. -/
def ownComfort (q : List Byte) (s : State) : Reply :=
  match pick comfortAsks q 0 with
  | some .close => s.comfortRequest .up
  | some .opening => s.comfortRequest .down
  | some .stop => s.comfortStopB
  | none => s.refuse .range

/-- R88: the retained-power timer after a write of the mode. -/
def retainedAfter (old new : VehicleMode) (retained : Option Nat) (now : Nat) : Option Nat :=
  match new, old with
  | .parked, .run => some (now + Config.retainedPower)
  | .parked, .parked => retained
  | .parked, .accessory | .accessory, _ | .run, _ => none

/-- R88: the vehicle mode is written; a write that leaves no window power ends the runs of PANEL and LOCAL. -/
def writeMode (s : State) (m : VehicleMode) : State :=
  let had := s.windowPower
  let s := { s with win := { s.win with mode := m, retained := retainedAfter s.win.mode m s.win.retained s.now } }
  if had && !s.windowPower then s.endPower else s

/-- R88: VEHICLE_MODE. -/
def ownVehicleMode (q : List Byte) (s : State) : Reply :=
  match pick vehicleModes q 0 with
  | some m => (s.writeMode m).accept
  | none => s.refuse .range

/-- R165: a segment of a read of fixed total; an index at or beyond the total is refused with RANGE. -/
def readSegment (s : State) (content : List Byte) (index total : Nat) : Reply :=
  if index < total then ⟨s, .ok, segment content index total⟩ else s.refuse .range

/-- R105: WINDOW_STATUS. -/
def ownWindowStatus (q : List Byte) (s : State) : Reply := s.readSegment s.windowStatus (byteAt q 0) 3

/-! ### Window context (R132 to R134, R166) -/

/-- R132: WINDOW_CONTEXT_READ. -/
def ownWindowContextRead (q : List Byte) (s : State) : Reply :=
  match pick Window.list q 0 with
  | some w => s.readSegment (s.contextBytes w) (byteAt q 1) 4
  | none => s.refuse .range

/-- R134: the forget of normalisation. -/
def forgetNormalisation (s : State) (w : Window) : State :=
  s.setWin w { s.winRec w with position := none, normalised := false, topCorrection := none }

/-- R134: a forget of what the request names. -/
def forget (s : State) (w : Window) (what : ForgetWhat) : State :=
  match what with
  | .references => s.forgetReferences w
  | .normalisation => s.forgetNormalisation w
  | .both => (s.forgetReferences w).forgetNormalisation w

/-- R134: WINDOW_FORGET. -/
def ownWindowForget (q : List Byte) (s : State) : Reply :=
  match pick Window.list q 0, pick forgetWhats q 1 with
  | some w, some what => if (s.winRec w).motion.running then s.refuse .state else (s.forget w what).accept
  | _, _ => s.refuse .range

/-- R133: a restore with its fields in range: the window, its position, its count and its zones. -/
structure Restore where
  window : Window
  position : Int
  count : Nat
  zones : Vector (Option ZoneRef) 32
deriving DecidableEq, Repr

/-- R165: `n` zone fields, each a marker byte and, when the marker is 01h, R and Iref; none when the bytes do not match
the markers. -/
def zoneFields : Nat → List Byte → Option (List (Byte × Option ZoneRef))
  | 0, [] => some []
  | 0, _ :: _ => none
  | _ + 1, [] => none
  | n + 1, m :: rest =>
    if m = 1 then
      match rest with
      | a :: b :: c :: more => (zoneFields n more).map ((m, some ⟨ofBytes [a, b], c.toNat⟩) :: ·)
      | _ => none
    else (zoneFields n rest).map ((m, none) :: ·)

/-- R133: a zone field lies in its range. -/
def zoneInRange (f : Byte × Option ZoneRef) : Bool :=
  match f.2 with
  | some z => decide (z.effort ≤ 2047) && decide (1 ≤ z.interval)
  | none => f.1 = 0

/-- R133: the fields of a restore are in range. -/
def restoreOf (content : List Byte) (zones : List (Byte × Option ZoneRef)) : Option Restore :=
  let p := signed16 (fieldAt content 1 2)
  match pick Window.list content 0 with
  | some w =>
    if -64 ≤ p && p ≤ 4095 && zones.all zoneInRange then
      some { window := w, position := p, count := byteAt content 3,
             zones := Vector.ofFn (fun z : Fin 32 => (zones[z.val]?).bind Prod.snd) }
    else none
  | none => none

/-- R133: the accepted restore writes the window context whole. -/
def restore (s : State) (x : Restore) : State :=
  let s := s.setRefs x.window
    { s.refsOf x.window with zones := x.zones, learned := x.count, pendingForget := none }
  s.setWin x.window { s.winRec x.window with position := some x.position, normalised := true }

/-- R133: the window is IDLE and unnormalised. -/
def mayRestore (r : WindowRec) : Bool := r.motion = .idle && !r.normalised

/-- R166: the assembled content is judged: FORMAT, RANGE, STATE. -/
def judgeRestore (s : State) (content : List Byte) : Reply :=
  match zoneFields 32 (content.drop 4) with
  | none => s.refuse .format
  | some zones =>
    match restoreOf content zones with
    | none => s.refuse .range
    | some x => if mayRestore (s.winRec x.window) then (s.restore x).accept else s.refuse .state

/-- R166: the restore staging record is written. -/
def setStaging (s : State) (x : Option Staging) : State := { s with staging := x }

/-- R166: a segment joins the record, and the last one hands the content over. -/
def addSegment (s : State) (x : Staging) : Reply :=
  if x.total ≤ x.next then (s.setStaging none).judgeRestore x.content else (s.setStaging (some x)).accept

/-- R166: WINDOW_RESTORE, one segment. -/
def ownWindowRestore (q : List Byte) (s : State) : Reply :=
  let index := byteAt q 0
  let total := byteAt q 1
  let content := q.drop 2
  if total = 0 || 3 < total || total ≤ index then s.refuse .range
  else if index = 0 then s.addSegment { total, next := 1, content }
  else
    match s.staging with
    | some x =>
      if x.total = total && x.next = index then s.addSegment { x with next := index + 1, content := x.content ++ content }
      else (s.setStaging none).refuse .format
    | none => s.refuse .format

/-! ### Timers of a window -/

/-- R97: the stall timer reaches 80 ms: noted inside the start window, otherwise the stall is taken. -/
def stallEnd (s : State) (w : Window) : State :=
  match (s.winRec w).stall with
  | some t =>
    let s := s.reach t
    let r := s.winRec w
    if r.startWindow.isSome then s.setWin w { r with stall := none, stallReached := true }
    else (s.setWin w { r with stall := none }).takeStall w
  | none => s

/-- R97: the start window ends; a stall that fell inside it is taken. -/
def startEnd (s : State) (w : Window) : State :=
  match (s.winRec w).startWindow with
  | some t =>
    let s := s.reach t
    let r := s.winRec w
    let s := s.setWin w { r with startWindow := none, stallReached := false }
    if r.stallReached then s.takeStall w else s
  | none => s

/-- R96, R103: the DWELL timer expires. -/
def dwellExpiry (s : State) (w : Window) : State :=
  match (s.winRec w).dwell with
  | some t => (s.reach t).endDwell w
  | none => s

/-- R99: the brake ends and the bridge is switched off. -/
def brakeExpiry (s : State) (w : Window) : State :=
  match (s.winRec w).brake with
  | some t =>
    let s := s.reach t
    (s.setWin w { s.winRec w with brake := none }).offChan (.w w)
  | none => s

/-- R89: the panel refresh timer expires. -/
def panelExpiry (s : State) (w : Window) : State :=
  match (s.winRec w).panelTimer with
  | some t =>
    let s := s.reach t
    (s.setWin w { s.winRec w with panelPosition := .neutral, panelTimer := none }).neutral w .panel
  | none => s

/-- R88: the retained-power timer expires. -/
def retainedExpiry (s : State) : State :=
  match s.win.retained with
  | some t => (s.reach t).stopRetained
  | none => s

end State

/-! ### The meanings -/

/-- WINDOW_SWITCH (R89). -/
def execWindowSwitch (p : Port) (tag : Byte) (payload : List Byte) (s : State) : Host.Outcome State Fault Refusal :=
  .next (s.live (fun s => s.request .windowSwitch State.ownWindowSwitch p tag payload))

/-- REAR_LOCKOUT (R92). -/
def execRearLockout (p : Port) (tag : Byte) (payload : List Byte) (s : State) : Host.Outcome State Fault Refusal :=
  .next (s.live (fun s => s.request .rearLockout State.ownRearLockout p tag payload))

/-- COMFORT (R101). -/
def execComfort (p : Port) (tag : Byte) (payload : List Byte) (s : State) : Host.Outcome State Fault Refusal :=
  .next (s.live (fun s => s.request .comfort State.ownComfort p tag payload))

/-- VEHICLE_MODE (R88). -/
def execVehicleMode (p : Port) (tag : Byte) (payload : List Byte) (s : State) : Host.Outcome State Fault Refusal :=
  .next (s.live (fun s => s.request .vehicleMode State.ownVehicleMode p tag payload))

/-- WINDOW_STATUS (R105). -/
def execWindowStatus (p : Port) (tag : Byte) (payload : List Byte) (s : State) : Host.Outcome State Fault Refusal :=
  .next (s.live (fun s => s.request .windowStatus State.ownWindowStatus p tag payload))

/-- WINDOW_RESTORE (R166). -/
def execWindowRestore (p : Port) (tag : Byte) (payload : List Byte) (s : State) : Host.Outcome State Fault Refusal :=
  .next (s.live (fun s => s.request .windowRestore State.ownWindowRestore p tag payload))

/-- WINDOW_FORGET (R134). -/
def execWindowForget (p : Port) (tag : Byte) (payload : List Byte) (s : State) : Host.Outcome State Fault Refusal :=
  .next (s.live (fun s => s.request .windowForget State.ownWindowForget p tag payload))

/-- WINDOW_CONTEXT_READ (R132). -/
def execWindowContextRead (p : Port) (tag : Byte) (payload : List Byte) (s : State) : Host.Outcome State Fault Refusal :=
  .next (s.live (fun s => s.request .windowContextRead State.ownWindowContextRead p tag payload))

/-- RIPPLE_PULSE (R87). -/
def execRipplePulse (w : Window) (s : State) : Host.Outcome State Fault Refusal := .next (s.live (fun s => s.ripple w))

/-- WINDOW_SAMPLE (R111). -/
def execWindowSample (w : Window) (i v : Nat) (s : State) : Host.Outcome State Fault Refusal :=
  .next (s.live (fun s => s.sample w i v))

/-- START_WINDOW_END (R97). -/
def execStartWindowEnd (w : Window) (s : State) : Host.Outcome State Fault Refusal :=
  .next (s.live (fun s => s.startEnd w))

/-- STALL_TIMER_EXPIRY (R97). -/
def execStallTimerExpiry (w : Window) (s : State) : Host.Outcome State Fault Refusal :=
  .next (s.live (fun s => s.stallEnd w))

/-- DWELL_END (R96, R103). -/
def execDwellEnd (w : Window) (s : State) : Host.Outcome State Fault Refusal :=
  .next (s.live (fun s => s.dwellExpiry w))

/-- BRAKE_END (R99). -/
def execBrakeEnd (w : Window) (s : State) : Host.Outcome State Fault Refusal :=
  .next (s.live (fun s => s.brakeExpiry w))

/-- PANEL_REFRESH_EXPIRY (R89). -/
def execPanelRefreshExpiry (w : Window) (s : State) : Host.Outcome State Fault Refusal :=
  .next (s.live (fun s => s.panelExpiry w))

/-- RETAINED_POWER_EXPIRY (R88). -/
def execRetainedPowerExpiry (s : State) : Host.Outcome State Fault Refusal := .next (s.live State.retainedExpiry)

end Sys2Proof.Machine
end

