-- ==== Sys2Proof/Machine/Link.lean ====
section
/-! DEFINITION. The port engines byte by byte (R163), frames by their kind byte (R167), and the commands of that family. -/

namespace Sys2Proof.Machine
open Sys2Proof

/-- R167: the block that owns a kind. -/
def ownerOf (k : Kind) (p : Port) (tag : Byte) : List Byte → State → Reply :=
  match k with
  | .lock => State.ownLock p tag
  | .centralToggle => State.ownCentralToggle p tag
  | .childSet => State.ownChildSet p tag
  | .credential => State.ownCredential tag
  | .passiveClaim => State.ownPassiveClaim tag
  | .windowSwitch => State.ownWindowSwitch
  | .rearLockout => State.ownRearLockout
  | .comfort => State.ownComfort
  | .vehicleMode => State.ownVehicleMode
  | .crashClear => State.ownCrashClear
  | .windowRestore => State.ownWindowRestore
  | .windowForget => State.ownWindowForget
  | .windowContextRead => State.ownWindowContextRead
  | .traceTrigger => State.ownTraceTrigger
  | .traceRead => State.ownTraceRead
  | .traceRewind => State.ownTraceRewind
  | .traceClear => State.ownTraceClear
  | .timeTagReset => State.ownTimeTagReset
  | .traceStatus => State.ownTraceStatus
  | .clearFault => State.ownClearFault
  | .clearStatus => State.ownClearStatus
  | .diagStatus => State.ownDiagStatus
  | .configWrite => State.ownConfigWrite
  | .configRead => State.ownConfigRead
  | .configFreeze => State.ownConfigFreeze
  | .fobWrite => State.ownFobWrite
  | .fobRead => State.ownFobRead
  | .softReset => State.ownSoftReset
  | .closureStatus => State.ownClosureStatus
  | .windowStatus => State.ownWindowStatus
  | .readNotices => State.ownReadNotices p
  | .ackNotices => State.ownAckNotices p

namespace State

/-- R163, R167: a whole frame with a good check byte is handed to the request decoder. -/
def takeFrame (s : State) (p : Port) (tag kind : Byte) (q : List Byte) : State :=
  match Kind.ofByte kind with
  | some k => s.request k (ownerOf k p tag) p tag q
  | none => s.unknownRequest p tag

/-- R163: the bytes received since the sync byte are a whole frame: length, tag, kind, payload and check byte. -/
def wholeFrame (buffer : List Byte) : Bool :=
  match buffer with
  | l :: _ => buffer.length = l.toNat + 2
  | [] => false

/-- R163: a length byte outside 2 to 50 has just been received. -/
def badLength (buffer : List Byte) : Bool :=
  match buffer with
  | [l] => decide (l.toNat < 2) || decide (50 < l.toNat)
  | _ => false

/-- R163: the last byte of a frame has arrived: its sum is tested. -/
def frameEnd (s : State) (p : Port) (buffer : List Byte) : State :=
  match decide (byteSum buffer = 0), buffer with
  | true, _ :: tag :: kind :: rest => s.takeFrame p tag kind rest.dropLast
  | _, _ => s.idlePort p

/-- R163: the engine is in RECEIVING with these bytes, and the inter-byte timer restarts. -/
def receiving (s : State) (p : Port) (buffer : List Byte) : State :=
  s.setPort p { engine := .receiving, buffer, timer := some (s.now + Config.interByte), response := none }

/-- R163: a byte arrives on a port's link. -/
def linkByte (s : State) (p : Port) (b : Byte) : State :=
  let e := s.ports.get p
  match e.engine with
  | .idle => if b = 0x5C then s.receiving p [] else s
  | .answering => s
  | .receiving =>
    let buffer := e.buffer ++ [b]
    if badLength buffer then s.idlePort p
    else if wholeFrame buffer then s.frameEnd p buffer
    else s.receiving p buffer

/-- R163: the inter-byte timer expires before the frame is whole. -/
def linkTimeout (s : State) (p : Port) : State :=
  match (s.ports.get p).timer with
  | some t => (s.reach t).discard p
  | none => s

/-- R163, R172: the check byte of a response has been sent; a soft reset that port B asked for is then taken. -/
def responseSent (s : State) (p : Port) : State :=
  if s.answering p then
    let s := s.idlePort p
    if p = .b && s.softResetDue then s.softReset else s
  else s

end State

/-! ### The meanings -/

/-- LINK_BYTE_RECEIVED (R163). -/
def execLinkByteReceived (p : Port) (b : Byte) (s : State) : Host.Outcome State Fault Refusal :=
  .next (s.live (fun s => s.linkByte p b))

/-- FRAME_DISCARDED (R163). -/
def execFrameDiscarded (p : Port) (s : State) : Host.Outcome State Fault Refusal :=
  .next (s.live (fun s => s.discard p))

/-- INTER_BYTE_TIMEOUT (R163). -/
def execInterByteTimeout (p : Port) (s : State) : Host.Outcome State Fault Refusal :=
  .next (s.live (fun s => s.linkTimeout p))

/-- RESPONSE_SENT (R163, R172). -/
def execResponseSent (p : Port) (s : State) : Host.Outcome State Fault Refusal :=
  .next (s.live (fun s => s.responseSent p))

/-- UNKNOWN_KIND_REQUEST (R167): the frame is judged by its kind byte, which the table does not list. -/
def execUnknownKindRequest (p : Port) (tag kind : Byte) (payload : List Byte) (s : State) :
    Host.Outcome State Fault Refusal :=
  .next (s.live (fun s => s.takeFrame p tag kind payload))

end Sys2Proof.Machine
end

