-- ==== Sys2Proof/Machine/Dispatch.lean ====
section
/-! DEFINITION. One arm for each command: its meaning. -/

namespace Sys2Proof.Machine
open Sys2Proof

def exec (i : Instr) (s : State) : Host.Outcome State Fault Refusal :=
  match i with
  | .rawLineChange r => Sys2Proof.Machine.execRawLineChange r s
  | .debounceExpiry l => Sys2Proof.Machine.execDebounceExpiry l s
  | .crashLineChange asserted => Sys2Proof.Machine.execCrashLineChange asserted s
  | .crashDetectorTimer => Sys2Proof.Machine.execCrashDetectorTimer s
  | .crashPulseEnd c => Sys2Proof.Machine.execCrashPulseEnd c s
  | .crashSettleEnd c => Sys2Proof.Machine.execCrashSettleEnd c s
  | .powerOn temp v => Sys2Proof.Machine.execPowerOn temp v s
  | .resetLineAssert => Sys2Proof.Machine.execResetLineAssert s
  | .resetLineRelease temp v => Sys2Proof.Machine.execResetLineRelease temp v s
  | .frameDiscarded p => Sys2Proof.Machine.execFrameDiscarded p s
  | .interByteTimeout p => Sys2Proof.Machine.execInterByteTimeout p s
  | .responseSent p => Sys2Proof.Machine.execResponseSent p s
  | .lock p tag payload => Sys2Proof.Machine.execLock p tag payload s
  | .centralToggle p tag payload => Sys2Proof.Machine.execCentralToggle p tag payload s
  | .childSet p tag payload => Sys2Proof.Machine.execChildSet p tag payload s
  | .credential p tag payload => Sys2Proof.Machine.execCredential p tag payload s
  | .passiveClaim p tag payload => Sys2Proof.Machine.execPassiveClaim p tag payload s
  | .windowSwitch p tag payload => Sys2Proof.Machine.execWindowSwitch p tag payload s
  | .rearLockout p tag payload => Sys2Proof.Machine.execRearLockout p tag payload s
  | .comfort p tag payload => Sys2Proof.Machine.execComfort p tag payload s
  | .vehicleMode p tag payload => Sys2Proof.Machine.execVehicleMode p tag payload s
  | .crashClear p tag payload => Sys2Proof.Machine.execCrashClear p tag payload s
  | .windowRestore p tag payload => Sys2Proof.Machine.execWindowRestore p tag payload s
  | .windowForget p tag payload => Sys2Proof.Machine.execWindowForget p tag payload s
  | .windowContextRead p tag payload => Sys2Proof.Machine.execWindowContextRead p tag payload s
  | .traceTrigger p tag payload => Sys2Proof.Machine.execTraceTrigger p tag payload s
  | .traceRead p tag payload => Sys2Proof.Machine.execTraceRead p tag payload s
  | .traceRewind p tag payload => Sys2Proof.Machine.execTraceRewind p tag payload s
  | .traceClear p tag payload => Sys2Proof.Machine.execTraceClear p tag payload s
  | .timeTagReset p tag payload => Sys2Proof.Machine.execTimeTagReset p tag payload s
  | .traceStatus p tag payload => Sys2Proof.Machine.execTraceStatus p tag payload s
  | .clearFault p tag payload => Sys2Proof.Machine.execClearFault p tag payload s
  | .clearStatus p tag payload => Sys2Proof.Machine.execClearStatus p tag payload s
  | .diagStatus p tag payload => Sys2Proof.Machine.execDiagStatus p tag payload s
  | .configWrite p tag payload => Sys2Proof.Machine.execConfigWrite p tag payload s
  | .configRead p tag payload => Sys2Proof.Machine.execConfigRead p tag payload s
  | .configFreeze p tag payload => Sys2Proof.Machine.execConfigFreeze p tag payload s
  | .fobWrite p tag payload => Sys2Proof.Machine.execFobWrite p tag payload s
  | .fobRead p tag payload => Sys2Proof.Machine.execFobRead p tag payload s
  | .softReset p tag payload => Sys2Proof.Machine.execSoftReset p tag payload s
  | .closureStatus p tag payload => Sys2Proof.Machine.execClosureStatus p tag payload s
  | .windowStatus p tag payload => Sys2Proof.Machine.execWindowStatus p tag payload s
  | .readNotices p tag payload => Sys2Proof.Machine.execReadNotices p tag payload s
  | .ackNotices p tag payload => Sys2Proof.Machine.execAckNotices p tag payload s
  | .commandStart => Sys2Proof.Machine.execCommandStart s
  | .slotGrant => Sys2Proof.Machine.execSlotGrant s
  | .pulseEnd a => Sys2Proof.Machine.execPulseEnd a s
  | .settleEnd a => Sys2Proof.Machine.execSettleEnd a s
  | .heatTick => Sys2Proof.Machine.execHeatTick s
  | .relockTimerExpiry => Sys2Proof.Machine.execRelockTimerExpiry s
  | .candidateExpiry slot => Sys2Proof.Machine.execCandidateExpiry slot s
  | .keepAliveExpiry => Sys2Proof.Machine.execKeepAliveExpiry s
  | .touchWindowExpiry t => Sys2Proof.Machine.execTouchWindowExpiry t s
  | .touchHoldExpiry t => Sys2Proof.Machine.execTouchHoldExpiry t s
  | .ripplePulse w => Sys2Proof.Machine.execRipplePulse w s
  | .windowSample w current v => Sys2Proof.Machine.execWindowSample w current v s
  | .startWindowEnd w => Sys2Proof.Machine.execStartWindowEnd w s
  | .stallTimerExpiry w => Sys2Proof.Machine.execStallTimerExpiry w s
  | .dwellEnd w => Sys2Proof.Machine.execDwellEnd w s
  | .brakeEnd w => Sys2Proof.Machine.execBrakeEnd w s
  | .panelRefreshExpiry w => Sys2Proof.Machine.execPanelRefreshExpiry w s
  | .retainedPowerExpiry => Sys2Proof.Machine.execRetainedPowerExpiry s
  | .actuatorCurrentMeasurement a code => Sys2Proof.Machine.execActuatorCurrentMeasurement a code s
  | .openLoadJudgement ch => Sys2Proof.Machine.execOpenLoadJudgement ch s
  | .offStateTick findings => Sys2Proof.Machine.execOffStateTick findings s
  | .temperatureMeasurement t => Sys2Proof.Machine.execTemperatureMeasurement t s
  | .supplyMeasurement v => Sys2Proof.Machine.execSupplyMeasurement v s
  | .linkByteReceived p b => Sys2Proof.Machine.execLinkByteReceived p b s
  | .unknownKindRequest p tag kind payload => Sys2Proof.Machine.execUnknownKindRequest p tag kind payload s

end Sys2Proof.Machine
end

