-- ==== Sys2Proof/Machine/Timers.lean ====
section
/-! DEFINITION. The events that the part's own work makes due: the start of the head, a slot grant, and each timer with
the command that takes its expiry. -/

namespace Sys2Proof.Machine
open Sys2Proof

namespace State

/-- A deadline with the command that takes it. -/
abbrev Deadline := Option Nat × Instr

/-- The pulse or SETTLE timer of the operation on a channel. -/
def opDeadline (s : State) (a : Actuator) : List Deadline :=
  match s.opAt a with
  | some o =>
    match o.crash, a, o.phase with
    | true, .l c, .drive => [(o.timer, .crashPulseEnd c)]
    | true, .l c, .settle => [(o.timer, .crashSettleEnd c)]
    | false, _, .drive => [(o.timer, .pulseEnd a)]
    | false, _, .settle => [(o.timer, .settleEnd a)]
    | _, _, _ => []
  | none => []

/-- The timers of a touch window entry. -/
def touchDeadline (s : State) (t : TouchSource) : List Deadline :=
  match s.touch.get t with
  | .idle => []
  | .waiting time => [(some (time + Config.touchWindow), .touchWindowExpiry t)]
  | .expired time => [(some (time + Config.touchHold), .touchHoldExpiry t)]

/-- The timers of a window. -/
def windowDeadlines (s : State) (w : Window) : List Deadline :=
  let r := s.winRec w
  [(r.startWindow, .startWindowEnd w), (r.stall, .stallTimerExpiry w), (r.dwell, .dwellEnd w), (r.brake, .brakeEnd w),
    (r.panelTimer, .panelRefreshExpiry w)]

/-- The 20 ms point of a drive that has not been taken (R152). -/
def openLoadDeadline (s : State) (ch : Channel) : Deadline :=
  let r := s.chan ch
  (if r.drive.on && !r.judged then r.driveStart.map (· + Config.openLoadPoint) else none, .openLoadJudgement ch)

/-- The stability timers of the lines (R5). -/
def lineDeadlines (s : State) : List Deadline :=
  let x := s.sensing
  Closure.list.map (fun c => ((x.latch.get c).timer, .debounceExpiry (.latch c)))
    ++ Closure.list.map (fun c => ((x.feedback.get c).timer, .debounceExpiry (.feedback c)))
    ++ Rear.list.map (fun r => ((x.child.get r).timer, .debounceExpiry (.child r)))
    ++ Side.list.map (fun c => ((x.handle.get c).timer, .debounceExpiry (.handle c)))
    ++ [(x.keyLock.timer, .debounceExpiry .keyLock), (x.keyUnlock.timer, .debounceExpiry .keyUnlock)]
    ++ TouchSource.list.map (fun t => ((x.touch.get t).timer, .debounceExpiry (.touch t)))
    ++ OtherSide.list.map (fun w => ((x.switch.get w).timer, .debounceExpiry (.localSwitch w)))

/-- Every timer, in the one order in which the model takes timers that have run out together (log entry 5). -/
def deadlines (s : State) : List Deadline :=
  [(s.crash.timer, .crashDetectorTimer)]
    ++ Actuator.list.flatMap s.opDeadline
    ++ Channel.list.map s.openLoadDeadline
    ++ s.lineDeadlines
    ++ [(s.seq.relock, .relockTimerExpiry)]
    ++ eight.map (fun i => ((s.slotAt i).candidate.map Candidate.expiry, .candidateExpiry i))
    ++ [(s.fobs.session.map Session.keepAlive, .keepAliveExpiry)]
    ++ TouchSource.list.flatMap s.touchDeadline
    ++ Window.list.flatMap s.windowDeadlines
    ++ [(s.win.retained, .retainedPowerExpiry)]
    ++ Port.list.map (fun p => ((s.ports.get p).timer, .interByteTimeout p))
    ++ [(some s.seq.heatTickAt, .heatTick)]

/-- A deadline that has come. -/
def hasCome (s : State) (d : Deadline) : Bool :=
  match d.1 with
  | some t => decide (t ≤ s.now)
  | none => false

/-- The event that the part takes by itself now, when one is due: the start of the head (R24), a slot grant (R27), or a
timer that has run out. Nothing is due while the reset line is asserted (R172). -/
def due (s : State) : Option Instr :=
  if s.resetLine then none
  else if s.canStart then some .commandStart
  else if s.nextGrant.isSome then some .slotGrant
  else (s.deadlines.find? s.hasCome).map Prod.snd

/-- One tick of 0.1 ms of the timebase; it stands while the reset line is asserted. -/
def tick (s : State) : State := if s.resetLine then s else { s with now := s.now + 1 }

/-- A command is put at the front of the queue of waiting commands. -/
def push (s : State) (c : Instr) : State := { s with pending := c :: s.pending }

/-- The queue of waiting commands without its front. -/
def withPending (s : State) (l : List Instr) : State := { s with pending := l }

end State

end Sys2Proof.Machine
end

