-- ==== Sys2Proof/Safety.lean ====
section
/-! DEFINITION. The laws that the specification states of the part at all times, as predicates on the state, and the
runs of bytes on a link. -/

namespace Sys2Proof.Machine
open Sys2Proof

/-! ### Lock sequencer and crash response -/

/-- R23: at most 4 entries, none RUNNING but the head, and no two adjacent PENDING entries of the same kind and target. -/
def QueueLaw (q : List Entry) : Prop :=
  q.length ≤ 4 ∧ (∀ e ∈ q.tail, e.running = false) ∧
    ∀ (i : Nat) (e f : Entry), q[i]? = some e → q[i + 1]? = some f → e.running = false → f.running = false → e.kind ≠ f.kind

/-- R2, R46, R51: while the crash latch is set, every lock_goal is UNLOCKED and the queue holds CHILD_SET entries only. -/
def CrashLaw (s : State) : Prop :=
  s.crash.latch = true →
    (∀ c, (s.closure c).lockGoal = .unlocked) ∧ ∀ e ∈ s.seq.queue, e.kind.lockClass = false

/-- The queue law and the crash law together. -/
def LockLaw (s : State) : Prop := QueueLaw s.seq.queue ∧ CrashLaw s

/-- R26, R27, R48: what an operation on a channel is: an ordinary one in DRIVE holds a slot, one in SETTLE holds none, a
crash operation holds none, is never in WAIT_SLOT and stands on an L channel, and the channel's drive is ON exactly in
DRIVE. -/
def OpLaw (s : State) (a : Actuator) : Prop :=
  match s.opAt a with
  | none => (s.chan (.act a)).drive.on = false
  | some o =>
    ((s.chan (.act a)).drive.on = true ↔ o.phase = .drive) ∧
    (o.crash = true → o.slot = false ∧ o.phase ≠ .waitSlot ∧ ∃ c, a = .l c) ∧
    (o.crash = false → (o.phase = .drive → o.slot = true) ∧ (o.phase = .settle → o.slot = false))

/-- R24, R40, R41: the channels on which a command of a kind creates operations. -/
def CmdKind.drives (k : CmdKind) : Actuator → Bool
  | .l c => (k.goal c).isSome
  | .c r => match k with
    | .childSet x _ => x = r
    | _ => false
  | .t1 => k = .releaseTailgate

/-- R24, R25: every ordinary operation is one of the RUNNING head's. -/
def OwnerLaw (s : State) : Prop :=
  ∀ a o, s.opAt a = some o → o.crash = false →
    ∃ e rest, s.seq.queue = e :: rest ∧ e.running = true ∧ e.kind.drives a = true

/-- R27: no more than 3 slots are held, each operation stands as R26 to R29 and R48 say, and the ordinary ones are the
RUNNING command's. -/
def SlotLaw (s : State) : Prop := s.heldSlots ≤ 3 ∧ (∀ a, OpLaw s a) ∧ OwnerLaw s

/-- The actuator channels whose output is ON. -/
def State.drivingActuators (s : State) : Nat := (Actuator.list.filter (fun a => (s.chan (.act a)).drive.on)).length

/-! ### Windows -/

/-- R94: no AUTO or COMFORT up-run unless the window is normalised and not limited. -/
def RunLaw (r : WindowRec) : Prop :=
  match r.motion with
  | .run k => k.dir = .up → k.kind ≠ .manual → r.normalised = true ∧ r.limited = false
  | .idle | .dwell _ | .reverse _ | .inhibited => True

/-- R84, R87, R98, R102: the position is a number from −64 to 4,095 exactly on a normalised window, top_correction is
present on a normalised window only and lies from −64 to 8, pinch_count from 0 to 3, and the window is limited exactly at 3. -/
def PositionLaw (r : WindowRec) : Prop :=
  (match r.position with
    | some p => r.normalised = true ∧ -64 ≤ p ∧ p ≤ 4095
    | none => r.normalised = false) ∧
  (match r.topCorrection with
    | some p => r.normalised = true ∧ -64 ≤ p ∧ p ≤ 8
    | none => True) ∧
  r.pinchCount ≤ 3 ∧ (r.limited = true ↔ r.pinchCount = 3)

/-- R85, R104: a window is INHIBITED exactly while it has a cause, and each cause is in force exactly while its condition
lasts: the crash latch, temperature HOT, supply CUT, the withdrawal of its W channel. -/
def InhibitLaw (s : State) (w : Window) : Prop :=
  let r := s.winRec w
  (r.motion = .inhibited ↔ State.noCause r.causes = false) ∧
  r.causes.crash = s.crash.latch ∧ (r.causes.thermal = true ↔ s.mon.temp = .hot) ∧
  (r.causes.supply = true ↔ s.mon.supply = .cut) ∧ r.causes.fault = (s.chan (.w w)).withdrawn

/-- R85, R99: what the bridge of a window does in each state: off in INHIBITED, driven in the direction of a RUN, braked
in DWELL, driven down in REVERSE; off or braked in IDLE, where alone the brake timer runs. -/
def BridgeLaw (s : State) (w : Window) : Prop :=
  let d := (s.chan (.w w)).drive
  ((s.winRec w).brake.isSome = true → (s.winRec w).motion = .idle) ∧
  match (s.winRec w).motion with
  | .idle => d = .off ∨ d = .brake
  | .run k => d = k.dir.drive
  | .dwell _ => d = .brake
  | .reverse _ => d = .onSecond
  | .inhibited => d = .off

/-- The laws of the window records. -/
def WindowLaw (s : State) : Prop :=
  ∀ w, RunLaw (s.winRec w) ∧ PositionLaw (s.winRec w) ∧ InhibitLaw s w ∧ BridgeLaw s w

/-! ### Trace store -/

/-- R137, R139, R144: rings hold at most 16 samples; the capture queue lists exactly the FILLING and COMPLETE buffers, each
once; a FILLING record belongs to a running window, has fewer than 8 post-trigger samples, and no window has two; the
record under read is COMPLETE. -/
def TraceLaw (s : State) : Prop :=
  (∀ w, (s.trace.rings.get w).length ≤ 16) ∧ s.trace.captures.Nodup ∧
  (∀ i, i ∈ s.trace.captures ↔ s.isFree i = false) ∧
  (∀ i r, s.bufferAt i = .filling r →
    (s.winRec r.window).motion.running = true ∧ r.pre.length ≤ 16 ∧ r.post.length < 8) ∧
  (∀ i j r r', s.bufferAt i = .filling r → s.bufferAt j = .filling r' → r.window = r'.window → i = j) ∧
  (∀ i r x, s.bufferAt i = .complete r x → r.pre.length ≤ 16 ∧ r.post.length ≤ 8) ∧
  (∀ c, s.trace.cursor = some c → s.isComplete c.buffer = true)

/-! ### Ranges of the pinch computation and of learning -/

/-- R170: the calibration of a window lies in its ranges. -/
def CalLaw (c : Cal) : Prop :=
  200 ≤ c.l ∧ c.l ≤ 4000 ∧ 16 ≤ c.pz ∧ c.pz ≤ c.l ∧ c.zs ≤ 7 ∧ 1 ≤ c.s ∧ c.s ≤ 4 ∧ 1 ≤ c.t ∧ c.t ≤ 65535 ∧ c.d ≤ 255 ∧
    c.c ≤ 2047 ∧ 50 ≤ c.reversal ∧ c.reversal ≤ 1000

/-- R125: a learned reference lies in its ranges. -/
def ZoneLaw (z : ZoneRef) : Prop := z.effort ≤ 2047 ∧ 1 ≤ z.interval ∧ z.interval ≤ 255

/-- R109, R115, R117, R125, R126, R170: the calibration groups and run copies, the gains, the filter, the accumulator, the
last interval, the zone references and the stroke samples lie in their ranges. -/
def RangeLaw (s : State) : Prop :=
  (∀ w, CalLaw (s.calOf w)) ∧ (∀ b : Fin 16, s.config.gain[b] ≤ 32767) ∧
  ∀ w,
    (∀ c, (s.pinchOf w).cal = some c → CalLaw c) ∧
    (∀ f, (s.pinchOf w).filter = some f → f ≤ 32736) ∧ (s.pinchOf w).acc ≤ 65535 ∧ (s.pinchOf w).lastInterval ≤ 255 ∧
    (∀ (z : Fin 32) x, (s.refsOf w).zones[z] = some x → ZoneLaw x) ∧ (s.refsOf w).learned ≤ 255 ∧
    (∀ k, (s.refsOf w).stroke = some k → ∀ (z : Fin 32) x, k.samples[z] = some x → ZoneLaw x ∧ x.effort ≤ 2046)

/-! ### Configuration -/

/-- R170: the table of items: the item and the index exist in the group, and the value lies in the item's range. -/
def itemValid (g : Configuration) (group : Group) (item index v : Nat) : Prop :=
  match group with
  | .policy => index = 0 ∧ (item < 4 ∧ v ≤ 1 ∨ item = 4 ∧ (v = 0 ∨ 15 ≤ v ∧ v ≤ 120))
  | .windowCal =>
    ∃ w, Window.list[index]? = some w ∧
      (item = 0 ∧ 200 ≤ v ∧ v ≤ 4000 ∧ (g.cal.get w).pz ≤ v ∨ item = 1 ∧ 16 ≤ v ∧ v ≤ (g.cal.get w).l ∨
        item = 2 ∧ v ≤ 7 ∨ item = 3 ∧ 1 ≤ v ∧ v ≤ 4 ∨ item = 4 ∧ 1 ≤ v ∧ v ≤ 65535 ∨ item = 5 ∧ v ≤ 255 ∨
        item = 6 ∧ v ≤ 1 ∨ item = 7 ∧ v ≤ 2047 ∨ item = 8 ∧ 50 ≤ v ∧ v ≤ 1000)
  | .supplyGain => item = 0 ∧ index < 16 ∧ v ≤ 32767
  | .diagMask => (item = 0 ∧ index < 12 ∨ item = 1 ∧ index = 0) ∧ v ≤ 15
  | .fobTable => False

/-- R170: the item and the index exist in the group. -/
def itemExists (group : Group) (item index : Nat) : Prop :=
  match group with
  | .policy => item < 5 ∧ index = 0
  | .windowCal => item < 9 ∧ index < 4
  | .supplyGain => item = 0 ∧ index < 16
  | .diagMask => item = 0 ∧ index < 12 ∨ item = 1 ∧ index = 0
  | .fobTable => False

/-- R170, R171: no group is frozen, every item has its default, and every slot of the fob table is EMPTY. -/
def ConfigDefaults (t : State) : Prop :=
  (∀ g, t.config.frozen.has g = false) ∧
  (∀ row ∈ [(0, 1), (1, 1), (2, 1), (3, 0), (4, 45)], t.config.item .policy row.1 0 = some row.2) ∧
  (∀ w < 4, ∀ row ∈ [(0, 1600), (1, 900), (2, 6), (3, 2), (4, 400), (5, 12), (6, 0), (7, 600), (8, 320)],
    t.config.item .windowCal row.1 w = some row.2) ∧
  (∀ b < 16, t.config.item .supplyGain 0 b = some 16384) ∧ (∀ ch < 12, t.config.item .diagMask 0 ch = some 15) ∧
  t.config.item .diagMask 1 0 = some 15 ∧ ∀ i, (t.slotAt i).status = .empty

/-! ### Frames -/

/-- The parts of the state, one for each field. -/
inductive Part
  | pending | now | freeCount | resetLine | closures | childs | sensing | seq | crash | fobs | touch | win | pinch | refs
  | trace | mon | config | ports | staging | softResetDue | notices
deriving DecidableEq, Repr

/-- A part is the same in two states. -/
def Part.Same (s t : State) : Part → Prop
  | .pending => t.pending = s.pending
  | .now => t.now = s.now
  | .freeCount => t.freeCount = s.freeCount
  | .resetLine => t.resetLine = s.resetLine
  | .closures => t.closures = s.closures
  | .childs => t.childs = s.childs
  | .sensing => t.sensing = s.sensing
  | .seq => t.seq = s.seq
  | .crash => t.crash = s.crash
  | .fobs => t.fobs = s.fobs
  | .touch => t.touch = s.touch
  | .win => t.win = s.win
  | .pinch => t.pinch = s.pinch
  | .refs => t.refs = s.refs
  | .trace => t.trace = s.trace
  | .mon => t.mon = s.mon
  | .config => t.config = s.config
  | .ports => t.ports = s.ports
  | .staging => t.staging = s.staging
  | .softResetDue => t.softResetDue = s.softResetDue
  | .notices => t.notices = s.notices

/-- Every part but those listed is the same after as before. -/
structure Only (parts : List Part) (s t : State) : Prop where
  same : ∀ x, x ∉ parts → Part.Same s t x

/-! ### Requests and bytes -/

/-- The command of a request kind. -/
def Kind.command (k : Kind) (p : Port) (tag : Byte) (q : List Byte) : Instr :=
  match k with
  | .lock => .lock p tag q
  | .centralToggle => .centralToggle p tag q
  | .childSet => .childSet p tag q
  | .credential => .credential p tag q
  | .passiveClaim => .passiveClaim p tag q
  | .windowSwitch => .windowSwitch p tag q
  | .rearLockout => .rearLockout p tag q
  | .comfort => .comfort p tag q
  | .vehicleMode => .vehicleMode p tag q
  | .crashClear => .crashClear p tag q
  | .windowRestore => .windowRestore p tag q
  | .windowForget => .windowForget p tag q
  | .windowContextRead => .windowContextRead p tag q
  | .traceTrigger => .traceTrigger p tag q
  | .traceRead => .traceRead p tag q
  | .traceRewind => .traceRewind p tag q
  | .traceClear => .traceClear p tag q
  | .timeTagReset => .timeTagReset p tag q
  | .traceStatus => .traceStatus p tag q
  | .clearFault => .clearFault p tag q
  | .clearStatus => .clearStatus p tag q
  | .diagStatus => .diagStatus p tag q
  | .configWrite => .configWrite p tag q
  | .configRead => .configRead p tag q
  | .configFreeze => .configFreeze p tag q
  | .fobWrite => .fobWrite p tag q
  | .fobRead => .fobRead p tag q
  | .softReset => .softReset p tag q
  | .closureStatus => .closureStatus p tag q
  | .windowStatus => .windowStatus p tag q
  | .readNotices => .readNotices p tag q
  | .ackNotices => .ackNotices p tag q

/-- R167: the kind byte of a kind. -/
def Kind.code (k : Kind) : Byte := BitVec.ofNat 8 (Kind.list.idxOf k + 1)

/-- Bytes that arrive on a port's link one after another. -/
def feed (p : Port) : List Byte → State → Host.Outcome State Fault Refusal
  | [], s => .next s
  | b :: rest, s =>
    match exec (.linkByteReceived p b) s with
    | .next t => feed p rest t
    | .fault f => .fault f
    | .refused r => .refused r

/-- A request can be taken on a port: the reset line is not asserted and the port is not answering (R163, R172). -/
def State.canTake (s : State) (p : Port) : Prop := s.resetLine = false ∧ (s.ports.get p).engine ≠ .answering

/-- The engine of a port that answers a request (R163, R164). -/
def answered (tag : Byte) (c : Code) (payload : List Byte) : PortEngine :=
  { engine := .answering, buffer := [], timer := none, response := some ⟨tag, c, payload⟩ }

/-- The payload of the response that a port is sending. -/
def State.payloadAt (s : State) (p : Port) : List Byte := ((s.ports.get p).response.map Response.payload).getD []

/-- A byte of a payload as a number. -/
def byteOf (q : List Byte) (i : Nat) : Nat := (q.getD i 0).toNat

/-- R165: the number whose bits are the members of a set, bit 0 first. -/
def setNumber (l : List Bool) : Nat := (l.zipIdx.map (fun b => if b.1 then 2 ^ b.2 else 0)).sum

/-- R165: the piece of a segmented read, behind its index and total. -/
def State.pieceAt (s : State) (p : Port) : List Byte := (s.payloadAt p).drop 2

/-- R165: an optional field. -/
def optional (f : α → List Byte) : Option α → List Byte
  | none => [0]
  | some x => 1 :: f x

/-- R165: a position, UNKNOWN as 8000h. -/
def positionShown : Option Int → List Byte
  | none => [0x80, 0x00]
  | some p => i16 p

/-- R165: yes or no, set or clear. -/
def yesNo (b : Bool) : Byte := if b then 1 else 0

/-- R84: the number of a window's state. -/
def motionNumber : Motion → Nat
  | .idle => 0
  | .run _ => 1
  | .dwell _ => 2
  | .reverse _ => 3
  | .inhibited => 4

/-- R165: run or pending run. -/
def runShown : Motion → List Byte
  | .run k | .dwell (.run k) =>
    [1, if k.dir = .up then 0 else 1, (match k.kind with | .manual => 0 | .auto => 1 | .comfort => 2)] ++ i16 k.target
  | .dwell (.reverse x) => [1, 1, 3] ++ i16 x
  | .idle | .reverse _ | .inhibited => [0]

/-- R84, R165: the holder, with its slot. -/
def holderShown : Motion → List Byte
  | .run k | .dwell (.run k) =>
    1 :: (match k.holder with | .panel => [0, 0] | .localSw => [1, 0] | .comfortB => [2, 0] | .comfortK i => 3 :: u8 i.val)
  | .dwell (.reverse _) | .reverse _ => [1, 4, 0]
  | .idle | .inhibited => [0]

/-- R105, R165: one window in WINDOW_STATUS. -/
def windowShown (s : State) (w : Window) : List Byte :=
  let r := s.winRec w
  u8 (motionNumber r.motion) ++ runShown r.motion ++ holderShown r.motion
    ++ u8 (setNumber [r.causes.crash, r.causes.thermal, r.causes.supply, r.causes.fault]) ++ positionShown r.position
    ++ [yesNo r.normalised, yesNo r.limited] ++ u8 r.pinchCount ++ optional i16 r.topCorrection
    ++ [yesNo r.awaitPanel, yesNo r.awaitLocal]
    ++ u8 ([SwitchPos.neutral, .up, .upAuto, .down, .downAuto].idxOf r.panelPosition)

/-- R105, R165: the content of WINDOW_STATUS. -/
def windowStatusShown (s : State) : List Byte :=
  [Window.wfd, .wfp, .wrd, .wrp].flatMap (windowShown s) ++ [yesNo s.win.rearLockout]
    ++ u8 ([VehicleMode.parked, .accessory, .run].idxOf s.win.mode)
    ++ [yesNo (decide (s.win.mode ≠ .parked) || s.win.retained.isSome)]
    ++ u32 ((s.win.retained.elim 0 (fun d => d - s.now)) / 10)

/-- R132, R133, R165: the zone references, each an optional field of R and Iref. -/
def zonesShown (zones : Vector (Option ZoneRef) 32) : List Byte :=
  (List.finRange 32).flatMap (fun z => optional (fun x => u16 x.effort ++ u8 x.interval) zones[z])

/-- R132, R165: the content of WINDOW_CONTEXT_READ. -/
def contextShown (s : State) (w : Window) : List Byte :=
  let r := s.winRec w
  u8 ([Window.wfd, .wfp, .wrd, .wrp].idxOf w) ++ u8 (motionNumber r.motion) ++ positionShown r.position
    ++ [yesNo r.normalised, yesNo r.limited] ++ u8 r.pinchCount ++ optional i16 r.topCorrection
    ++ u8 (s.refsOf w).learned ++ zonesShown (s.refsOf w).zones
    ++ u8 (match (s.refsOf w).pendingForget with | some zs => zs | none => (s.calOf w).zs)

/-- R140, R165: the header of a record that completed with cause `x`. -/
def headerShown (r : TraceRec) (x : Completion) : List Byte :=
  u16 r.sequence ++ u8 ([TriggerKind.pinchEffort, .pinchStall, .stall, .overcurrent, .requested].idxOf r.kind)
    ++ u8 ([Window.wfd, .wfp, .wrd, .wrp].idxOf r.window) ++ u32 r.timeTag ++ positionShown r.position ++ u16 r.teff
    ++ u8 r.pre.length ++ u8 r.post.length ++ u8 ([Completion.eight, .stopped, .overlap, .reset].idxOf x)

/-- R123, R144, R165: a sample with its index in the record, the index first (log entry 10). -/
def sampleShown (index : Nat) (x : Sample) : List Byte :=
  u8 index ++ u16 x.ic ++ u16 x.effort ++ u16 x.acc ++ positionShown x.position ++ [yesNo x.speed]
    ++ u8 ([SamplePhase.start, .run, .reverse].idxOf x.phase)

/-- R165: a list in a notice detail: its count, then its entries. -/
def listShown (f : α → List Byte) (l : List α) : List Byte := u8 l.length ++ l.flatMap f

/-- R20: the number of a command kind. -/
def kindNumber : CmdKind → Byte
  | .lockAll => 0
  | .superlockAll => 1
  | .unlockAll => 2
  | .unlockDriver => 3
  | .unlockOne _ => 4
  | .unlockTailgate => 5
  | .releaseTailgate => 6
  | .childSet _ _ => 7

/-- R75: the touches that wait: each source with its time, the least time left first. -/
def touchesWaiting (s : State) (l : List (TouchSource × Nat)) : Prop :=
  l.Nodup ∧ (∀ x ∈ TouchSource.list, ∀ d, (x, d) ∈ l ↔ s.touch.get x = .waiting d) ∧
    l.Pairwise (fun a b => a.2 + 4000 - s.now ≤ b.2 + 4000 - s.now)

/-- R168, R169, with the rules that the table of R168 names: the detail of the notice at a place of the table, empty while the
notice is absent (bytes that R165 leaves open: log entry 10). -/
def detailShown (s : State) (n : NoticeSet) (i : Nat) (q : List Byte) : Prop :=
  match i with
  | 0 => q = n.restarted.elim [] (fun c => u8 ([ResetCause.powerOn, .resetLine, .soft].idxOf c))
  | 1 => q = n.crash.elim [] u8
  | 2 => q = n.lockChanged.elim [] (fun d => u8 (setNumber ([Closure.fd, .fp, .rd, .rp, .tg].map d.get)))
  | 3 => q = n.childChanged.elim [] (fun d => u8 (setNumber ([Rear.rd, .rp].map d.get)))
  | 4 => q = n.windowEvent.elim [] (fun d => [Window.wfd, .wfp, .wrd, .wrp].flatMap (fun w =>
      u8 (setNumber [(d.get w).pinch.isSome, (d.get w).stall, (d.get w).normalised, (d.get w).unnormalised]) ++
        optional (fun c => u8 ([PinchCause.effort, .stall].idxOf c)) (d.get w).pinch))
  | 5 => q = n.actuationFailed.elim [] (fun d => [Closure.fd, .fp, .rd, .rp, .tg].flatMap (fun c =>
      optional (fun y => u8 ([FailReason.noMove, .overcurrent, .withdrawn, .hotWithheld, .thermal, .releaseRefused].idxOf y))
        (d.get c)))
  | 6 => q = n.superlockRefused.elim [] (fun y => u8 ([SuperlockReason.latch, .notParked, .withdrawn].idxOf y))
  | 7 => q = n.commandCancelled.elim [] (fun d => listShown (fun e => [e.1, kindNumber e.2]) d.latest ++ u8 d.count)
  | 8 => if n.handleTouch = true then ∃ l, touchesWaiting s l ∧
      q = listShown (fun e => u8 ([TouchSource.fdOpen, .fdLock, .fpOpen, .fpLock, .tgButton].idxOf e.1) ++
        u32 ((e.2 + 4000 - s.now) / 10)) l else q = []
  | 9 => q = n.fobCounter.elim [] (fun d => u8 (setNumber ((List.finRange 8).map (fun k => d[k]))))
  | 10 => q = n.contextChanged.elim [] (fun d => u8 (setNumber ([Window.wfd, .wfp, .wrd, .wrp].map d.get)))
  | 11 => q = if n.traceReady = true then
      u8 (((List.finRange 8).filter s.isComplete).length) ++
        optional (fun k => u16 ((s.recordAt k).elim 0 (·.sequence))) (s.trace.captures.find? s.isComplete) else []
  | 12 => q = n.traceLost.elim [] (fun l => u8 l.count ++ u16 l.sequence ++ u8 ([LostReason.overlap, .full].idxOf l.reason))
  | 13 => q = n.fault.elim [] (fun d => listShown (fun ch => u8 (Channel.list.idxOf ch) ++
      u8 (setNumber [(d.kinds.get ch).openLoad, (d.kinds.get ch).shortSupply, (d.kinds.get ch).shortGround,
        (d.kinds.get ch).overcurrent]) ++ [yesNo (s.chan ch).withdrawn]) d.order)
  | 14 => q = if n.thermal = true then u8 ([TempState.normal, .warm, .hot].idxOf s.mon.temp) ++ i16 s.mon.lastTemp else []
  | 15 => q = if n.supply = true then u8 ([SupplyState.normal, .low, .cut].idxOf s.mon.supply) ++ u16 s.mon.lastV else []
  | _ => True

/-- Two notice sets agree on the notice at a place of the table of R168, and on its accumulated detail. -/
def NoticeSet.SameAt (n m : NoticeSet) (i : Nat) : Prop :=
  match i with
  | 0 => m.restarted = n.restarted
  | 1 => m.crash = n.crash
  | 2 => m.lockChanged = n.lockChanged
  | 3 => m.childChanged = n.childChanged
  | 4 => m.windowEvent = n.windowEvent
  | 5 => m.actuationFailed = n.actuationFailed
  | 6 => m.superlockRefused = n.superlockRefused
  | 7 => m.commandCancelled = n.commandCancelled
  | 8 => m.handleTouch = n.handleTouch
  | 9 => m.fobCounter = n.fobCounter
  | 10 => m.contextChanged = n.contextChanged
  | 11 => m.traceReady = n.traceReady
  | 12 => m.traceLost = n.traceLost
  | 13 => m.fault = n.fault
  | 14 => m.thermal = n.thermal
  | 15 => m.supply = n.supply
  | _ => True

/-! ### Counters of the fob table -/

/-- R58: how far a counter lies ahead of another, modulo 16,777,216. -/
def ahead (c counter : Nat) : Int := ((c : Int) - counter) % 16777216

/-- R62: a slot that has accepted counter `c`. -/
def FobSlot.advanced (f : FobSlot) (c : Nat) (last : Option Accepted) : FobSlot :=
  { f with counter := c, candidate := none, streak := 0, lastAccepted := last }

/-- R55: the slot that a FOB_WRITE leaves, with the rights that a number spells. -/
def FobSlot.written (st : SlotStatus) (counter rights : Nat) : FobSlot :=
  { status := st, counter, rights := ⟨rights.testBit 0, rights.testBit 1, rights.testBit 2, rights.testBit 3⟩
    candidate := none, streak := 0, lastAccepted := none }

/-- R55, R172: the commands that write the fob table: the full resets, and a FOB_WRITE of port B, as its own row, as the byte
that completes a frame of kind 1Ah, or as a frame by its kind byte. -/
def writesFobs (s : State) (x : Instr) : Bool :=
  match x with
  | .powerOn _ _ | .resetLineAssert | .resetLineRelease _ _ => true
  | .fobWrite p _ _ => p = .b
  | .linkByteReceived p _ =>
    p = .b && decide (s.ports.b.buffer.length = byteOf s.ports.b.buffer 0 + 1) && decide (byteOf s.ports.b.buffer 2 = 0x1A)
  | .unknownKindRequest p _ kind _ => p = .b && kind = 0x1A
  | _ => false

/-- The fob table with one slot replaced. -/
def Fobs.with (x : Fobs) (i : Fin 8) (f : FobSlot) : Fobs := { x with slots := x.slots.set i.val f i.isLt }

/-- R69: the notice sets after FOB_COUNTER has named a slot. -/
def counterNamed (n : Ports NoticeSet) (i : Fin 8) : Ports NoticeSet :=
  { n with b := { n.b with
      fobCounter := some ((n.b.fobCounter.getD (Vector.replicate 8 false)).set i.val true i.isLt) } }

/-- R58, row 4: the counter confirms the slot's candidate. -/
def FobSlot.confirmedBy (f : FobSlot) (c : Nat) : Prop :=
  ∃ k, f.candidate = some k ∧ (c = (k.value + 1) % 16777216 ∨ c = (k.value + 2) % 16777216)

/-- R58, row 1: the frame repeats the last accepted one within 1 s, the tick at which the window ends among it (log
entry 28). -/
def FobSlot.repeatedBy (f : FobSlot) (now : Nat) (a : FobAction) : Prop :=
  ∃ l, f.lastAccepted = some l ∧ now ≤ l.time + 10000 ∧ l.action = a

/-- R58, rows 3 and 4: the counter is accepted. -/
def FobSlot.accepts (f : FobSlot) (c : Nat) : Prop :=
  1 ≤ ahead c f.counter ∧ (ahead c f.counter ≤ 256 ∨ ahead c f.counter ≤ 32768 ∧ f.confirmedBy c)

/-- R63: the slot holds the right that an action needs. -/
def FobAction.admitted (a : FobAction) (r : Rights) : Prop :=
  match a with
  | .lock | .unlock => r.doors = true
  | .tailgate => r.tailgate = true
  | .comfortClose | .comfortOpen | .comfortStop => r.comfort = true

/-- R57: the payload of a CREDENTIAL. -/
def credentialBytes (i : Fin 8) (c : Nat) (a : FobAction) : List Byte :=
  u8 i.val ++ u24 c ++ u8 ([FobAction.lock, .unlock, .tailgate, .comfortClose, .comfortOpen, .comfortStop].idxOf a)

/-- R76: the payload of a PASSIVE_CLAIM. -/
def claimBytes (x : TouchSource) (i : Fin 8) (c : Nat) (z : KeyZone) (clear : Bool) : List Byte :=
  u8 ([TouchSource.fdOpen, .fdLock, .fpOpen, .fpLock, .tgButton].idxOf x) ++ u8 i.val ++ u24 c ++
    u8 ([KeyZone.none, .outsideNear, .inside].idxOf z) ++ u8 (if clear then 1 else 0)

/-- R76: the payload of the answer to a claim, with the slot's counter. -/
def claimAnswer (x : TouchSource) (i : Fin 8) (counter : Nat) : List Byte :=
  u8 ([TouchSource.fdOpen, .fdLock, .fpOpen, .fpLock, .tgButton].idxOf x) ++ u8 i.val ++ u24 counter

/-- R71, R82: the stability timer of a source's line runs on a touch or press, and, for the tailgate button, TG does not
stand UNLOCKED. -/
def touchEvent (s : State) (x : TouchSource) : Prop :=
  (s.sensing.touch.get x).timer.isSome = true ∧ (s.sensing.touch.get x).level = some false ∧
  (s.sensing.touch.get x).raw = true ∧
  (x ≠ .tgButton ∨ s.closures.tg.lockGoal ≠ .unlocked ∨ s.closures.tg.lockSensed ≠ .unlocked)

/-! ### Notices and queue entries -/

/-- R4: LOCK_CHANGED stands on the three ports and names the closure. -/
def lockNamed (n : Ports NoticeSet) (c : Closure) : Prop :=
  ∀ p, ∃ d, (n.get p).lockChanged = some d ∧ d.get c = true

/-- R4: CHILD_CHANGED stands on ports B and D and names the side. -/
def childNamed (n : Ports NoticeSet) (r : Rear) : Prop :=
  ∀ p, p ≠ .k → ∃ d, (n.get p).childChanged = some d ∧ d.get r = true

/-- R21: the PENDING entry of a command that no port issued. -/
def innerEntry (k : CmdKind) (src : CmdSource) : Entry :=
  { kind := k, source := src, port := none, tag := none, paired := false, running := false }

/-- R21: the PENDING entry of a command that a request of a port carries. -/
def portEntry (k : CmdKind) (src : CmdSource) (p : Port) (tag : Byte) (paired : Bool) : Entry :=
  { kind := k, source := src, port := some p, tag := some tag, paired, running := false }

/-- R23, R33: the sequencer with an empty queue after it has accepted one lock-class command. -/
def Sequencer.took (q : Sequencer) (e : Entry) (o : Origin) (a : RepeatAction) (now : Nat) : Sequencer :=
  { q with queue := [e], repeatRec := some { origin := o, action := a, time := now } }

/-- R31: ACTUATION_FAILED stands on port B, and on the command's port when that is K or D, with the latest reason of the
closure; the notice is as it was on the other ports. -/
def failNamed (n m : Ports NoticeSet) (c : Closure) (why : FailReason) (port : Option Port) : Prop :=
  ∀ p, (m.get p).actuationFailed =
    if p = .b ∨ port = some p then some (((n.get p).actuationFailed.getD (.all none)).set c (some why))
    else (n.get p).actuationFailed

/-- The closure that a failure on a channel names: TG for T1 (R31). -/
def namedClosure : Actuator → Closure
  | .l c => c
  | .c .rd => .rd
  | .c .rp => .rp
  | .t1 => .tg

/-- R27: the operation waits in WAIT_SLOT with no slot. -/
def Op.waiting (o : Op) : Bool := o.phase = .waitSlot && !o.slot && !o.crash

/-- R25: the queue after the operation on `a` has ended: the RUNNING command whose other operations have all ended leaves. -/
def queueAfterEnd (s : State) (a : Actuator) : List Entry :=
  if s.seq.queue.head?.any (·.running) = true ∧ (∀ b ∈ Actuator.list, b ≠ a → (s.opAt b).all (·.crash) = true) then
    s.seq.queue.tail
  else s.seq.queue

/-- The port of the RUNNING command (R31). -/
def commandPort (s : State) : Option Port := s.seq.queue.head?.bind (fun e => if e.running then e.port else none)

/-- R31: the confirmed of a channel's closure or child lock has the value; T1 has none. -/
def confirmedIs (s t : State) (a : Actuator) (v : Bool) : Prop :=
  t.closures = (match a with
    | .l c => s.closures.set c { s.closure c with confirmed := v }
    | .c _ | .t1 => s.closures) ∧
  t.childs = (match a with
    | .c r => s.childs.set r { s.childOf r with confirmed := v }
    | .l _ | .t1 => s.childs)

/-- R29: the sensed value of a channel equals the goal of an operation on it. -/
def sensedIs (s : State) : Actuator → OpGoal → Bool
  | .l c, .lock p => (s.closure c).lockSensed = p.sensed
  | .c r, .child st => (s.childOf r).sensed = st
  | _, _ => false

/-- R26, R165: how the output of a pulse is driven. -/
def pulseDrive (a : Actuator) (d : ActDir) : Drive :=
  match a, d with
  | .t1, _ => .onFirst
  | _, .lock | _, .engage => .onFirst
  | _, .unlock | _, .release => .onSecond

/-- R150: a channel in a drive that begins. -/
def ChannelRec.begun (r : ChannelRec) (now : Nat) (d : Drive) : ChannelRec :=
  { r with drive := d, driveStart := some now, ocCount := 0, current := none, judged := false }

/-- R150: a channel whose drive has ended, in OFF or in BRAKE. -/
def ChannelRec.finished (r : ChannelRec) (d : Drive) : ChannelRec := { r with drive := d, driveStart := none, ocCount := 0 }

/-- R28: a heat count after a pulse start. -/
def heated (n : Nat) : Nat := min 255 (n + 8)

/-- R26: an ordinary operation as a command's start creates it. -/
def created (g : OpGoal) (retries : Nat) : Op :=
  { goal := g, phase := .waitSlot, slot := false, retriesLeft := retries, direction := none, pulse := none,
    crash := false, timer := none }

/-- R48: a crash operation in its first pulse. -/
def crashPulse (retries now : Nat) : Op :=
  { goal := .lock .unlocked, phase := .drive, slot := false, retriesLeft := retries, direction := some .unlock,
    pulse := some 300, crash := true, timer := some (now + 3000) }

/-- R46: the CHILD_SET entries of a queue, all PENDING. -/
def childEntries (q : List Entry) : List Entry :=
  (q.filter (fun e => !e.kind.lockClass)).map (fun e => { e with running := false })

/-- R46: the child sub-record that a RUNNING CHILD_SET at the head leaves when its child_op is aborted. -/
def childAborted (s : State) (r : Rear) : ChildRec :=
  { s.childOf r with
    confirmed :=
      if s.seq.queue.head?.any (fun e => e.running && (e.kind = .childSet r .engaged || e.kind = .childSet r .released)) then
        decide ((s.childOf r).sensed = (s.childOf r).goal)
      else (s.childOf r).confirmed }

/-- R47, R85, R104: every window stands INHIBITED with the cause CRASH, its bridge off (also one that was IDLE and braking:
log entry 17), its other causes as they were. -/
def windowsCrashed (s t : State) : Prop :=
  ∀ w, (t.winRec w).motion = .inhibited ∧ (t.winRec w).causes = { (s.winRec w).causes with crash := true } ∧
    (t.chan (.w w)).drive = .off ∧ (t.winRec w).position = (s.winRec w).position ∧
    (t.winRec w).normalised = (s.winRec w).normalised

/-- R47, R50: CRASH stands on the three ports with one more event, to 255 at most. -/
def crashNoticed (n m : Ports NoticeSet) : Prop :=
  ∀ p, (m.get p).crash = some (min 255 ((n.get p).crash.getD 0 + 1))

/-! ### Runs of a window -/

/-- R96: the calibration that a run reads at its start and keeps, or the group's when no run has started. -/
def keptCal (s : State) (w : Window) : Cal := (s.pinchOf w).cal.getD (s.calOf w)

/-- R96, R99: the target of a run: 0 upwards, the travel length downwards. -/
def runTarget (dir : Dir) (c : Cal) : Int := if dir = .up then 0 else c.l

/-- A command acts on one window alone: the other windows, the other channels, the vehicle mode, the retained power and the
rear lockout stay. -/
structure OnlyWindow (s t : State) (w : Window) : Prop where
  recs : ∀ x, x ≠ w → t.winRec x = s.winRec x
  pinch : ∀ x, x ≠ w → t.pinchOf x = s.pinchOf x
  refs : ∀ x, x ≠ w → t.refsOf x = s.refsOf x
  rings : ∀ x, x ≠ w → t.trace.rings.get x = s.trace.rings.get x
  chans : ∀ ch, ch ≠ .w w → t.chan ch = s.chan ch
  rest : t.win.mode = s.win.mode ∧ t.win.retained = s.win.retained ∧ t.win.rearLockout = s.win.rearLockout

/-- R96, R109, R126, R137: a run `k` has started on a window whose record was `r`. -/
structure RunStarted (s t : State) (w : Window) (r : WindowRec) (k : RunRec) : Prop where
  record : t.winRec w = { r with
    motion := .run k, lastDirection := some k.dir, startPosition := r.position, startWindow := some (t.now + 1500)
    stall := some (t.now + 800), stallReached := false, dwell := none, brake := none }
  bridge : t.chan (.w w) = (s.chan (.w w)).begun t.now (if k.dir = .up then .onFirst else .onSecond)
  pinch : t.pinchOf w = { filter := none, acc := 0, lastInterval := 0, pulseBase := t.now, cal := some (s.calOf w),
                          lastTeff := none }
  ring : t.trace.rings.get w = []
  stroke : (t.refsOf w).stroke =
    if k.dir = .up then some
      { startPosition := r.position, pz := (s.calOf w).pz, zs := (s.calOf w).zs, samples := Vector.replicate 32 none
        marks := { lowStart := decide (r.position = none) || decide (r.position.getD 0 < (s.calOf w).pz)
                   unnormalised := !r.normalised, limited := r.limited, warm := decide (s.mon.temp = .warm)
                   supply := decide (s.mon.supply ≠ .normal), pinch := false } }
    else none
  forget : (t.refsOf w).pendingForget = none ∧
    ((s.refsOf w).pendingForget = none → (t.refsOf w).zones = (s.refsOf w).zones) ∧
    ((s.refsOf w).pendingForget ≠ none → ∀ z : Fin 32, (t.refsOf w).zones[z] = none)

/-- R99, R129: the motion of a window whose record was `r` has ended into IDLE: the bridge is in BRAKE (to the end of the
50 ms of a DWELL whose pending run was dropped) and the stroke is over. -/
structure RunEnded (s t : State) (w : Window) (r : WindowRec) : Prop where
  record : t.winRec w = { r with
    motion := .idle, startWindow := none, stall := none, stallReached := false, dwell := none
    brake := some (r.dwell.getD (t.now + 500)) }
  bridge : t.chan (.w w) = (s.chan (.w w)).finished .brake
  pinch : t.pinchOf w = s.pinchOf w
  refs : t.refsOf w = { s.refsOf w with stroke := none }

/-- R141: the FILLING records of the windows that `f` names are complete with the cause STOPPED; the rings stay. -/
def fillingStopped (s t : State) (f : Window → Bool) : Prop :=
  t.trace.rings = s.trace.rings ∧ (TraceLaw s → ∀ i, t.bufferAt i = match s.bufferAt i with
    | .filling x => if f x.window then .complete x .stopped else .filling x
    | b => b)

/-- R96, R102: the run of a window whose record was `r` has ended into a DWELL of 50 ms with `p` pending. -/
structure RunPaused (s t : State) (w : Window) (r : WindowRec) (p : Pending) : Prop where
  record : t.winRec w = { r with
    motion := .dwell p, startWindow := none, stall := none, stallReached := false, dwell := some (t.now + 500)
    brake := none }
  bridge : t.chan (.w w) = (s.chan (.w w)).finished .brake
  refs : t.refsOf w = { s.refsOf w with stroke := none }
  ring : t.trace.rings.get w = s.trace.rings.get w

/-- Nothing but the record of a window has changed in the window's blocks. -/
def recordOnly (s t : State) (w : Window) (r : WindowRec) : Prop :=
  t.winRec w = r ∧ t.mon = s.mon ∧ t.refs = s.refs ∧ t.trace = s.trace ∧ t.pinch = s.pinch ∧ t.notices = s.notices

/-- R93: the direction of a switch position away from NEUTRAL. -/
def posDir : SwitchPos → Dir
  | .up | .upAuto | .neutral => .up
  | .down | .downAuto => .down

/-- R93, R94: the kind that a press takes after degradation. -/
def pressKind (s : State) (w : Window) (pos : SwitchPos) : RunKind :=
  match pos with
  | .upAuto => if (s.winRec w).normalised = false ∨ (s.winRec w).limited = true ∨ s.mon.supply = .low then .manual else .auto
  | .downAuto => if (s.winRec w).normalised = false then .manual else .auto
  | .up | .down | .neutral => .manual

/-- R93, R96: the run that a press of source `x` asks for. -/
def pressRun (s : State) (w : Window) (x : RunHolder) (pos : SwitchPos) : RunRec :=
  { dir := posDir pos, kind := pressKind s w pos, target := runTarget (posDir pos) (s.calOf w), holder := x }

/-- R99: a down-run of a normalised window would start at its travel length or beyond. -/
def startsAtBottom (s : State) (w : Window) (dir : Dir) : Bool :=
  dir = .down && (s.winRec w).normalised && (s.winRec w).position.any (fun p => ((s.calOf w).l : Int) ≤ p)

/-- R93: the record after a tap of source `x`, before the motion ends. -/
def tapped (r : WindowRec) (x : RunHolder) : WindowRec :=
  { r with awaitPanel := r.awaitPanel || decide (x = .panel), awaitLocal := r.awaitLocal || decide (x = .localSw) }

/-- R93: what a taken press of source `x` (PANEL or LOCAL) does that moves its switch from `prev` to `pos`, on a window
whose record, as the frame or the line has left it, is `r`. -/
structure PressTaken (s t : State) (w : Window) (r : WindowRec) (x : RunHolder) (prev pos : SwitchPos) : Prop where
  idle : r.motion = .idle → startsAtBottom s w (posDir pos) = false →
    RunStarted s t w r (pressRun s w x pos) ∧ t.trace.buffers = s.trace.buffers ∧
      ((s.refsOf w).pendingForget = none → t.notices = s.notices)
  bottom : r.motion = .idle → startsAtBottom s w (posDir pos) = true →
    (t.winRec w).motion = .idle ∧ (t.chan (.w w)).drive = .brake ∧ (t.winRec w).brake = some (t.now + 500)
  same : ∀ k, r.motion = .run k → k.kind = .manual → k.dir = posDir pos →
    recordOnly s t w { r with motion := .run { k with
      kind := pressKind s w pos, target := runTarget (posDir pos) (keptCal s w), holder := x } }
  other : ∀ k, r.motion = .run k → k.kind = .manual → k.dir ≠ posDir pos →
    RunPaused s t w r (.run (pressRun s w x pos))
  pending : ∀ k, r.motion.heldRun = some k → r.motion ≠ .run k → k.kind = .manual →
    recordOnly s t w { r with motion := .dwell (.run (pressRun s w x pos)) }
  tap : ∀ k, r.motion.heldRun = some k → k.kind ≠ .manual →
    if k.holder = x ∧ k.dir = posDir pos ∧ prev ≠ .neutral ∧ posDir prev = posDir pos then recordOnly s t w r
    else RunEnded s t w (tapped r x) ∧ fillingStopped s t (· = w)

/-- R95: what a NEUTRAL event of source `x` does on a window whose record, with the source's await_neutral flag cleared,
is `r`. -/
def NeutralTaken (s t : State) (w : Window) (r : WindowRec) (x : RunHolder) : Prop :=
  if r.motion.heldRun.any (fun k => k.kind = .manual && k.holder = x) = true then
    RunEnded s t w r ∧ fillingStopped s t (· = w)
  else recordOnly s t w r

/-- R99: the runs and pending runs that the sources of `f` hold have ended, and no other window has changed. -/
def runsEnded (s t : State) (f : RunHolder → Bool) : Prop :=
  (∀ w, if (s.winRec w).motion.heldRun.any (fun k => f k.holder) = true then RunEnded s t w (s.winRec w)
    else t.winRec w = s.winRec w ∧ t.chan (.w w) = s.chan (.w w) ∧ t.refsOf w = s.refsOf w ∧ t.pinchOf w = s.pinchOf w) ∧
  fillingStopped s t (fun w => (s.winRec w).motion.heldRun.any (fun k => f k.holder))

/-- R100, R101: the byte of a comfort request's outcome on a window (the bytes of STARTED and SKIPPED: log entry 22). -/
def comfortByte (s : State) (w : Window) : Byte :=
  if (s.winRec w).motion = .inhibited then if (s.winRec w).causes.crash then 0x08 else 0x0F
  else if (s.winRec w).normalised = false ∨ (s.winRec w).limited = true then 0x01
  else if (s.winRec w).motion.holder = some .reversal ∨ (s.winRec w).motion.holder = some (.of .panel) ∨
      (s.winRec w).motion.holder = some (.of .localSw) then 0x0D
  else 0x00

/-- R57, R101: the code of the first window that refuses a comfort request, OK when none does. -/
def comfortAnswer (s : State) : Code :=
  match (Window.list.map (comfortByte s)).find? (fun b => b ≠ 0x00 ∧ b ≠ 0x01) with
  | some 0x08 => .crash
  | some 0x0F => .state
  | some _ => .held
  | none => .ok

/-- R100: what a comfort request of holder `h` does on a window that it is STARTED on: an IDLE window starts a comfort run, a
run in its direction is taken over, a run in the other direction is paused for it, and a pending run is replaced. -/
structure ComfortTaken (s t : State) (w : Window) (dir : Dir) (h : RunHolder) : Prop where
  idle : (s.winRec w).motion = .idle → startsAtBottom s w dir = false →
    RunStarted s t w (s.winRec w) { dir, kind := .comfort, target := runTarget dir (s.calOf w), holder := h }
  bottom : (s.winRec w).motion = .idle → startsAtBottom s w dir = true →
    (t.winRec w).motion = .idle ∧ (t.chan (.w w)).drive = .brake
  same : ∀ o, (s.winRec w).motion = .run o → o.dir = dir →
    t.winRec w = { s.winRec w with
      motion := .run { o with kind := .comfort, target := runTarget dir (keptCal s w), holder := h } } ∧
    t.chan (.w w) = s.chan (.w w)
  other : ∀ o, (s.winRec w).motion = .run o → o.dir ≠ dir →
    RunPaused s t w (s.winRec w) (.run { dir, kind := .comfort, target := runTarget dir (s.calOf w), holder := h })
  pending : ∀ o, (s.winRec w).motion = .dwell (.run o) →
    t.winRec w = { s.winRec w with
      motion := .dwell (.run { dir, kind := .comfort, target := runTarget dir (s.calOf w), holder := h }) } ∧
    t.chan (.w w) = s.chan (.w w)

/-- R105: an event of a window stands on ports B and D. -/
def eventNamed (n : Ports NoticeSet) (w : Window) (f : WindowEvents → Bool) : Prop :=
  ∀ p, p ≠ .k → (n.get p).windowEvent.any (fun d => f (d.get w)) = true

/-- R131: CONTEXT_CHANGED of port B names the window. -/
def contextNamed (n : Ports NoticeSet) (w : Window) : Prop := n.b.contextChanged.any (fun d => d.get w) = true

/-- R130: a learned value moves a quarter of the way to the sample, rounded with a half towards plus infinity. -/
def quarterTowards (old sample : Nat) : Nat := ((old : Int) + ((sample : Int) - old + 2) / 4).toNat

/-- R130: a zone that a stroke has taught, or left. -/
def zoneTaught (k : Stroke) (old : Option ZoneRef) (z : Fin 32) : Option ZoneRef :=
  match k.samples[z] with
  | none => old
  | some x =>
    if z.val ≤ k.pz / 2 ^ k.zs then
      match old with
      | none => some x
      | some o => some ⟨quarterTowards o.effort x.effort, quarterTowards o.interval x.interval⟩
    else old

/-- R129, R130: the judgement of the stroke at the top stop. -/
def strokeJudged (s t : State) (w : Window) : Prop :=
  (t.refsOf w).stroke = none ∧ (t.refsOf w).pendingForget = (s.refsOf w).pendingForget ∧
  (∀ k, (s.refsOf w).stroke = some k →
    if k.marks = ⟨false, false, false, false, false, false⟩ ∧
        (List.finRange 32).any (fun z => k.samples[z].isSome && decide (z.val ≤ k.pz / 2 ^ k.zs)) = true then
      (∀ z : Fin 32, (t.refsOf w).zones[z] = zoneTaught k (s.refsOf w).zones[z] z) ∧
      (t.refsOf w).learned = min 255 ((s.refsOf w).learned + 1) ∧ contextNamed t.notices w
    else (t.refsOf w).zones = (s.refsOf w).zones ∧ (t.refsOf w).learned = (s.refsOf w).learned) ∧
  ((s.refsOf w).stroke = none →
    (t.refsOf w).zones = (s.refsOf w).zones ∧ (t.refsOf w).learned = (s.refsOf w).learned)

/-- R102: a pinch has been taken at position `p` on a window whose record was `r`. -/
structure PinchTaken (s t : State) (w : Window) (r : WindowRec) (p : Int) (cause : PinchCause) : Prop where
  paused : RunPaused s t w
    { r with pinchCount := min 3 (r.pinchCount + 1), limited := r.limited || decide (2 ≤ r.pinchCount) }
    (.reverse (min (p + (keptCal s w).reversal) (keptCal s w).l))
  event : eventNamed t.notices w (fun e => decide (e.pinch = some cause))
  sequence : t.trace.sequence = (s.trace.sequence + 1) % 65536

/-- R98: an unexpected stall has ended the motion of a window whose record was `r`. -/
structure StallEnded (s t : State) (w : Window) (r : WindowRec) : Prop where
  ended : RunEnded s t w r
  event : eventNamed t.notices w (·.stall)
  sequence : t.trace.sequence = (s.trace.sequence + 1) % 65536

/-- R98: a full down-run: a run, not a REVERSE, that started at a position from 0 to 8. -/
def fullDownRun (r : WindowRec) : Bool :=
  r.motion.heldRun.isSome && r.startPosition.any (fun p => 0 ≤ p && p ≤ 8)

/-- R98, R99: the record when the bottom is reached. -/
def bottomRecord (r : WindowRec) : WindowRec :=
  if fullDownRun r then { r with pinchCount := 0, limited := false } else r

/-- R98: a stall has been taken on a window whose record was `r`, judged by its rows. `blind` is the row of a down-run
on an unnormalised window; that it holds of a REVERSE on one too, for which R98 has no row, is log entry 17. -/
structure StallTaken (s t : State) (w : Window) (r : WindowRec) : Prop where
  none : r.motion.drivenDir = none → recordOnly s t w r
  top : r.motion.drivenDir = some .up → ∀ p, r.position = some p → r.normalised = true → p ≤ 8 →
    t.winRec w = { r with
      position := some 0, topCorrection := some p, pinchCount := 0, limited := false, motion := .idle
      startWindow := Option.none, stall := Option.none, stallReached := false, dwell := Option.none
      brake := some (r.dwell.getD (t.now + 500)) } ∧
    t.chan (.w w) = (s.chan (.w w)).finished .brake ∧ fillingStopped s t (· = w) ∧ strokeJudged s t w
  unnormalised : r.motion.drivenDir = some .up → r.normalised = false →
    RunEnded s t w { r with position := some 0, normalised := true, topCorrection := Option.none } ∧
    fillingStopped s t (· = w) ∧ eventNamed t.notices w (·.normalised) ∧ contextNamed t.notices w
  pinch : r.motion.drivenDir = some .up → ∀ p, r.position = some p → r.normalised = true → 8 < p →
    p ≤ (keptCal s w).pz → PinchTaken s t w r p .stall
  above : r.motion.drivenDir = some .up → ∀ p, r.position = some p → r.normalised = true → 8 < p →
    (keptCal s w).pz < p → StallEnded s t w r
  bottom : r.motion.drivenDir = some .down → ∀ p, r.position = some p → r.normalised = true →
    (keptCal s w).l ≤ p + 16 → RunEnded s t w (bottomRecord r) ∧ fillingStopped s t (· = w) ∧ t.notices.d = s.notices.d
  short : r.motion.drivenDir = some .down → ∀ p, r.position = some p → r.normalised = true →
    p + 16 < (keptCal s w).l → StallEnded s t w r
  blind : r.motion.drivenDir = some .down → r.normalised = false →
    RunEnded s t w r ∧ fillingStopped s t (· = w) ∧ t.notices.d = s.notices.d

/-! ### Samples -/

/-- R113: the current scaled by the gain of its supply band: I times K divided by 16,384, a half rounding up. -/
def compensated (i gain : Nat) : Nat := (i * gain + 8192) / 16384

/-- R114, R115: the filter after a sample with compensated current `ic`: its first value, or a step of the difference
divided by 2 to the power `s`, rounded with a half towards plus infinity. -/
def filtered (f : Option Nat) (ic s : Nat) : Nat :=
  match f with
  | none => 16 * ic
  | some f => ((f : Int) + (16 * (ic : Int) - f + 2 ^ (s - 1)) / 2 ^ s).toNat

/-- R116: the reference of a position: that of its learned zone, otherwise the cold reference. -/
def referenceAt (zones : Vector (Option ZoneRef) 32) (zs cold : Nat) (p : Option Int) : Nat :=
  ((zoneOf zs p).bind (fun z => zones[z])).elim cold ZoneRef.effort

/-- R119: the speed indicator. -/
def slowAt (zones : Vector (Option ZoneRef) 32) (zs : Nat) (p : Option Int) (interval : Nat) (temp : TempState) : Bool :=
  decide (temp = .warm) ||
    ((zoneOf zs p).bind (fun z => zones[z])).all (fun r => decide (5 * r.interval ≤ 4 * interval))

/-- R111 to R119, R123: the record of a sample with current `i` and supply code `v` of a driven window. -/
def sampleOf (s : State) (w : Window) (i v : Nat) : Sample :=
  let r := s.winRec w
  let q := s.pinchOf w
  let c := keptCal s w
  let ic := compensated (min 1023 i) s.config.gain[(⟨min 15 (v / 64), by omega⟩ : Fin 16)]
  let start := r.startWindow.isSome
  let effort := if start then ic else filtered q.filter ic c.s / 16
  { ic, effort
    acc := if start then q.acc
      else (max 0 (min 65535 ((q.acc : Int) + effort - referenceAt (s.refsOf w).zones c.zs c.c r.position - c.d))).toNat
    position := r.position
    speed := slowAt (s.refsOf w).zones c.zs r.position (max q.lastInterval (s.sincePulse w)) s.mon.temp
    phase := if start then .start else if r.motion.heldRun.isSome then .run else .reverse }

/-- R120: the threshold in force. -/
def thresholdOf (t : Nat) (limited : Bool) : Nat := if limited then min 65535 (2 * t) else t

/-- R120: a sample declares an effort pinch. -/
def pinchDeclared (s : State) (w : Window) (x : Sample) : Bool :=
  decide (x.phase = .run) && decide ((s.winRec w).motion.drivenDir = some .up) && (s.winRec w).normalised &&
    x.position.any (fun p => decide (4 ≤ p) && decide (p ≤ ((keptCal s w).pz : Int))) &&
    decide (thresholdOf (keptCal s w).t (s.winRec w).limited < x.acc) &&
    (decide ((keptCal s w).coincidence = .effortOnly) || x.speed)

/-- R154: the overcurrent count of a channel after a measurement that is, or is not, over the limit. -/
def countAfter (n : Nat) (jam : Bool) : Nat := if jam then min 5 (n + 1) else 0

/-- R151: the detection of overcurrent is enabled on a channel. -/
def ocEnabled (s : State) (ch : Channel) : Bool := (s.config.chanMask.get ch).overcurrent && s.config.globalMask.overcurrent

/-- R137, R141: what a sample `x` does to the record buffers: it joins its window's FILLING record, which its eighth
completes. -/
def buffersFed (s t : State) (w : Window) (x : Sample) : Prop :=
  TraceLaw s → ∀ i, t.bufferAt i = match s.bufferAt i with
    | .filling r =>
      if r.window = w then
        if 7 ≤ r.post.length then .complete { r with post := r.post ++ [x] } .eight
        else .filling { r with post := r.post ++ [x] }
      else .filling r
    | b => b

/-- R104, R155: the window has been withdrawn by an overcurrent. -/
structure WindowWithdrawn (s t : State) (w : Window) : Prop where
  state : (t.winRec w).motion = .inhibited ∧ (t.winRec w).causes = { (s.winRec w).causes with fault := true } ∧
    (t.winRec w).position = (s.winRec w).position ∧ (t.winRec w).normalised = (s.winRec w).normalised
  chan : (t.chan (.w w)).drive = .off ∧ (t.chan (.w w)).withdrawn = true ∧ (t.chan (.w w)).overcurrent = .fault ∧
    (t.chan (.w w)).ocCount = 0
  flag : t.mon.flags = { s.mon.flags with overcurrent := true }
  stroke : (t.refsOf w).stroke = none

/-! ### Diagnostics, temperature and supply -/

/-- R155: FAULT of port B names the channel with a kind. -/
def faultNamed (n : Ports NoticeSet) (ch : Channel) (f : KindSet → Bool) : Prop :=
  n.b.fault.any (fun d => f (d.kinds.get ch) && decide (ch ∈ d.order)) = true

/-- R151: a kind that `f` reads is enabled on a channel. -/
def kindEnabled (s : State) (ch : Channel) (f : KindSet → Bool) : Bool :=
  f (s.config.chanMask.get ch) && f s.config.globalMask

/-- R152: the judgement of a drive's latest current finds an open load, or a closed one. -/
def openFound (s : State) (ch : Channel) : Option Bool :=
  if kindEnabled s ch (·.openLoad) = true ∧ s.mon.supply ≠ .cut then
    (s.chan ch).current.map (fun i => decide (i < match ch with | .w _ => 15 | .act _ => 10))
  else none

/-- A crash operation drives the channel (R49). -/
def crashOn (s : State) (ch : Channel) : Bool :=
  match ch with
  | .act (.l c) => (s.opAt (.l c)).any (·.crash)
  | _ => false

/-- R153: a channel is tested at an off-state tick. -/
def testedOff (s : State) (ch : Channel) : Bool := decide ((s.chan ch).drive = .off) && decide (s.mon.supply ≠ .cut)

/-- R153, R155: an off-state test withdraws a channel. -/
def shortFound (s : State) (ch : Channel) (f : Finding) : Bool :=
  testedOff s ch && (kindEnabled s ch (·.shortSupply) && f.nearSupply || kindEnabled s ch (·.shortGround) && f.nearGround)

/-- R153: the result of a short kind after a test. -/
def shortAfter (old : TestResult) (enabled held clean : Bool) : TestResult :=
  if enabled && held then .fault else if enabled && clean then .normal else old

/-- R104: a window record after a cause has been removed. -/
def causeRemoved (r : WindowRec) (causes : Causes) : WindowRec :=
  { r with
    causes
    motion := if r.motion = .inhibited ∧ causes = ⟨false, false, false, false⟩ then .idle else r.motion }

/-- R85, R104: every window stands INHIBITED with the causes that `f` gives, its bridge off (also one that was IDLE and
braking: log entry 17). -/
def allInhibited (s t : State) (f : Causes → Causes) : Prop :=
  ∀ w, (t.winRec w).motion = .inhibited ∧ (t.winRec w).causes = f (s.winRec w).causes ∧
    (t.chan (.w w)).drive = .off ∧ (t.winRec w).position = (s.winRec w).position ∧
    (t.winRec w).normalised = (s.winRec w).normalised ∧ (t.winRec w).pinchCount = (s.winRec w).pinchCount

/-- R42: the operations of the RUNNING command have ended ABORTED with reason THERMAL, and the command has left the queue;
crash operations stay. -/
def thermallyAborted (s t : State) : Prop :=
  (∀ a, (s.opAt a).all (·.crash) = true → t.opAt a = s.opAt a ∧ t.chan (.act a) = s.chan (.act a)) ∧
  (∀ a, (s.opAt a).all (·.crash) = false → t.opAt a = none ∧ (t.chan (.act a)).drive = .off ∧
    (t.notices.b.actuationFailed.map (fun d => d.get (namedClosure a))) = some (some .thermal)) ∧
  (∀ c, t.closure c = if (s.opAt (.l c)).all (·.crash) then s.closure c
    else { s.closure c with confirmed := decide ((s.closure c).lockSensed = (s.closure c).lockGoal.sensed) }) ∧
  (∀ r, t.childOf r = if (s.opAt (.c r)).all (·.crash) then s.childOf r
    else { s.childOf r with confirmed := decide ((s.childOf r).sensed = (s.childOf r).goal) }) ∧
  t.seq = { s.seq with
    ops := t.seq.ops
    queue := if s.seq.queue.head?.any (·.running) = true then s.seq.queue.tail else s.seq.queue }

/-- R128: a mark has been put on the active strokes. -/
def strokesMarked (s t : State) (f : Marks → Marks) : Prop :=
  ∀ w, t.refsOf w = { s.refsOf w with stroke := (s.refsOf w).stroke.map (fun k => { k with marks := f k.marks }) }

/-- R28: an operation that waits with its slot when the supply leaves CUT. -/
def Op.heldByCut (o : Op) : Bool := decide (o.phase = .waitSlot) && o.slot && !o.crash

/-- R28: the pulse check lets a channel's pulse start. -/
def pulseAllowed (s : State) (a : Actuator) : Bool :=
  !(s.chan (.act a)).withdrawn &&
    (s.heatOf a).all (fun n => decide (n < if s.mon.temp = .normal then 160 else 96))

/-! ### Resets -/

/-- R7, R18, R43, R53, R70, R83, R106, R124, R136, R149, R162, R170, R171, R172: the values of a full reset that neither a
pin nor a measurement decides. -/
structure FullResetValues (t : State) : Prop where
  now : t.now = 0
  closures : ∀ c, t.closure c =
    { latch := .unknown, lockSensed := .invalid, lockGoal := .unlocked, confirmed := false, lastSource := .reset }
  childs : ∀ r, t.childOf r = { goal := .released, sensed := .released, confirmed := false }
  queue : t.seq.queue = []
  ops : ∀ a, t.opAt a = none
  heatL : ∀ c, t.seq.heatL.get c = 0
  heatC : ∀ r, t.seq.heatC.get r = 0
  repeatRec : t.seq.repeatRec = none
  relock : t.seq.relock = none
  latch : t.crash.latch = false
  slots : ∀ i, t.slotAt i =
    { status := .empty, counter := 0, rights := ⟨false, false, false, false⟩, candidate := none, streak := 0,
      lastAccepted := none }
  session : t.fobs.session = none
  touch : ∀ x, t.touch.get x = .idle
  windows : ∀ w, (t.winRec w).position = none ∧ (t.winRec w).normalised = false ∧ (t.winRec w).limited = false ∧
    (t.winRec w).pinchCount = 0 ∧ (t.winRec w).topCorrection = none ∧ (t.winRec w).lastDirection = none ∧
    (t.winRec w).awaitPanel = false ∧ (t.winRec w).awaitLocal = false ∧ (t.winRec w).panelPosition = .neutral ∧
    (t.winRec w).panelTimer = none
  rearLockout : t.win.rearLockout = false
  mode : t.win.mode = .parked
  retained : t.win.retained = none
  pinch : ∀ w, (t.pinchOf w).filter = none ∧ (t.pinchOf w).acc = 0 ∧ (t.pinchOf w).lastInterval = 0 ∧
    t.sincePulse w = 0 ∧ (t.pinchOf w).cal = none
  refs : ∀ w, (∀ z : Fin 32, (t.refsOf w).zones[z] = none) ∧ (t.refsOf w).learned = 0 ∧ (t.refsOf w).stroke = none ∧
    (t.refsOf w).pendingForget = none
  rings : ∀ w, t.trace.rings.get w = []
  buffers : ∀ i, t.bufferAt i = .free
  captures : t.trace.captures = []
  sequence : t.trace.sequence = 0
  timeTag : t.timeTag = 0
  cursor : t.trace.cursor = none
  chans : ∀ ch, (t.chan ch).drive = .off ∧ (t.chan ch).openLoad = .notTested ∧ (t.chan ch).shortSupply = .notTested ∧
    (t.chan ch).shortGround = .notTested ∧ (t.chan ch).overcurrent = .notTested ∧ (t.chan ch).ocCount = 0 ∧
    (t.chan ch).withdrawn = false
  offTick : t.mon.offTickAt = 10000
  policy : t.config.selectiveUnlock = true ∧ t.config.childLockout = true ∧ t.config.passive = true ∧
    t.config.overlapAccept = false ∧ t.config.relockTime = 45
  cal : ∀ w, t.calOf w =
    { l := 1600, pz := 900, zs := 6, s := 2, t := 400, d := 12, coincidence := .effortOnly, c := 600, reversal := 320 }
  gain : ∀ b : Fin 16, t.config.gain[b] = 16384
  masks : (∀ ch, t.config.chanMask.get ch = ⟨true, true, true, true⟩) ∧ t.config.globalMask = ⟨true, true, true, true⟩
  frozen : t.config.frozen = ⟨false, false, false, false, false⟩
  ports : ∀ p, t.ports.get p = { engine := .idle, buffer := [], timer := none, response := none }
  staging : t.staging = none
  softResetDue : t.softResetDue = false

/-- R5, R18, R91: after a full reset no line has been read; the pins stand as they stood, and each stability timer starts. -/
structure LinesRestarted (s t : State) : Prop where
  latch : ∀ c, t.sensing.latch.get c = { raw := (s.sensing.latch.get c).raw, read := false, timer := some 200 }
  feedback : ∀ c, t.sensing.feedback.get c = { raw := (s.sensing.feedback.get c).raw, read := false, timer := some 200 }
  child : ∀ r, t.sensing.child.get r = { raw := (s.sensing.child.get r).raw, read := false, timer := some 200 }
  handle : ∀ c, t.sensing.handle.get c = { raw := (s.sensing.handle.get c).raw, level := none, timer := some 200 }
  keyLock : t.sensing.keyLock = { raw := s.sensing.keyLock.raw, level := none, timer := some 200 }
  keyUnlock : t.sensing.keyUnlock = { raw := s.sensing.keyUnlock.raw, level := none, timer := some 200 }
  touch : ∀ x, t.sensing.touch.get x = { raw := (s.sensing.touch.get x).raw, level := none, timer := some 200 }
  switch : ∀ w, t.sensing.switch.get w = { raw := (s.sensing.switch.get w).raw, level := none, timer := some 200 }

/-- R44, R158, R160, R162, R172: what a full reset with its cause leaves where a pin or the first temperature and supply
measurements decide. -/
structure FullResetJudged (s t : State) (cause : ResetCause) (deg : Int) (v : Nat) : Prop where
  resetLine : t.resetLine = false
  line : t.crash.line = s.crash.line
  detector : (t.crash.detector, t.crash.timer) = if s.crash.line then (.asserting, some 20) else (.released, none)
  windows : ∀ w, (t.winRec w).causes = ⟨false, decide (150 ≤ deg), decide (v < 400 ∨ 800 < v), false⟩ ∧
    (t.winRec w).motion = if 150 ≤ deg ∨ v < 400 ∨ 800 < v then .inhibited else .idle
  temp : t.mon.temp = if 150 ≤ deg then .hot else if 125 ≤ deg then .warm else .normal
  supply : t.mon.supply = if v < 400 ∨ 800 < v then .cut else if v < 450 then .low else .normal
  measured : (-40 ≤ deg → deg ≤ 200 → t.mon.lastTemp = deg) ∧ (v ≤ 1023 → t.mon.lastV = v)
  flags : t.mon.flags =
    ⟨false, false, false, false, decide (125 ≤ deg), decide (150 ≤ deg), decide (v < 450 ∨ 800 < v),
      decide (v < 400 ∨ 800 < v)⟩
  noticesB : t.notices.b =
    { NoticeSet.empty with restarted := some cause, thermal := decide (125 ≤ deg), supply := decide (v < 450 ∨ 800 < v) }
  noticesK : t.notices.k = { NoticeSet.empty with restarted := some cause }
  noticesD : t.notices.d = { NoticeSet.empty with restarted := some cause }
  kept : t.pending = s.pending ∧ t.freeCount = s.freeCount

end Sys2Proof.Machine
end

