-- ==== Sys2Proof/Certificates/Slice0/Obligations.lean ====
section
/-! DEFINITION. The statements for the provers. Times are ticks of 0.1 ms, so that 20 ms is 200; a request that is
answered leaves its port engine as `answered tag code payload` (R163, R164).

The model's own choices, in every statement that speaks of them: the ticks, the TYP intervals, and the `now` after a timer's
expiry, which is the larger of `now` and the timer's deadline, are log entry 3; the `now` of 0 after a full reset is log
entry 3, the waiting commands and the pins that it keeps are log entry 8, and the kept count of free values is log entry 1. -/

open Sys2Proof Sys2Proof.Machine

/-! ### Steps and resets -/

/-- A step takes the command at the front of the queue of waiting commands and runs it with the queue's rest. -/
def Obligations.StepTakesFront : Prop :=
  ∀ (s : State) (c : Instr) (rest : List Instr), s.pending = c :: rest → step s = exec c (s.withPending rest)

/-- The model's choice (log entries 4 and 5): on an empty queue a step runs the event that is due, otherwise the timebase
moves by one tick; it stands while the reset line is asserted. -/
def Obligations.StepOnEmptyQueue : Prop :=
  ∀ s : State, s.pending = [] →
    (∀ c, s.due = some c → step s = exec c s) ∧
    (s.due = none → s.resetLine = false → step s = .next { s with now := s.now + 1 }) ∧
    (s.resetLine = true → step s = .next s)

/-- The state after reset keeps every law of the part. -/
def Obligations.ResetHoldsLaws : Prop :=
  LockLaw State.reset ∧ SlotLaw State.reset ∧ WindowLaw State.reset ∧ TraceLaw State.reset ∧ RangeLaw State.reset

/-- R172, with R7, R43, R53, R70, R83, R106, R124, R136, R149, R162 and R171: POWER_ON with the reset line released and
the release of an asserted reset line bring every block to its full-reset values, raise RESTARTED with their cause on the
three ports, and judge the first temperature and supply measurements. -/
def Obligations.FullReset : Prop :=
  ∀ (s : State) (deg : Int) (v : Nat),
    (s.resetLine = false → ∃ t, exec (.powerOn deg v) s = .next t ∧
      FullResetValues t ∧ LinesRestarted s t ∧ FullResetJudged s t .powerOn deg v) ∧
    (s.resetLine = true → ∃ t, exec (.resetLineRelease deg v) s = .next t ∧
      FullResetValues t ∧ LinesRestarted s t ∧ FullResetJudged s t .resetLine deg v)

/-- R172: the asserted reset line holds the part in its full-reset state: no output driven, no notice line active. While it
is held, nothing but a pin, the crash line, the reset line and the supply is taken (log entry 6). -/
def Obligations.ResetLineHolds : Prop :=
  (∀ s : State, ∃ t, exec .resetLineAssert s = .next t ∧ t.resetLine = true ∧ FullResetValues t ∧
    t.crash.detector = .released ∧ t.crash.timer = none ∧ t.crash.line = s.crash.line ∧
    (∀ p, t.noticeLine p = false) ∧ t.pending = s.pending) ∧
  ∀ (s : State) (c : Instr), s.resetLine = true → (∀ r, c ≠ .rawLineChange r) → (∀ b, c ≠ .crashLineChange b) →
    c ≠ .resetLineAssert → (∀ deg v, c ≠ .powerOn deg v) → (∀ deg v, c ≠ .resetLineRelease deg v) → exec c s = .next s

/-- R163, R172: a sent response returns its engine to IDLE and does nothing else, unless it is port B's answer to a
SOFT_RESET; SOFT_RESET is answered OK and notes that the reset is due. -/
def Obligations.ResponseSentAndSoftResetRequest : Prop :=
  (∀ (s : State) (p : Port), s.resetLine = false → (s.ports.get p).engine = .answering →
    (p = .b → s.softResetDue = false) →
    exec (.responseSent p) s =
      .next { s with ports := s.ports.set p { engine := .idle, buffer := [], timer := none, response := none } }) ∧
  ∀ (s : State) (tag : Byte), s.canTake .b →
    exec (.softReset .b tag []) s =
      .next { s with softResetDue := true, ports := s.ports.set .b (answered tag .ok []) }

/-- R172 with R19, R43, R53, R70, R83, R107, R124, R136, R149, R162 and R166: the soft reset, taken when port B's response
has been sent, from any state that keeps the laws of the operations, the windows and the trace store. The notice sets are
kept, and RESTARTED is added with cause SOFT. -/
def Obligations.SoftReset : Prop :=
  ∀ s : State, s.resetLine = false → (s.ports.get .b).engine = .answering → s.softResetDue = true →
    (∀ a, OpLaw s a) → WindowLaw s → TraceLaw s →
    ∃ t, exec (.responseSent .b) s = .next t ∧
      Only [.closures, .childs, .seq, .fobs, .touch, .win, .refs, .trace, .mon, .ports, .staging, .softResetDue,
        .notices] s t ∧
      t.ports = s.ports.set .b { engine := .idle, buffer := [], timer := none, response := none } ∧
      t.softResetDue = false ∧ t.staging = none ∧
      t.seq.queue = [] ∧ t.seq.repeatRec = none ∧ t.seq.relock = none ∧
      (∀ c, t.opAt (.l c) =
        if s.crash.latch = true ∧ (s.closure c).lockSensed ≠ .unlocked then
          some { goal := .lock .unlocked, phase := .drive, slot := false, retriesLeft := 4, direction := some .unlock,
                 pulse := some 300, crash := true, timer := some (s.now + 3000) }
        else none) ∧
      (∀ r, t.opAt (.c r) = none) ∧ t.opAt .t1 = none ∧
      (s.crash.latch = false → t.seq.heatL = s.seq.heatL) ∧ t.seq.heatC = s.seq.heatC ∧
      (∀ c, (t.closure c).latch = (s.closure c).latch ∧ (t.closure c).lockSensed = (s.closure c).lockSensed ∧
        (t.closure c).lockGoal = (s.closure c).lockGoal ∧ (t.closure c).lastSource = (s.closure c).lastSource) ∧
      (∀ c, (s.opAt (.l c)).any (·.crash) = true →
        (t.closure c).confirmed = decide ((s.closure c).lockSensed = .unlocked)) ∧
      (∀ c, (s.opAt (.l c)).any (·.crash) = false →
        (t.closure c).confirmed =
          ((s.closure c).confirmed && decide ((s.closure c).lockSensed = (s.closure c).lockGoal.sensed))) ∧
      (∀ r, t.childOf r =
        { s.childOf r with confirmed := (s.childOf r).confirmed && decide ((s.childOf r).sensed = (s.childOf r).goal) }) ∧
      t.fobs.slots = s.fobs.slots ∧ t.fobs.session = none ∧ (∀ x, t.touch.get x = .idle) ∧
      (∀ w, (t.winRec w).motion = (if (s.winRec w).motion = .inhibited then .inhibited else .idle) ∧
        (t.winRec w).causes = (s.winRec w).causes ∧ (t.winRec w).position = (s.winRec w).position ∧
        (t.winRec w).normalised = (s.winRec w).normalised ∧ (t.winRec w).limited = (s.winRec w).limited ∧
        (t.winRec w).pinchCount = (s.winRec w).pinchCount ∧ (t.winRec w).topCorrection = (s.winRec w).topCorrection ∧
        (t.winRec w).lastDirection = (s.winRec w).lastDirection ∧ (t.winRec w).panelPosition = .neutral ∧
        (t.winRec w).panelTimer = none ∧ (t.winRec w).awaitPanel = false ∧ (t.winRec w).awaitLocal = false) ∧
      t.win.retained = none ∧ t.win.mode = s.win.mode ∧ t.win.rearLockout = s.win.rearLockout ∧
      (∀ w, (t.refsOf w).zones = (s.refsOf w).zones ∧ (t.refsOf w).learned = (s.refsOf w).learned ∧
        ((s.winRec w).motion.running = true → (t.refsOf w).stroke = none)) ∧
      (∀ i, t.bufferAt i = match s.bufferAt i with
        | .filling r => .complete r .reset
        | .free => .free
        | .complete r x => .complete r x) ∧
      t.trace.captures = s.trace.captures ∧ t.trace.cursor = s.trace.cursor ∧ t.trace.sequence = s.trace.sequence ∧
      t.timeTag = s.timeTag ∧ t.trace.rings = s.trace.rings ∧
      (∀ w, (t.chan (.w w)).drive = .off) ∧ (∀ r, (t.chan (.act (.c r))).drive = .off) ∧
      (t.chan (.act .t1)).drive = .off ∧
      (∀ ch, (t.chan ch).ocCount = 0 ∨ (s.chan ch).drive.on = false) ∧
      (∀ ch, (t.chan ch).withdrawn = (s.chan ch).withdrawn ∧ (t.chan ch).openLoad = (s.chan ch).openLoad ∧
        (t.chan ch).shortSupply = (s.chan ch).shortSupply ∧ (t.chan ch).shortGround = (s.chan ch).shortGround ∧
        (t.chan ch).overcurrent = (s.chan ch).overcurrent) ∧
      t.mon.flags = s.mon.flags ∧ t.mon.temp = s.mon.temp ∧ t.mon.supply = s.mon.supply ∧
      t.mon.offTickAt = s.mon.offTickAt ∧
      ∀ p, (t.notices.get p).restarted = some .soft ∧
        (∀ i ∈ [1, 4, 5, 6, 7, 8, 9, 10, 12, 13, 14, 15], (s.notices.get p).SameAt (t.notices.get p) i) ∧
        (∀ d, (s.notices.get p).lockChanged = some d → ∃ e, (t.notices.get p).lockChanged = some e ∧
          ∀ c, d.get c = true → e.get c = true) ∧
        (∀ d, (s.notices.get p).childChanged = some d → ∃ e, (t.notices.get p).childChanged = some e ∧
          ∀ r, d.get r = true → e.get r = true) ∧
        ((s.notices.get p).traceReady = true → (t.notices.get p).traceReady = true)

/-! ### Ports, decoder and notices -/

/-- R164, R167, R171: a request of any kind is judged for its length, then its port, then a freeze; the first failure is
answered with an empty payload, and nothing else changes. -/
def Obligations.DecoderRefusals : Prop :=
  ∀ (s : State) (k : Kind) (p : Port) (tag : Byte) (q : List Byte), s.canTake p →
    (q.length < k.length.1 ∨ k.length.2 < q.length →
      exec (k.command p tag q) s = .next { s with ports := s.ports.set p (answered tag .format []) }) ∧
    (k.length.1 ≤ q.length → q.length ≤ k.length.2 →
      (k.allows p = false →
        exec (k.command p tag q) s = .next { s with ports := s.ports.set p (answered tag .authority []) }) ∧
      (k.allows p = true →
        (k = .configWrite ∧ (groups[byteOf q 0]?).any s.config.frozen.has = true ∨
          k = .fobWrite ∧ s.config.frozen.fobTable = true) →
        exec (k.command p tag q) s = .next { s with ports := s.ports.set p (answered tag .frozen []) }))

/-- R167, step 4, with the value lists of the owning rules: a field at or beyond the end of its list is answered RANGE,
whatever the other fields hold, and nothing else changes. The rows give the kind, the place of the one-byte field and the
number of its values. The row of inside_clear (PASSIVE_CLAIM, byte 6) is the model's reading (log entry 19): R76 names
source, slot and zone alone. -/
def Obligations.RangeRefusals : Prop :=
  ∀ (s : State) (p : Port) (tag : Byte) (q : List Byte) (row : Kind × Nat × Nat),
    row ∈ [(.lock, 0, 6), (.childSet, 0, 2), (.childSet, 1, 2), (.credential, 0, 8), (.credential, 4, 6),
      (.passiveClaim, 0, 5), (.passiveClaim, 1, 8), (.passiveClaim, 5, 3), (.passiveClaim, 6, 2), (.windowSwitch, 0, 4),
      (.windowSwitch, 1, 5), (.rearLockout, 0, 2), (.comfort, 0, 3), (.vehicleMode, 0, 3), (.windowForget, 0, 4),
      (.windowForget, 1, 3), (.windowContextRead, 0, 4), (.windowContextRead, 1, 4), (.traceTrigger, 0, 4),
      (.clearFault, 0, 12), (.diagStatus, 0, 3), (.configWrite, 0, 5), (.configRead, 0, 5), (.configFreeze, 0, 5),
      (.fobWrite, 0, 8), (.fobWrite, 1, 3), (.fobWrite, 5, 16), (.fobRead, 0, 8), (.windowStatus, 0, 3),
      (.readNotices, 0, 17)] →
    s.canTake p → row.1.allows p = true → q.length = row.1.length.1 → row.2.2 ≤ byteOf q row.2.1 →
    s.config.frozen.fobTable = false →
    exec (row.1.command p tag q) s = .next { s with ports := s.ports.set p (answered tag .range []) }

/-- R163: a frame sent while its port is answering is lost: neither a whole request, nor a byte, nor a discarded frame
changes anything. R167: a whole frame of an unknown kind is answered FORMAT. -/
def Obligations.AnsweringPortAndUnknownKind : Prop :=
  (∀ (s : State) (p : Port) (k : Kind) (tag b : Byte) (q : List Byte), (s.ports.get p).engine = .answering →
    exec (k.command p tag q) s = .next s ∧ exec (.unknownKindRequest p tag b q) s = .next s ∧
    exec (.linkByteReceived p b) s = .next s ∧ exec (.frameDiscarded p) s = .next s) ∧
  ∀ (s : State) (p : Port) (tag kind : Byte) (q : List Byte), s.canTake p → kind.toNat = 0 ∨ 32 < kind.toNat →
    exec (.unknownKindRequest p tag kind q) s = .next { s with ports := s.ports.set p (answered tag .format []) }

/-- R163: what a byte, a bad frame and a silence of 5 ms do to a port engine that is not answering. The timer that starts
with the sync byte is the model's choice (log entry 13): R163 restarts it at each byte in RECEIVING. -/
def Obligations.LinkBytes : Prop :=
  ∀ (s : State) (p : Port) (b : Byte), s.resetLine = false →
    ((s.ports.get p).engine = .idle →
      (b ≠ 0x5C → exec (.linkByteReceived p b) s = .next s) ∧
      (b = 0x5C → exec (.linkByteReceived p b) s =
        .next { s with ports := s.ports.set p { engine := .receiving, buffer := [], timer := some (s.now + 50), response := none } }) ∧
      exec (.frameDiscarded p) s = .next s) ∧
    ((s.ports.get p).engine = .receiving →
      ((s.ports.get p).buffer = [] → b.toNat < 2 ∨ 50 < b.toNat → exec (.linkByteReceived p b) s =
        .next { s with ports := s.ports.set p { engine := .idle, buffer := [], timer := none, response := none } }) ∧
      ((s.ports.get p).buffer = [] → 2 ≤ b.toNat → b.toNat ≤ 50 → exec (.linkByteReceived p b) s =
        .next { s with ports := s.ports.set p { engine := .receiving, buffer := [b], timer := some (s.now + 50), response := none } }) ∧
      ((s.ports.get p).buffer ≠ [] → (s.ports.get p).buffer.length ≠ byteOf (s.ports.get p).buffer 0 + 1 →
        exec (.linkByteReceived p b) s =
        .next { s with ports := s.ports.set p { engine := .receiving, buffer := (s.ports.get p).buffer ++ [b],
                                                timer := some (s.now + 50), response := none } }) ∧
      ((s.ports.get p).buffer ≠ [] → (s.ports.get p).buffer.length = byteOf (s.ports.get p).buffer 0 + 1 →
        byteSum ((s.ports.get p).buffer ++ [b]) ≠ 0 → exec (.linkByteReceived p b) s =
        .next { s with ports := s.ports.set p { engine := .idle, buffer := [], timer := none, response := none } }) ∧
      exec (.frameDiscarded p) s =
        .next { s with ports := s.ports.set p { engine := .idle, buffer := [], timer := none, response := none } } ∧
      ∀ d, (s.ports.get p).timer = some d → exec (.interByteTimeout p) s =
        .next { s with now := max s.now d,
                       ports := s.ports.set p { engine := .idle, buffer := [], timer := none, response := none } })

/-- R163, R167: the bytes of a request frame (sync 5Ch, length, tag, kind, payload, check byte), arriving on a port in IDLE,
are the request that they spell, of a known kind or of an unknown one, taken with the engine in RECEIVING and every byte but
the check byte received. -/
def Obligations.FrameBytesAreTheRequest : Prop :=
  ∀ (s : State) (p : Port) (tag b : Byte) (q : List Byte), s.resetLine = false →
    (s.ports.get p).engine = .idle → q.length ≤ 48 →
    ∀ u, u = { s with
      ports := s.ports.set p { engine := .receiving, buffer := BitVec.ofNat 8 (q.length + 2) :: tag :: b :: q,
                               timer := some (s.now + 50), response := none } } →
    (∀ k : Kind, b = k.code → feed p (frame 0x5C tag b q) s = exec (k.command p tag q) u) ∧
    (b.toNat = 0 ∨ 32 < b.toNat → feed p (frame 0x5C tag b q) s = exec (.unknownKindRequest p tag b q) u)

/-- R163: a response frame begins with C5h, carries its length, tag, code and payload, and the sum of its bytes behind the
sync byte is 0 modulo 256; the frames of 11.6. R167: the table of the request kinds (code, least and most payload
bytes, ports B, K and D), and the values of the result codes. -/
def Obligations.DecoderTableAndFrames : Prop :=
  ((∀ (tag : Byte) (c : Code) (q : List Byte), q.length ≤ 48 → ∃ check : Byte,
    (Response.mk tag c q).frame = [0xC5, BitVec.ofNat 8 (q.length + 2), tag] ++ codeByte c ++ q ++ [check] ∧
    byteSum ((Response.mk tag c q).frame.drop 1) = 0) ∧
  (Response.mk 0x21 .ok []).frame = [0xC5, 0x02, 0x21, 0x00, 0xDD] ∧
  (Response.mk 0x21 .authority []).frame = [0xC5, 0x02, 0x21, 0x04, 0xD9] ∧
  frame 0x5C 0x21 0x03 [0x01, 0x00] = [0x5C, 0x04, 0x21, 0x03, 0x01, 0x00, 0xD7]) ∧
  Kind.list.map (fun k => (k, k.code, k.length, k.allows .b, k.allows .k, k.allows .d)) =
    [(.lock, 0x01, (1, 1), true, false, false), (.centralToggle, 0x02, (0, 0), false, false, true),
     (.childSet, 0x03, (2, 2), true, false, true), (.credential, 0x04, (5, 5), false, true, false),
     (.passiveClaim, 0x05, (7, 7), false, true, false), (.windowSwitch, 0x06, (2, 2), false, false, true),
     (.rearLockout, 0x07, (1, 1), false, false, true), (.comfort, 0x08, (1, 1), true, false, false),
     (.vehicleMode, 0x09, (1, 1), true, false, false), (.crashClear, 0x0A, (0, 0), true, false, false),
     (.windowRestore, 0x0B, (3, 46), true, false, false), (.windowForget, 0x0C, (2, 2), true, false, false),
     (.windowContextRead, 0x0D, (2, 2), true, false, false), (.traceTrigger, 0x0E, (1, 1), true, false, false),
     (.traceRead, 0x0F, (0, 0), true, false, false), (.traceRewind, 0x10, (0, 0), true, false, false),
     (.traceClear, 0x11, (0, 0), true, false, false), (.timeTagReset, 0x12, (0, 0), true, false, false),
     (.traceStatus, 0x13, (0, 0), true, false, false), (.clearFault, 0x14, (1, 1), true, false, false),
     (.clearStatus, 0x15, (1, 1), true, false, false), (.diagStatus, 0x16, (1, 1), true, false, false),
     (.configWrite, 0x17, (5, 5), true, false, false), (.configRead, 0x18, (3, 3), true, false, false),
     (.configFreeze, 0x19, (1, 1), true, false, false), (.fobWrite, 0x1A, (6, 6), true, false, false),
     (.fobRead, 0x1B, (1, 1), true, false, false), (.softReset, 0x1C, (0, 0), true, false, false),
     (.closureStatus, 0x1D, (0, 0), true, true, true), (.windowStatus, 0x1E, (1, 1), true, true, true),
     (.readNotices, 0x1F, (1, 1), true, true, true), (.ackNotices, 0x20, (2, 2), true, true, true)] ∧
  (∀ (b : Byte) (k : Kind), Kind.ofByte b = some k ↔ b = k.code) ∧
  [Code.ok, .merged, .duplicate, .format, .authority, .frozen, .range, .busy, .crash, .crashActive, .ajar, .tgLocked,
      .superlocked, .held, .noPower, .state, .emptySlot, .suspended, .stale, .resyncNeeded, .noRight, .noTouch, .tooLate,
      .noKey, .keyInside, .noRecord].map codeByte =
    [[0x00], [0x01], [0x02], [0x03], [0x04], [0x05], [0x06], [0x07], [0x08], [0x09], [0x0A], [0x0B], [0x0C], [0x0D],
      [0x0E], [0x0F], [0x10], [0x11], [0x12], [0x13], [0x14], [0x15], [0x16], [0x17], [0x18], [0x19]]

/-- R17, R56, R105, R132, R148, R161, R165, R169, R170: the reads are answered OK with payloads of their lengths and change
nothing but their own port engine; a segmented read begins with its index and its total. That the notice mask stands most
significant byte first is log entry 9: R165 says that its bits stand in the order of the list, bit 0 first, in 2 bytes. -/
def Obligations.ReadsChangeNothing : Prop :=
  ∀ (s : State) (tag i j : Byte),
    (∀ p, s.canTake p → ∃ t, exec (.closureStatus p tag []) s = .next t ∧
      t = { s with ports := s.ports.set p (answered tag .ok (t.payloadAt p)) } ∧ (t.payloadAt p).length = 45) ∧
    (∀ p, s.canTake p → i.toNat < 3 → ∃ t, exec (.windowStatus p tag [i]) s = .next t ∧
      t = { s with ports := s.ports.set p (answered tag .ok (t.payloadAt p)) } ∧ (t.payloadAt p).length = 46 ∧
      (t.payloadAt p).take 2 = [i, 3]) ∧
    (∀ p, s.canTake p → i.toNat ≤ 16 → ∃ t, exec (.readNotices p tag [i]) s = .next t ∧
      t = { s with ports := s.ports.set p (answered tag .ok (t.payloadAt p)) } ∧
      (∀ n, n < 16 → (256 * byteOf (t.payloadAt p) 0 + byteOf (t.payloadAt p) 1).testBit n =
        (s.notices.get p).present.getD n false) ∧
      ((s.notices.get p).present.getD i.toNat false = false → (t.payloadAt p).length = 2)) ∧
    (s.canTake .b → j.toNat < 4 → i.toNat < 4 → ∃ t, exec (.windowContextRead .b tag [j, i]) s = .next t ∧
      t = { s with ports := s.ports.set .b (answered tag .ok (t.payloadAt .b)) } ∧ (t.payloadAt .b).length = 46 ∧
      (t.payloadAt .b).take 2 = [i, 4] ∧ (i = 0 → byteOf (t.payloadAt .b) 2 = j.toNat)) ∧
    (s.canTake .b → i.toNat < 3 → ∃ t, exec (.diagStatus .b tag [i]) s = .next t ∧
      t = { s with ports := s.ports.set .b (answered tag .ok (t.payloadAt .b)) } ∧ (t.payloadAt .b).length = 46 ∧
      (t.payloadAt .b).take 2 = [i, 3]) ∧
    (s.canTake .b → ∃ t, exec (.traceStatus .b tag []) s = .next t ∧
      t = { s with ports := s.ports.set .b (answered tag .ok (t.payloadAt .b)) } ∧
      byteOf (t.payloadAt .b) 0 + byteOf (t.payloadAt .b) 1 + byteOf (t.payloadAt .b) 2 = 8 ∧
      256 * byteOf (t.payloadAt .b) 3 + byteOf (t.payloadAt .b) 4 = s.trace.sequence % 65536) ∧
    (s.canTake .b → i.toNat < 8 → ∃ t, exec (.fobRead .b tag [i]) s = .next t ∧
      t = { s with ports := s.ports.set .b (answered tag .ok (t.payloadAt .b)) } ∧ 8 ≤ (t.payloadAt .b).length ∧
      (t.payloadAt .b).length ≤ 20) ∧
    (s.canTake .b → i.toNat < 16 → ∃ t, exec (.configRead .b tag [2, 0, i]) s = .next t ∧
      t = { s with ports := s.ports.set .b (answered tag .ok (t.payloadAt .b)) } ∧ (t.payloadAt .b).length = 3)

/-- R105, R165: the content of WINDOW_STATUS, its three pieces joined, with its padding. R132, R165: the content of
WINDOW_CONTEXT_READ, its four pieces joined. R17, R165: the bytes of CLOSURE_STATUS. The rows give each closure's place in
the payload; the child fields of RD and RP follow their closure's seven bytes. R161, R165: bytes of DIAG_STATUS: the first
five channels in segment 0; the heat counts, the sticky flags, the temperature and the supply in segment 2. The two bytes
of top_correction are log entry 10. -/
def Obligations.StatusContent : Prop :=
  (∀ (s : State) (p : Port) (tag : Byte), s.canTake p →
    ∃ a, exec (.windowStatus p tag [0]) s = .next a ∧ ∃ b, exec (.windowStatus p tag [1]) s = .next b ∧
      ∃ c, exec (.windowStatus p tag [2]) s = .next c ∧
      a.pieceAt p ++ b.pieceAt p ++ c.pieceAt p =
        windowStatusShown s ++ List.replicate (132 - (windowStatusShown s).length) 0) ∧
  (∀ (s : State) (tag : Byte) (w : Window), s.canTake .b → ∀ j, j = BitVec.ofNat 8 (Window.list.idxOf w) →
    ∃ a, exec (.windowContextRead .b tag [j, 0]) s = .next a ∧ ∃ b, exec (.windowContextRead .b tag [j, 1]) s = .next b ∧
      ∃ c, exec (.windowContextRead .b tag [j, 2]) s = .next c ∧ ∃ d, exec (.windowContextRead .b tag [j, 3]) s = .next d ∧
      a.pieceAt .b ++ b.pieceAt .b ++ c.pieceAt .b ++ d.pieceAt .b =
        contextShown s w ++ List.replicate (176 - (contextShown s w).length) 0) ∧
  (∀ (s : State) (p : Port) (tag : Byte), s.canTake p → ∃ t, exec (.closureStatus p tag []) s = .next t ∧
    (∀ row ∈ [(Closure.fd, 0), (.fp, 7), (.rd, 14), (.rp, 25), (.tg, 36)],
      byteOf (t.payloadAt p) row.2 = [Latch.closed, .ajar, .unknown].idxOf (s.closure row.1).latch ∧
      byteOf (t.payloadAt p) (row.2 + 1) =
        [Sensed.unlocked, .locked, .superlocked, .invalid].idxOf (s.closure row.1).lockSensed ∧
      byteOf (t.payloadAt p) (row.2 + 2) = [LockPos.unlocked, .locked, .superlocked].idxOf (s.closure row.1).lockGoal ∧
      byteOf (t.payloadAt p) (row.2 + 3) = (if (s.closure row.1).confirmed then 1 else 0) ∧
      byteOf (t.payloadAt p) (row.2 + 4) =
        (match s.opAt (.l row.1) with
          | none => 0
          | some o => [OpPhase.waitSlot, .drive, .settle].idxOf o.phase + 1 + (if o.crash then 128 else 0)) ∧
      ((s.closure row.1).lastSource = .crash → byteOf (t.payloadAt p) (row.2 + 5) = 8) ∧
      (∀ i, (s.closure row.1).lastSource = .kFob i → byteOf (t.payloadAt p) (row.2 + 5) = 1 ∧
        byteOf (t.payloadAt p) (row.2 + 6) = i.val)) ∧
    (∀ row ∈ [(Rear.rd, 21), (.rp, 32)],
      byteOf (t.payloadAt p) row.2 = [ChildState.engaged, .released].idxOf (s.childOf row.1).goal ∧
      byteOf (t.payloadAt p) (row.2 + 1) = [ChildState.engaged, .released].idxOf (s.childOf row.1).sensed ∧
      byteOf (t.payloadAt p) (row.2 + 2) = (if (s.childOf row.1).confirmed then 1 else 0)) ∧
    byteOf (t.payloadAt p) 43 =
      (match s.mode with | .allOpen => 0 | .driverOnly => 1 | .locked => 2 | .superlocked => 3 | .mixed => 4) ∧
    byteOf (t.payloadAt p) 44 = (if s.crash.latch then 1 else 0)) ∧
  ∀ (s : State) (tag : Byte), s.canTake .b →
    (∃ t, exec (.diagStatus .b tag [0]) s = .next t ∧
      ∀ row ∈ [(Channel.w .wfd, 2), (.w .wfp, 10), (.w .wrd, 18), (.w .wrp, 26), (.act (.l .fd), 34)],
        byteOf (t.payloadAt .b) row.2 = [Drive.off, .onFirst, .onSecond, .brake].idxOf (s.chan row.1).drive ∧
        byteOf (t.payloadAt .b) (row.2 + 1) = [TestResult.normal, .fault, .notTested].idxOf (s.chan row.1).openLoad ∧
        byteOf (t.payloadAt .b) (row.2 + 2) = [TestResult.normal, .fault, .notTested].idxOf (s.chan row.1).shortSupply ∧
        byteOf (t.payloadAt .b) (row.2 + 3) = [TestResult.normal, .fault, .notTested].idxOf (s.chan row.1).shortGround ∧
        byteOf (t.payloadAt .b) (row.2 + 4) = [TestResult.normal, .fault, .notTested].idxOf (s.chan row.1).overcurrent ∧
        byteOf (t.payloadAt .b) (row.2 + 5) = (if (s.chan row.1).withdrawn then 1 else 0) ∧
        byteOf (t.payloadAt .b) (row.2 + 6) = (s.chan row.1).ocCount % 256) ∧
    (∃ t, exec (.diagStatus .b tag [2]) s = .next t ∧
      (∀ row ∈ [(Closure.fd, 10), (.fp, 11), (.rd, 12), (.rp, 13), (.tg, 14)],
        byteOf (t.payloadAt .b) row.2 = s.seq.heatL.get row.1 % 256) ∧
      (∀ row ∈ [(Rear.rd, 15), (.rp, 16)], byteOf (t.payloadAt .b) row.2 = s.seq.heatC.get row.1 % 256) ∧
      (∀ row ∈ [(s.mon.flags.openLoad, 0), (s.mon.flags.shortSupply, 1), (s.mon.flags.shortGround, 2),
          (s.mon.flags.overcurrent, 3), (s.mon.flags.twarm, 4), (s.mon.flags.thot, 5), (s.mon.flags.slow, 6),
          (s.mon.flags.scut, 7)], (byteOf (t.payloadAt .b) 18).testBit row.2 = row.1) ∧
      byteOf (t.payloadAt .b) 19 = [TempState.normal, .warm, .hot].idxOf s.mon.temp ∧
      byteOf (t.payloadAt .b) 22 = [SupplyState.normal, .low, .cut].idxOf s.mon.supply ∧
      (s.mon.lastV ≤ 1023 → 256 * byteOf (t.payloadAt .b) 23 + byteOf (t.payloadAt .b) 24 = s.mon.lastV))

/-- R168, R169, with R4, R31, R36, R69, R75, R105, R131, R143, R155, R158, R160 and R165: READ_NOTICES answers the mask of its
port's set and, behind it, the detail of the named notice. R169: ACK_NOTICES removes the named notices of its port's set
with their details, leaves the others as they are and the other ports' sets too; a mask that names every notice leaves the
set empty and the notice line released. That both masks stand most significant byte first is log entry 9; what R165 leaves
open of the details' bytes is log entry 10. -/
def Obligations.AckNotices : Prop :=
  (∀ (s : State) (p : Port) (tag : Byte) (i : Fin 16), s.canTake p →
    ∃ t, exec (.readNotices p tag [BitVec.ofNat 8 i.val]) s = .next t ∧
      (t.payloadAt p).take 2 = u16 (setNumber (s.notices.get p).present) ∧
      detailShown s (s.notices.get p) i.val ((t.payloadAt p).drop 2)) ∧
  ∀ (s : State) (p : Port) (tag hi lo : Byte), s.canTake p →
    ∃ t, exec (.ackNotices p tag [hi, lo]) s = .next t ∧
      t = { s with notices := s.notices.set p (t.notices.get p), ports := s.ports.set p (answered tag .ok []) } ∧
      (∀ i : Fin 16, if (256 * hi.toNat + lo.toNat).testBit i.val then NoticeSet.empty.SameAt (t.notices.get p) i.val
        else (s.notices.get p).SameAt (t.notices.get p) i.val) ∧
      (hi = 0xFF → lo = 0xFF → t.noticeLine p = false)

/-! ### Configuration store -/

/-- R170: CONFIG_READ answers the value held at an item and whether its group is frozen; a read of FOB_TABLE answers the
value 0. The items, with the fields they stand for; an item that does not exist is answered RANGE. -/
def Obligations.ConfigRead : Prop :=
  ∀ (s : State) (tag : Byte) (w : Window) (b : Fin 16) (ch : Channel), s.canTake .b →
    (∀ row ∈ [([0, 0, 0], bit s.config.selectiveUnlock, s.config.frozen.policy),
        ([0, 1, 0], bit s.config.childLockout, s.config.frozen.policy),
        ([0, 2, 0], bit s.config.passive, s.config.frozen.policy),
        ([0, 3, 0], bit s.config.overlapAccept, s.config.frozen.policy),
        ([0, 4, 0], s.config.relockTime, s.config.frozen.policy),
        ([1, 0, Window.list.idxOf w], (s.config.cal.get w).l, s.config.frozen.windowCal),
        ([1, 1, Window.list.idxOf w], (s.config.cal.get w).pz, s.config.frozen.windowCal),
        ([1, 2, Window.list.idxOf w], (s.config.cal.get w).zs, s.config.frozen.windowCal),
        ([1, 3, Window.list.idxOf w], (s.config.cal.get w).s, s.config.frozen.windowCal),
        ([1, 4, Window.list.idxOf w], (s.config.cal.get w).t, s.config.frozen.windowCal),
        ([1, 5, Window.list.idxOf w], (s.config.cal.get w).d, s.config.frozen.windowCal),
        ([1, 6, Window.list.idxOf w], bit ((s.config.cal.get w).coincidence = .effortAndSpeed), s.config.frozen.windowCal),
        ([1, 7, Window.list.idxOf w], (s.config.cal.get w).c, s.config.frozen.windowCal),
        ([1, 8, Window.list.idxOf w], (s.config.cal.get w).reversal, s.config.frozen.windowCal),
        ([2, 0, b.val], s.config.gain[b], s.config.frozen.supplyGain),
        ([3, 0, Channel.list.idxOf ch], kindSetNumber (s.config.chanMask.get ch), s.config.frozen.diagMask),
        ([3, 1, 0], kindSetNumber s.config.globalMask, s.config.frozen.diagMask),
        ([4, 0, 0], 0, s.config.frozen.fobTable)],
      exec (.configRead .b tag (row.1.map (BitVec.ofNat 8))) s =
        .next { s with ports := s.ports.set .b (answered tag .ok (u16 row.2.1 ++ u8 (if row.2.2 then 1 else 0))) }) ∧
    (∀ row ∈ [[(0 : Byte), 5, 0], [0, 0, 1], [1, 9, 0], [1, 0, 4], [2, 1, 0], [2, 0, 16], [3, 0, 12], [3, 1, 1], [3, 2, 0]],
      exec (.configRead .b tag row) s = .next { s with ports := s.ports.set .b (answered tag .range []) })

/-- R170, R171: the configuration store. CONFIG_FREEZE freezes its group, whether it was frozen or not, and nothing else.
CONFIG_WRITE to a group that is not frozen: a valid item takes its value at once and is answered OK, and every other item
and every freeze stays; anything else is answered RANGE and changes nothing. A write to a frozen group, of FOB_WRITE for
FOB_TABLE, is answered FROZEN whatever its fields. CONFIG_READ of an item that exists answers the value held and the freeze
of its group, otherwise RANGE, and a read of FOB_TABLE the value 0. A full reset clears every freeze and gives every item its
default; a soft reset keeps every freeze and every value. -/
def Obligations.ConfigWriteAndFreeze : Prop :=
  (∀ (s : State) (tag : Byte) (g : Group), s.canTake .b →
    ∃ t, exec (.configFreeze .b tag [BitVec.ofNat 8 (groups.idxOf g)]) s = .next t ∧
      Only [.config, .ports] s t ∧ t.ports = s.ports.set .b (answered tag .ok []) ∧
      { t.config with frozen := s.config.frozen } = s.config ∧
      ∀ g', t.config.frozen.has g' = (s.config.frozen.has g' || decide (g' = g))) ∧
  (∀ (s : State) (tag : Byte) (g : Group) (item index hi lo : Byte), s.canTake .b → s.config.frozen.has g = false →
    (itemValid s.config g item.toNat index.toNat (256 * hi.toNat + lo.toNat) →
      ∃ t, exec (.configWrite .b tag [BitVec.ofNat 8 (groups.idxOf g), item, index, hi, lo]) s = .next t ∧
        t.ports = s.ports.set .b (answered tag .ok []) ∧
        Only [.config, .touch, .win, .refs, .trace, .mon, .notices, .ports] s t ∧
        t.config.item g item.toNat index.toNat = some (256 * hi.toNat + lo.toNat) ∧
        t.config.frozen = s.config.frozen ∧
        ∀ (g' : Group) (item' index' : Nat), (g', item', index') ≠ (g, item.toNat, index.toNat) →
          t.config.item g' item' index' = s.config.item g' item' index') ∧
    (¬ itemValid s.config g item.toNat index.toNat (256 * hi.toNat + lo.toNat) →
      exec (.configWrite .b tag [BitVec.ofNat 8 (groups.idxOf g), item, index, hi, lo]) s =
        .next { s with ports := s.ports.set .b (answered tag .range []) })) ∧
  (∀ (s : State) (tag : Byte) (g : Group) (q : List Byte), s.canTake .b → s.config.frozen.has g = true →
    (q.length = 4 → exec (.configWrite .b tag (BitVec.ofNat 8 (groups.idxOf g) :: q)) s =
      .next { s with ports := s.ports.set .b (answered tag .frozen []) }) ∧
    (g = .fobTable → q.length = 6 → exec (.fobWrite .b tag q) s =
      .next { s with ports := s.ports.set .b (answered tag .frozen []) })) ∧
  (∀ (s : State) (tag : Byte) (g : Group) (item index : Byte), s.canTake .b →
    (g = .fobTable → exec (.configRead .b tag [BitVec.ofNat 8 (groups.idxOf g), item, index]) s =
      .next { s with ports := s.ports.set .b (answered tag .ok (u16 0 ++ u8 (if s.config.frozen.has g then 1 else 0))) }) ∧
    (itemExists g item.toNat index.toNat → ∃ v, s.config.item g item.toNat index.toNat = some v ∧
      exec (.configRead .b tag [BitVec.ofNat 8 (groups.idxOf g), item, index]) s =
        .next { s with ports := s.ports.set .b (answered tag .ok (u16 v ++ u8 (if s.config.frozen.has g then 1 else 0))) }) ∧
    (g ≠ .fobTable → ¬ itemExists g item.toNat index.toNat →
      exec (.configRead .b tag [BitVec.ofNat 8 (groups.idxOf g), item, index]) s =
        .next { s with ports := s.ports.set .b (answered tag .range []) })) ∧
  (∀ (s : State) (deg : Int) (v : Nat),
    (s.resetLine = false → ∃ t, exec (.powerOn deg v) s = .next t ∧ ConfigDefaults t) ∧
    (s.resetLine = true → ∃ t, exec (.resetLineRelease deg v) s = .next t ∧ ConfigDefaults t) ∧
    ∃ t, exec .resetLineAssert s = .next t ∧ ConfigDefaults t) ∧
  ∀ s : State, s.resetLine = false → (s.ports.get .b).engine = .answering → s.softResetDue = true →
    ∃ t, exec (.responseSent .b) s = .next t ∧ t.config = s.config ∧ t.fobs.slots = s.fobs.slots

/-- R83, R92, R151: a CONFIG_WRITE that turns the passive policy off makes every touch window IDLE; one that turns
child-implies-lockout on ends the LOCAL run of each rear window whose child_goal is ENGAGED; one that takes OVERCURRENT out
of the global enables clears every count. -/
def Obligations.PolicyWritesActAtOnce : Prop :=
  ∀ (s : State) (tag : Byte), s.canTake .b → s.config.frozen.policy = false → s.config.frozen.diagMask = false →
    (∃ t, exec (.configWrite .b tag [0, 2, 0, 0, 0]) s = .next t ∧ t.config.passive = false ∧
      (∀ x, t.touch.get x = if s.config.passive then .idle else s.touch.get x) ∧ t.notices = s.notices) ∧
    (∃ t, exec (.configWrite .b tag [0, 2, 0, 0, 1]) s = .next t ∧ t.config.passive = true ∧ t.touch = s.touch) ∧
    (∃ t, exec (.configWrite .b tag [0, 1, 0, 0, 1]) s = .next t ∧ t.config.childLockout = true ∧
      (∀ r, s.config.childLockout = false → (s.childOf r).goal = .engaged →
        ∀ k, (s.winRec (rearWindow r)).motion.heldRun = some k → k.holder = .localSw →
          (t.winRec (rearWindow r)).motion = .idle ∧ (t.chan (.w (rearWindow r))).drive = .brake) ∧
      (∀ w, (∀ k, (s.winRec w).motion.heldRun = some k → k.holder ≠ .localSw) → t.winRec w = s.winRec w)) ∧
    (∃ t, exec (.configWrite .b tag [3, 1, 0, 0, 7]) s = .next t ∧ t.config.globalMask = ⟨true, true, true, false⟩ ∧
      ∀ ch, t.chan ch = { s.chan ch with ocCount := 0 })

/-- R135: a CONFIG_WRITE of a window's zone shift. A window that is not running forgets its references at once and
CONTEXT_CHANGED names it; a running one holds a pending forget with the zone shift of its run copy; a write that brings the
pending shift back withdraws the forget and keeps the table; a repeated value changes nothing. -/
def Obligations.ZoneShiftWrite : Prop :=
  ∀ (s : State) (tag z : Byte) (w : Window), s.canTake .b → s.config.frozen.windowCal = false → z.toNat ≤ 7 →
    ∃ t, exec (.configWrite .b tag [1, 2, BitVec.ofNat 8 (Window.list.idxOf w), 0, z]) s = .next t ∧
      (t.calOf w).zs = z.toNat ∧ (∀ w', w' ≠ w → t.refsOf w' = s.refsOf w') ∧
      (z.toNat = (s.calOf w).zs → t.refsOf w = s.refsOf w ∧ t.notices = s.notices) ∧
      (z.toNat ≠ (s.calOf w).zs → (s.refsOf w).pendingForget = some z.toNat →
        t.refsOf w = { s.refsOf w with pendingForget := none } ∧ t.notices = s.notices) ∧
      (z.toNat ≠ (s.calOf w).zs → (s.refsOf w).pendingForget ≠ some z.toNat → (s.winRec w).motion.running = true →
        (t.refsOf w).zones = (s.refsOf w).zones ∧ t.notices = s.notices ∧
        ((s.refsOf w).pendingForget = none → ∀ k, (s.pinchOf w).cal = some k →
          (t.refsOf w).pendingForget = some k.zs) ∧
        ((s.refsOf w).pendingForget ≠ none → t.refsOf w = s.refsOf w)) ∧
      (z.toNat ≠ (s.calOf w).zs → (s.refsOf w).pendingForget ≠ some z.toNat → (s.winRec w).motion.running = false →
        (∀ x : Fin 32, (t.refsOf w).zones[x] = none) ∧ (t.refsOf w).learned = 0 ∧ (t.refsOf w).pendingForget = none ∧
        ∃ d, t.notices.b.contextChanged = some d ∧ d.get w = true)

/-! ### Credential checker and comfort session -/

/-- R55, R56, R70: FOB_WRITE leaves the slot as written, with candidate, streak and last_accepted cleared (an EMPTY slot
with counter 0 and no right), raises no notice and leaves the other slots; the FOB_READ that follows the response returns
the written values. Where the comfort session belongs to the written slot, the session ends and the runs held by COMFORT_K
with that slot stop. -/
def Obligations.FobWriteRead : Prop :=
  ∀ (s : State) (tag : Byte) (i : Fin 8) (c r : Nat), s.canTake .b → s.config.frozen.fobTable = false →
    c < 16777216 → r < 16 →
    ∀ row ∈ [((0 : Nat), FobSlot.written .empty 0 0), (1, .written .active c r), (2, .written .suspended c r)],
    ((∀ x, s.fobs.session = some x → x.slot ≠ i) → ∃ t,
      exec (.fobWrite .b tag (u8 i.val ++ u8 row.1 ++ u24 c ++ u8 r)) s = .next t ∧
      t = { s with fobs := s.fobs.with i row.2, ports := s.ports.set .b (answered tag .ok []) } ∧
      (s.softResetDue = false → ∃ u, exec (.responseSent .b) t = .next u ∧
        exec (.fobRead .b tag (u8 i.val)) u = .next { u with
          ports := u.ports.set .b (answered tag .ok
            (u8 row.1 ++ (if row.1 = 0 then [0, 0, 0, 0] else u24 c ++ u8 r) ++ [0, 0, 0])) })) ∧
    (∀ x, s.fobs.session = some x → x.slot = i → ∃ t,
      exec (.fobWrite .b tag (u8 i.val ++ u8 row.1 ++ u24 c ++ u8 r)) s = .next t ∧
      Only [.fobs, .win, .refs, .trace, .mon, .notices, .ports] s t ∧
      t.fobs = { s.fobs.with i row.2 with session := none } ∧
      t.ports = s.ports.set .b (answered tag .ok []) ∧ runsEnded s t (fun h => h = .comfortK i) ∧
      t.win.mode = s.win.mode ∧ t.win.retained = s.win.retained ∧ t.win.rearLockout = s.win.rearLockout ∧
      t.notices.b.fobCounter = s.notices.b.fobCounter)

/-- R57 to R63: a CREDENTIAL up to the check of the right. EMPTY and SUSPENDED slots are left as they were; a DUPLICATE
renews last_accepted and the session of its slot and direction; STALE and RESYNC_NEEDED raise the streak, and
RESYNC_NEEDED sets the candidate; an accepted counter without the right advances the slot and names it. That a repeat on
the tick at which the 1 s duplicate window ends is a DUPLICATE is the model's choice of order (log entry 28). -/
def Obligations.CredentialJudged : Prop :=
  ∀ (s : State) (tag : Byte) (i : Fin 8) (c : Nat) (a : FobAction), s.canTake .k → c < 16777216 →
    ((s.slotAt i).status = .empty → exec (.credential .k tag (credentialBytes i c a)) s = .next { s with
      ports := s.ports.set .k (answered tag .emptySlot (u8 i.val ++ u24 (s.slotAt i).counter ++ [0])) }) ∧
    ((s.slotAt i).status = .suspended → exec (.credential .k tag (credentialBytes i c a)) s = .next { s with
      ports := s.ports.set .k (answered tag .suspended (u8 i.val ++ u24 (s.slotAt i).counter ++ [0])) }) ∧
    ((s.slotAt i).status = .active →
      (ahead c (s.slotAt i).counter = 0 → (s.slotAt i).repeatedBy s.now a →
        exec (.credential .k tag (credentialBytes i c a)) s = .next { s with
          fobs :=
            { slots := (s.fobs.with i { s.slotAt i with lastAccepted := some ⟨s.now, a⟩ }).slots
              session := s.fobs.session.map (fun x =>
                if x.slot = i ∧ (a = .comfortClose ∧ x.dir = .close ∨ a = .comfortOpen ∧ x.dir = .opening) then
                  { x with keepAlive := s.now + 3000 } else x) }
          ports := s.ports.set .k (answered tag .duplicate (u8 i.val ++ u24 (s.slotAt i).counter ++ [0])) }) ∧
      ((ahead c (s.slotAt i).counter = 0 ∧ ¬ (s.slotAt i).repeatedBy s.now a ∨ 32768 < ahead c (s.slotAt i).counter ∨
          256 < ahead c (s.slotAt i).counter ∧ ¬ (s.slotAt i).confirmedBy c ∧ 8 ≤ (s.slotAt i).streak) →
        exec (.credential .k tag (credentialBytes i c a)) s = .next { s with
          fobs := s.fobs.with i { s.slotAt i with streak := min 15 ((s.slotAt i).streak + 1) }
          ports := s.ports.set .k (answered tag .stale (u8 i.val ++ u24 (s.slotAt i).counter ++ [0])) }) ∧
      (256 < ahead c (s.slotAt i).counter → ahead c (s.slotAt i).counter ≤ 32768 → ¬ (s.slotAt i).confirmedBy c →
        (s.slotAt i).streak < 8 →
        exec (.credential .k tag (credentialBytes i c a)) s = .next { s with
          fobs := s.fobs.with i
            { s.slotAt i with streak := (s.slotAt i).streak + 1, candidate := some ⟨c, s.now + 100000⟩ }
          ports := s.ports.set .k (answered tag .resyncNeeded (u8 i.val ++ u24 (s.slotAt i).counter ++ [0])) }) ∧
      ((s.slotAt i).accepts c → ¬ a.admitted (s.slotAt i).rights →
        exec (.credential .k tag (credentialBytes i c a)) s = .next { s with
          fobs := s.fobs.with i ((s.slotAt i).advanced c (some ⟨s.now, a⟩))
          notices := counterNamed s.notices i
          ports := s.ports.set .k (answered tag .noRight (u8 i.val ++ u24 c ++ [0])) }))

/-- R64, R65, R33 to R35: an accepted LOCK, UNLOCK or TAILGATE with its right, on an empty queue with the crash latch clear
and FD not AJAR. A LOCK within 3 s of the slot's last LOCK becomes SUPERLOCK_ALL; an UNLOCK becomes UNLOCK_DRIVER under
the selective policy; TAILGATE hands over UNLOCK_TAILGATE and the paired RELEASE_TAILGATE. -/
def Obligations.CredentialHandsOver : Prop :=
  ∀ (s : State) (tag : Byte) (i : Fin 8) (c : Nat), s.canTake .k → c < 16777216 → (s.slotAt i).status = .active →
    (s.slotAt i).accepts c → (s.slotAt i).rights.doors = true → (s.slotAt i).rights.tailgate = true →
    s.seq.queue = [] → s.crash.latch = false → s.closures.fd.latch ≠ .ajar →
    (∀ row ∈ [(FobAction.lock, RepeatAction.lock), (.unlock, .unlock)],
      exec (.credential .k tag (credentialBytes i c row.1)) s = .next { s with
        fobs := s.fobs.with i ((s.slotAt i).advanced c (some ⟨s.now, row.1⟩))
        notices := counterNamed s.notices i
        seq := { s.seq with
          queue := [{ kind :=
                        if row.1 = .lock then
                          if s.repeatMatches (.slot i) .lock then .superlockAll else .lockAll
                        else if s.config.selectiveUnlock = true ∧ s.mode ≠ .allOpen ∧
                            s.repeatMatches (.slot i) .unlock = false then .unlockDriver
                          else .unlockAll
                      source := .kFob i, port := some .k, tag := some tag, paired := false, running := false }]
          repeatRec := some { origin := .slot i, action := row.2, time := s.now } }
        ports := s.ports.set .k (answered tag .ok (u8 i.val ++ u24 c ++ [0])) }) ∧
    exec (.credential .k tag (credentialBytes i c .tailgate)) s = .next { s with
      fobs := s.fobs.with i ((s.slotAt i).advanced c (some ⟨s.now, .tailgate⟩))
      notices := counterNamed s.notices i
      seq := { s.seq with
        queue := [{ kind := .unlockTailgate, source := .kFob i, port := some .k, tag := some tag, paired := false,
                    running := false },
                  { kind := .releaseTailgate, source := .kFob i, port := some .k, tag := some tag, paired := true,
                    running := false }]
        repeatRec := some { origin := .slot i, action := .other, time := s.now } }
      ports := s.ports.set .k (answered tag .ok (u8 i.val ++ u24 c ++ [0])) }

/-- R66 to R68, with R57, R100 and R101: the comfort session. An accepted COMFORT_CLOSE or COMFORT_OPEN of the session's slot
and direction renews it and hands nothing over. Any other one is a new start: it offers LOCK_ALL or UNLOCK_ALL to the (here
empty) queue, judges the four windows whatever the sequencer answers, replaces the session, and stops the runs that another
slot's session still holds. COMFORT_STOP and the end of the keep-alive remove the session and stop the runs that its slot
holds. -/
def Obligations.ComfortSession : Prop :=
  (∀ (s : State) (tag : Byte) (i : Fin 8) (c : Nat), s.canTake .k → c < 16777216 → (s.slotAt i).status = .active →
    (s.slotAt i).accepts c → (s.slotAt i).rights.comfort = true →
    (∀ row ∈ [(FobAction.comfortClose, ComfortDir.close, Dir.up, CmdKind.lockAll, RepeatAction.lock),
        (.comfortOpen, .opening, .down, .unlockAll, .unlock)],
      (∀ x, s.fobs.session = some x → x.slot = i → x.dir = row.2.1 →
        exec (.credential .k tag (credentialBytes i c row.1)) s = .next { s with
          fobs := { slots := (s.fobs.with i ((s.slotAt i).advanced c (some ⟨s.now, row.1⟩))).slots
                    session := some ⟨i, row.2.1, s.now + 3000⟩ }
          notices := counterNamed s.notices i
          ports := s.ports.set .k (answered tag .ok (u8 i.val ++ u24 c ++ [0])) }) ∧
      ((∀ x, s.fobs.session = some x → x.slot = i → x.dir ≠ row.2.1) → s.seq.queue = [] →
        ∀ refused, refused = (if s.crash.latch then some Code.crash
          else if row.1 = .comfortClose ∧ s.closures.fd.latch = .ajar then some .ajar else none) →
        ∃ t, exec (.credential .k tag (credentialBytes i c row.1)) s = .next t ∧
          Only [.seq, .fobs, .win, .pinch, .refs, .trace, .mon, .notices, .ports] s t ∧
          t.fobs = { slots := (s.fobs.with i ((s.slotAt i).advanced c (some ⟨s.now, row.1⟩))).slots
                     session := some ⟨i, row.2.1, s.now + 3000⟩ } ∧
          t.notices.b.fobCounter = (counterNamed s.notices i).b.fobCounter ∧
          t.seq = (if refused = none then
              s.seq.took (portEntry row.2.2.2.1 (.kFob i) .k tag false) (.slot i) row.2.2.2.2 s.now
            else s.seq) ∧
          t.ports = s.ports.set .k (answered tag (refused.getD (comfortAnswer s))
            (u8 i.val ++ u24 c ++ u8 (setNumber (Window.list.map (fun w => decide (comfortByte s w = 0x00)))))) ∧
          t.win.mode = s.win.mode ∧ t.win.retained = s.win.retained ∧ t.win.rearLockout = s.win.rearLockout ∧
          ∀ w, if comfortByte s w = 0x00 then ComfortTaken s t w row.2.2.1 (.comfortK i)
            else if s.fobs.session.any (fun x => x.slot ≠ i && (s.winRec w).motion.heldRun.any (fun k =>
                k.holder = .comfortK x.slot)) = true then RunEnded s t w (s.winRec w)
            else t.winRec w = s.winRec w ∧ t.chan (.w w) = s.chan (.w w) ∧ t.refsOf w = s.refsOf w)) ∧
    (s.fobs.session = none → exec (.credential .k tag (credentialBytes i c .comfortStop)) s = .next { s with
      fobs := s.fobs.with i ((s.slotAt i).advanced c (some ⟨s.now, .comfortStop⟩)), notices := counterNamed s.notices i
      ports := s.ports.set .k (answered tag .ok (u8 i.val ++ u24 c ++ [0])) }) ∧
    (∀ x, s.fobs.session = some x →
      ∃ t, exec (.credential .k tag (credentialBytes i c .comfortStop)) s = .next t ∧ t.fobs.session = none ∧
        t.seq = s.seq ∧ (t.slotAt i) = (s.slotAt i).advanced c (some ⟨s.now, .comfortStop⟩) ∧
        (∀ w, if (s.winRec w).motion.heldRun.any (fun k => k.holder = .comfortK x.slot) = true then (t.winRec w).motion = .idle
          else t.winRec w = s.winRec w) ∧
        t.ports = s.ports.set .k (answered tag .ok (u8 i.val ++ u24 c ++ [0])))) ∧
  ∀ s : State, s.resetLine = false → ∀ x, s.fobs.session = some x →
    ∃ t, exec .keepAliveExpiry s = .next t ∧ Only [.now, .fobs, .win, .refs, .trace, .mon, .notices] s t ∧
      t.now = max s.now x.keepAlive ∧ t.fobs = { s.fobs with session := none } ∧
      ∀ w, if (s.winRec w).motion.heldRun.any (fun k => k.holder = .comfortK x.slot) = true then (t.winRec w).motion = .idle
        else t.winRec w = s.winRec w

/-- R62: whatever command is taken, but the full resets and a FOB_WRITE of port B (the row itself, or the byte or the frame
by kind byte that hands one over), a slot's counter stays or moves forward by 1 to 32,768 modulo 16,777,216. -/
def Obligations.CounterMovesForward : Prop :=
  ∀ (s : State) (x : Instr) (i : Fin 8), writesFobs s x = false → ∀ t, exec x s = .next t →
    (t.slotAt i).counter = (s.slotAt i).counter ∨
      1 ≤ ahead (t.slotAt i).counter (s.slotAt i).counter ∧ ahead (t.slotAt i).counter (s.slotAt i).counter ≤ 32768

/-! ### Touch windows and passive claims -/

/-- R61, R74: the expiry of a WAITING entry, of an EXPIRED entry and of a resync candidate, each taken no earlier than its
time, changes its own entry or slot and nothing else. -/
def Obligations.KeylessTimers : Prop :=
  ∀ (s : State) (x : TouchSource) (i : Fin 8), s.resetLine = false →
    (∀ d, s.touch.get x = .waiting d → exec (.touchWindowExpiry x) s =
      .next { s with now := max s.now (d + 4000), touch := s.touch.set x (.expired (max s.now (d + 4000))) }) ∧
    (∀ d, s.touch.get x = .expired d → exec (.touchHoldExpiry x) s =
      .next { s with now := max s.now (d + 20000), touch := s.touch.set x .idle }) ∧
    (∀ k, (s.slotAt i).candidate = some k → exec (.candidateExpiry i) s =
      .next { s with now := max s.now k.expiry, fobs := s.fobs.with i { s.slotAt i with candidate := none } })

/-- R77, R78: a claim for an IDLE or EXPIRED entry is answered NO_TOUCH or TOO_LATE and leaves every other state as it was.
A claim for a WAITING entry consumes the window whatever the later steps decide: the entry is IDLE, its timer runs no
longer, a second claim is answered NO_TOUCH and a touch opens a new window. A slot that is EMPTY, SUSPENDED or without
PASSIVE then ends the claim with the slot left whole; PASSIVE alone, whatever the other rights, passes both checks. A claim
and a timer, or a touch, are decided by the order in which they are taken. -/
def Obligations.ClaimWindow : Prop :=
  ∀ (s : State) (tag : Byte) (x : TouchSource) (i : Fin 8) (c : Nat) (z : KeyZone) (clear : Bool), s.canTake .k →
    c < 16777216 →
    (s.touch.get x = .idle → exec (.passiveClaim .k tag (claimBytes x i c z clear)) s = .next { s with
      ports := s.ports.set .k (answered tag .noTouch (claimAnswer x i (s.slotAt i).counter)) }) ∧
    (∀ d, s.touch.get x = .expired d →
      (∃ t, exec (.passiveClaim .k tag (claimBytes x i c z clear)) s = .next t ∧
        t = { s with ports := s.ports.set .k (answered tag .tooLate (claimAnswer x i (s.slotAt i).counter)) } ∧
        ∃ u, exec (.touchHoldExpiry x) t = .next u ∧ u.touch = s.touch.set x .idle) ∧
      ∃ u, exec (.touchHoldExpiry x) s = .next u ∧ u.touch = s.touch.set x .idle ∧
        exec (.passiveClaim .k tag (claimBytes x i c z clear)) u = .next { u with
          ports := u.ports.set .k (answered tag .noTouch (claimAnswer x i (s.slotAt i).counter)) }) ∧
    (∀ d, s.touch.get x = .waiting d →
      ((s.slotAt i).status = .empty → exec (.passiveClaim .k tag (claimBytes x i c z clear)) s = .next { s with
        touch := s.touch.set x .idle
        ports := s.ports.set .k (answered tag .emptySlot (claimAnswer x i (s.slotAt i).counter)) }) ∧
      ((s.slotAt i).status = .suspended → exec (.passiveClaim .k tag (claimBytes x i c z clear)) s = .next { s with
        touch := s.touch.set x .idle
        ports := s.ports.set .k (answered tag .suspended (claimAnswer x i (s.slotAt i).counter)) }) ∧
      ((s.slotAt i).status = .active → (s.slotAt i).rights.passive = false →
        exec (.passiveClaim .k tag (claimBytes x i c z clear)) s = .next { s with
          touch := s.touch.set x .idle
          ports := s.ports.set .k (answered tag .noRight (claimAnswer x i (s.slotAt i).counter)) }) ∧
      (∃ t code q, exec (.passiveClaim .k tag (claimBytes x i c z clear)) s = .next t ∧
        t.touch = s.touch.set x .idle ∧ t.ports = s.ports.set .k (answered tag code q) ∧
        ((s.slotAt i).status = .active → (s.slotAt i).rights.passive = true →
          code ∉ [Code.noTouch, .tooLate, .emptySlot, .suspended, .noRight]) ∧
        exec (.touchWindowExpiry x) t = .next t ∧
        (∃ u, exec (.responseSent .k) t = .next u ∧ ∀ (tag' : Byte) (j : Fin 8) (c' : Nat) (z' : KeyZone) (clear' : Bool),
          c' < 16777216 → exec (.passiveClaim .k tag' (claimBytes x j c' z' clear')) u = .next { u with
            ports := u.ports.set .k (answered tag' .noTouch (claimAnswer x j (u.slotAt j).counter)) }) ∧
        (touchEvent s x → s.config.passive = true →
          ∃ u e, exec (.debounceExpiry (.touch x)) t = .next u ∧ u.touch = s.touch.set x (.waiting e) ∧
            u.notices.k.handleTouch = true)) ∧
      (∃ u e, exec (.touchWindowExpiry x) s = .next u ∧ u.touch = s.touch.set x (.expired e) ∧
        exec (.passiveClaim .k tag (claimBytes x i c z clear)) u = .next { u with
          ports := u.ports.set .k (answered tag .tooLate (claimAnswer x i (s.slotAt i).counter)) }) ∧
      (touchEvent s x → ∃ u, exec (.debounceExpiry (.touch x)) s = .next u ∧ u.touch = s.touch ∧
        ∃ t, exec (.passiveClaim .k tag (claimBytes x i c z clear)) u = .next t ∧ t.touch = s.touch.set x .idle))

/-- R58, R62, R79 to R81: a claim for a WAITING entry from an ACTIVE slot with PASSIVE. A counter at distance 0 or from the
past is STALE, a far one RESYNC_NEEDED; an accepted one advances the slot with last_accepted absent and names it; then the
zone decides, and the source's command is handed over by R33, R35 and R41 (here to an empty queue, the crash latch clear,
FD not AJAR). -/
def Obligations.ClaimServed : Prop :=
  ∀ (s : State) (tag : Byte) (x : TouchSource) (i : Fin 8) (c : Nat) (z : KeyZone) (clear : Bool), s.canTake .k →
    c < 16777216 → (∃ d, s.touch.get x = .waiting d) → (s.slotAt i).status = .active →
    (s.slotAt i).rights.passive = true →
    ((ahead c (s.slotAt i).counter = 0 ∨ 32768 < ahead c (s.slotAt i).counter ∨
        256 < ahead c (s.slotAt i).counter ∧ ¬ (s.slotAt i).confirmedBy c ∧ 8 ≤ (s.slotAt i).streak) →
      exec (.passiveClaim .k tag (claimBytes x i c z clear)) s = .next { s with
        touch := s.touch.set x .idle
        fobs := s.fobs.with i { s.slotAt i with streak := min 15 ((s.slotAt i).streak + 1) }
        ports := s.ports.set .k (answered tag .stale (claimAnswer x i (s.slotAt i).counter)) }) ∧
    (256 < ahead c (s.slotAt i).counter → ahead c (s.slotAt i).counter ≤ 32768 → ¬ (s.slotAt i).confirmedBy c →
      (s.slotAt i).streak < 8 → exec (.passiveClaim .k tag (claimBytes x i c z clear)) s = .next { s with
        touch := s.touch.set x .idle
        fobs := s.fobs.with i
          { s.slotAt i with streak := (s.slotAt i).streak + 1, candidate := some ⟨c, s.now + 100000⟩ }
        ports := s.ports.set .k (answered tag .resyncNeeded (claimAnswer x i (s.slotAt i).counter)) }) ∧
    ((s.slotAt i).accepts c →
      (z = .none ∨ z = .inside ∨ (x = .fdLock ∨ x = .fpLock) ∧ clear = false →
        exec (.passiveClaim .k tag (claimBytes x i c z clear)) s = .next { s with
          touch := s.touch.set x .idle
          fobs := s.fobs.with i ((s.slotAt i).advanced c none)
          notices := counterNamed s.notices i
          ports := s.ports.set .k (answered tag (if z = .none then .noKey else .keyInside) (claimAnswer x i c)) }) ∧
      (z = .outsideNear → clear = true ∨ x = .fdOpen ∨ x = .fpOpen ∨ x = .tgButton → s.seq.queue = [] →
        s.crash.latch = false → s.closures.fd.latch ≠ .ajar →
        exec (.passiveClaim .k tag (claimBytes x i c z clear)) s = .next { s with
          touch := s.touch.set x .idle
          fobs := s.fobs.with i ((s.slotAt i).advanced c none)
          notices := counterNamed s.notices i
          seq := match x with
            | .fdOpen =>
              s.seq.took (portEntry
                (if s.config.selectiveUnlock = true ∧ s.mode ≠ .allOpen ∧ s.repeatMatches (.slot i) .unlock = false then
                  .unlockDriver else .unlockAll) (.kPassive i) .k tag false) (.slot i) .unlock s.now
            | .fpOpen => s.seq.took (portEntry .unlockAll (.kPassive i) .k tag false) (.slot i) .unlock s.now
            | .fdLock | .fpLock => s.seq.took (portEntry .lockAll (.kPassive i) .k tag false) (.slot i) .lock s.now
            | .tgButton =>
              { s.seq with
                queue := [portEntry .unlockTailgate (.kPassive i) .k tag false,
                          portEntry .releaseTailgate (.kPassive i) .k tag true]
                repeatRec := some { origin := .slot i, action := .other, time := s.now } }
          ports := s.ports.set .k (answered tag .ok (claimAnswer x i c)) }))

/-- R71, R73, R75, R82: a touch line settles. A touch opens the window of a source that is not WAITING while the passive
policy is on, and raises HANDLE_TOUCH to port K; a press of the tailgate button with TG standing UNLOCKED hands over a
RELEASE_TAILGATE instead. A first level, a release and a glitch give no event. -/
def Obligations.DebouncedTouch : Prop :=
  ∀ (s : State) (x : TouchSource), s.resetLine = false → ∀ d, (s.sensing.touch.get x).timer = some d →
    ∃ t, exec (.debounceExpiry (.touch x)) s = .next t ∧ t.now = max s.now d ∧
      t.sensing = { s.sensing with
        touch := s.sensing.touch.set x { s.sensing.touch.get x with level := some (s.sensing.touch.get x).raw, timer := none } } ∧
      ((s.sensing.touch.get x).level ≠ some false ∨ (s.sensing.touch.get x).raw = false →
        Only [.now, .sensing] s t) ∧
      ((s.sensing.touch.get x).level = some false → (s.sensing.touch.get x).raw = true →
        ((x ≠ .tgButton ∨ s.closures.tg.lockGoal ≠ .unlocked ∨ s.closures.tg.lockSensed ≠ .unlocked) →
          (s.config.passive = true → (∀ e, s.touch.get x ≠ .waiting e) →
            Only [.now, .sensing, .touch, .notices] s t ∧ t.touch = s.touch.set x (.waiting (max s.now d)) ∧
            t.notices = { s.notices with k := { s.notices.k with handleTouch := true } }) ∧
          (s.config.passive = false ∨ (∃ e, s.touch.get x = .waiting e) → Only [.now, .sensing] s t)) ∧
        (x = .tgButton → s.closures.tg.lockGoal = .unlocked → s.closures.tg.lockSensed = .unlocked →
          (s.crash.latch = true ∨ s.closures.tg.latch = .ajar → Only [.now, .sensing] s t) ∧
          (s.crash.latch = false → s.closures.tg.latch ≠ .ajar → s.seq.queue = [] →
            Only [.now, .sensing, .seq] s t ∧
            t.seq = s.seq.took (innerEntry .releaseTailgate .tgButton) .other .other (max s.now d))))

/-! ### Closure lines -/

/-- R5, R6, R18: a raw change of a line sets its raw level and restarts its 20 ms stability timer (none runs while the
reset line is asserted); the debounced level stays; a level that the line already has changes nothing. -/
def Obligations.RawLineChange : Prop :=
  ∀ (s : State) (c : Closure) (a : Side) (r : Rear) (x : TouchSource) (o : OtherSide) (lv : LatchLevel) (ch : ChildState)
    (v : Bool) (pos : SwitchPos) (timer : Option Nat), timer = (if s.resetLine then none else some (s.now + 200)) →
    exec (.rawLineChange (.latch c lv)) s = .next { s with sensing := { s.sensing with
      latch := s.sensing.latch.set c (if (s.sensing.latch.get c).raw = lv then s.sensing.latch.get c
        else { s.sensing.latch.get c with raw := lv, timer }) } } ∧
    exec (.rawLineChange (.lockLine a v)) s = .next { s with sensing := { s.sensing with
      feedback := s.sensing.feedback.set (sideClosure a)
        (if (s.sensing.feedback.get (sideClosure a)).raw.lock = v then s.sensing.feedback.get (sideClosure a)
        else { s.sensing.feedback.get (sideClosure a) with
                 raw := { (s.sensing.feedback.get (sideClosure a)).raw with lock := v }, timer }) } } ∧
    exec (.rawLineChange (.superLine a v)) s = .next { s with sensing := { s.sensing with
      feedback := s.sensing.feedback.set (sideClosure a)
        (if (s.sensing.feedback.get (sideClosure a)).raw.sup = v then s.sensing.feedback.get (sideClosure a)
        else { s.sensing.feedback.get (sideClosure a) with
                 raw := { (s.sensing.feedback.get (sideClosure a)).raw with sup := v }, timer }) } } ∧
    exec (.rawLineChange (.tgFeedback v)) s = .next { s with sensing := { s.sensing with
      feedback := s.sensing.feedback.set .tg
        (if s.sensing.feedback.tg.raw.lock = v then s.sensing.feedback.tg
        else { s.sensing.feedback.tg with raw := { s.sensing.feedback.tg.raw with lock := v }, timer }) } } ∧
    exec (.rawLineChange (.child r ch)) s = .next { s with sensing := { s.sensing with
      child := s.sensing.child.set r (if (s.sensing.child.get r).raw = ch then s.sensing.child.get r
        else { s.sensing.child.get r with raw := ch, timer }) } } ∧
    exec (.rawLineChange (.handle a v)) s = .next { s with sensing := { s.sensing with
      handle := s.sensing.handle.set a (if (s.sensing.handle.get a).raw = v then s.sensing.handle.get a
        else { s.sensing.handle.get a with raw := v, timer }) } } ∧
    exec (.rawLineChange (.keyLock v)) s = .next { s with sensing := { s.sensing with
      keyLock := if s.sensing.keyLock.raw = v then s.sensing.keyLock else { s.sensing.keyLock with raw := v, timer } } } ∧
    exec (.rawLineChange (.keyUnlock v)) s = .next { s with sensing := { s.sensing with
      keyUnlock := if s.sensing.keyUnlock.raw = v then s.sensing.keyUnlock
        else { s.sensing.keyUnlock with raw := v, timer } } } ∧
    exec (.rawLineChange (.touch x v)) s = .next { s with sensing := { s.sensing with
      touch := s.sensing.touch.set x (if (s.sensing.touch.get x).raw = v then s.sensing.touch.get x
        else { s.sensing.touch.get x with raw := v, timer }) } } ∧
    exec (.rawLineChange (.localSwitch o pos)) s = .next { s with sensing := { s.sensing with
      switch := s.sensing.switch.set o (if (s.sensing.switch.get o).raw = pos then s.sensing.switch.get o
        else { s.sensing.switch.get o with raw := pos, timer }) } }

/-- R7, R8, R37: the stability timer of a latch line runs out. The first reading fills latch and is not handed on; a
change to AJAR cancels the relock timer, inserts a LOCK_ALL in mode SUPERLOCKED, and ends retained power on FD or FP; a
change to CLOSED is not handed on; a glitch does nothing. -/
def Obligations.LatchReading : Prop :=
  ∀ (s : State) (c : Closure), s.resetLine = false → ∀ d, (s.sensing.latch.get c).timer = some d →
    ∃ t, exec (.debounceExpiry (.latch c)) s = .next t ∧ t.now = max s.now d ∧
      t.sensing = { s.sensing with
        latch := s.sensing.latch.set c { s.sensing.latch.get c with read := true, timer := none } } ∧
      t.closures = s.closures.set c { s.closure c with
        latch := match (s.sensing.latch.get c).raw with | .closed => .closed | .ajar => .ajar } ∧
      ((s.sensing.latch.get c).read = false →
        Only [.now, .sensing, .closures, .notices] s t ∧ lockNamed t.notices c) ∧
      ((s.sensing.latch.get c).read = true → (s.closure c).latch = latchOf (s.sensing.latch.get c).raw →
        Only [.now, .sensing] s t) ∧
      ((s.sensing.latch.get c).read = true → (s.closure c).latch ≠ .closed → (s.sensing.latch.get c).raw = .closed →
        Only [.now, .sensing, .closures, .notices] s t ∧ lockNamed t.notices c) ∧
      ((s.sensing.latch.get c).read = true → (s.closure c).latch ≠ .ajar → (s.sensing.latch.get c).raw = .ajar →
        lockNamed t.notices c ∧ t.seq.relock = none ∧
        (s.mode ≠ .superlocked → t.seq = { s.seq with relock := none }) ∧
        (s.mode = .superlocked → s.seq.queue = [] →
          t.seq = ({ s.seq with relock := none } : Sequencer).took (innerEntry .lockAll .relock) .other .lock
            (max s.now d)) ∧
        (c = .fd ∨ c = .fp → t.win.retained = none) ∧
        (c ≠ .fd → c ≠ .fp → Only [.now, .sensing, .closures, .seq, .notices] s t))

/-- R6: how the LOCK and SUPER pair of a side closure is decoded, and the one line of TG. R6, R7, R9 to R11: the stability
timer of a lock feedback runs out. A first reading on a closure with no op is adopted (latch clear); a reading while
an op is present moves lock_sensed alone; a later reading with no op is a knob event, adopted with source KNOB while
the crash latch is clear and compared with UNLOCKED while it is set. -/
def Obligations.LockFeedback : Prop :=
  (∀ (c : Side) (sup : Bool),
    feedbackReading (sideClosure c) ⟨false, false⟩ = .unlocked ∧ feedbackReading (sideClosure c) ⟨true, false⟩ = .locked ∧
    feedbackReading (sideClosure c) ⟨true, true⟩ = .superlocked ∧
    feedbackReading (sideClosure c) ⟨false, true⟩ = .invalid ∧
    feedbackReading .tg ⟨false, sup⟩ = .unlocked ∧ feedbackReading .tg ⟨true, sup⟩ = .locked) ∧
  ∀ (s : State) (c : Closure), s.resetLine = false → ∀ d, (s.sensing.feedback.get c).timer = some d →
    ∃ t, exec (.debounceExpiry (.feedback c)) s = .next t ∧ t.now = max s.now d ∧
      Only [.now, .sensing, .closures, .notices] s t ∧ (∀ c', c' ≠ c → t.closure c' = s.closure c') ∧
      t.sensing = { s.sensing with
        feedback := s.sensing.feedback.set c { s.sensing.feedback.get c with read := true, timer := none } } ∧
      (t.closure c).lockSensed = feedbackReading c (s.sensing.feedback.get c).raw ∧
      (t.closure c).latch = (s.closure c).latch ∧
      ((s.sensing.feedback.get c).read = false → lockNamed t.notices c ∧
        (s.opAt (.l c) = none → s.crash.latch = false → (t.closure c).lastSource = (s.closure c).lastSource ∧
          (t.closure c).lockGoal =
            (match (t.closure c).lockSensed with
              | .unlocked | .invalid => .unlocked
              | .locked => .locked
              | .superlocked => .superlocked) ∧
          (t.closure c).confirmed = decide ((t.closure c).lockSensed ≠ .invalid)) ∧
        (s.opAt (.l c) ≠ none → t.closure c = { s.closure c with lockSensed := (t.closure c).lockSensed })) ∧
      ((s.sensing.feedback.get c).read = true → (s.closure c).lockSensed = (t.closure c).lockSensed →
        t.closures = s.closures ∧ t.notices = s.notices) ∧
      ((s.sensing.feedback.get c).read = true → s.opAt (.l c) ≠ none →
        t.closure c = { s.closure c with lockSensed := (t.closure c).lockSensed } ∧ t.notices = s.notices) ∧
      ((s.sensing.feedback.get c).read = true → (s.closure c).lockSensed ≠ (t.closure c).lockSensed →
        s.opAt (.l c) = none →
        (s.crash.latch = true → (t.closure c).lockGoal = (s.closure c).lockGoal ∧
          (t.closure c).lastSource = (s.closure c).lastSource ∧
          (t.closure c).confirmed = decide ((t.closure c).lockSensed = .unlocked)) ∧
        (s.crash.latch = false →
          (t.closure c).lockGoal =
            (match (t.closure c).lockSensed with
              | .unlocked => .unlocked
              | .locked => .locked
              | .superlocked => .superlocked
              | .invalid => (s.closure c).lockGoal) ∧
          (t.closure c).confirmed = decide ((t.closure c).lockSensed ≠ .invalid) ∧
          (t.closure c).lastSource =
            (if (t.closure c).lockSensed = .invalid then (s.closure c).lastSource else .knob))) ∧
      ((t.closure c).confirmed ≠ (s.closure c).confirmed ∨ (t.closure c).lockGoal ≠ (s.closure c).lockGoal ∨
        (t.closure c).lastSource ≠ (s.closure c).lastSource → lockNamed t.notices c)

/-- R7, R9, R12: the stability timer of a child feedback line runs out. The first reading with no child_op is adopted; a
later change keeps child_goal and, with no child_op, confirms or unconfirms; while a child_op is present the change is its. -/
def Obligations.ChildFeedback : Prop :=
  ∀ (s : State) (r : Rear), s.resetLine = false → ∀ d, (s.sensing.child.get r).timer = some d →
    ∃ t, exec (.debounceExpiry (.child r)) s = .next t ∧ t.now = max s.now d ∧
      Only [.now, .sensing, .childs, .notices] s t ∧ (∀ r', r' ≠ r → t.childOf r' = s.childOf r') ∧
      t.sensing = { s.sensing with
        child := s.sensing.child.set r { s.sensing.child.get r with read := true, timer := none } } ∧
      (t.childOf r).sensed = (if (s.sensing.child.get r).read = true ∧ (s.sensing.child.get r).raw = (s.childOf r).sensed
        then (s.childOf r).sensed else (s.sensing.child.get r).raw) ∧
      ((s.sensing.child.get r).read = false → childNamed t.notices r ∧
        (s.opAt (.c r) = none → t.childOf r =
          { goal := (s.sensing.child.get r).raw, sensed := (s.sensing.child.get r).raw, confirmed := true })) ∧
      ((s.sensing.child.get r).read = true → (t.childOf r).goal = (s.childOf r).goal) ∧
      ((s.sensing.child.get r).read = true → (s.sensing.child.get r).raw ≠ (s.childOf r).sensed →
        s.opAt (.c r) = none →
        (t.childOf r).confirmed = decide ((s.sensing.child.get r).raw = (s.childOf r).goal) ∧
        ((t.childOf r).confirmed ≠ (s.childOf r).confirmed → childNamed t.notices r)) ∧
      (s.opAt (.c r) ≠ none → (t.childOf r).goal = (s.childOf r).goal ∧
        (t.childOf r).confirmed = (s.childOf r).confirmed)

/-- R5, R13: an inner handle line settles. A pull on a SUPERLOCKED closure, or on a rear closure whose child_goal is
ENGAGED, is ignored, as is one where everything it would unlock stands UNLOCKED and confirmed; otherwise FD queues
UNLOCK_ALL and the others UNLOCK_ONE, which the crash latch refuses. -/
def Obligations.HandlePull : Prop :=
  ∀ (s : State) (a : Side), s.resetLine = false → ∀ d, (s.sensing.handle.get a).timer = some d →
    ∃ t, exec (.debounceExpiry (.handle a)) s = .next t ∧ t.now = max s.now d ∧
      t.sensing = { s.sensing with
        handle := s.sensing.handle.set a { s.sensing.handle.get a with level := some (s.sensing.handle.get a).raw, timer := none } } ∧
      ((s.sensing.handle.get a).level ≠ some false ∨ (s.sensing.handle.get a).raw = false ∨
        (s.closure (sideClosure a)).lockSensed = .superlocked ∨ a = .rd ∧ s.childs.rd.goal = .engaged ∨
        a = .rp ∧ s.childs.rp.goal = .engaged ∨ s.crash.latch = true → Only [.now, .sensing] s t) ∧
      (a ≠ .fd → (s.closure (sideClosure a)).lockGoal = .unlocked → (s.closure (sideClosure a)).confirmed = true →
        Only [.now, .sensing] s t) ∧
      (a = .fd → (∀ c, (s.closure c).lockGoal = .unlocked ∧ (s.closure c).confirmed = true) →
        Only [.now, .sensing] s t) ∧
      ((s.sensing.handle.get a).level = some false → (s.sensing.handle.get a).raw = true →
        (s.closure (sideClosure a)).lockSensed ≠ .superlocked → (a = .rd → s.childs.rd.goal ≠ .engaged) →
        (a = .rp → s.childs.rp.goal ≠ .engaged) → s.crash.latch = false → s.seq.queue = [] →
        Only [.now, .sensing, .seq] s t ∧
        (a = .fd → (∃ c, (s.closure c).lockGoal ≠ .unlocked ∨ (s.closure c).confirmed = false) →
          t.seq = s.seq.took (innerEntry .unlockAll .innerHandle) .other .unlock (max s.now d)) ∧
        (∀ row ∈ [(Side.fp, OtherSide.fp), (.rd, .rd), (.rp, .rp)], a = row.1 →
          (s.closure (sideClosure a)).lockGoal ≠ .unlocked ∨ (s.closure (sideClosure a)).confirmed = false →
          t.seq = s.seq.took (innerEntry (.unlockOne row.2) .innerHandle) .other .unlock (max s.now d)))

/-- R5, R14, R34: the key contacts settle. A closing while the other contact stands closed is ignored; KEY_LOCK gives
LOCK_ALL, or SUPERLOCK_ALL within 3 s of a recorded key lock, refused while FD is AJAR; KEY_UNLOCK gives UNLOCK_ALL; the
crash latch refuses both. -/
def Obligations.KeyContacts : Prop :=
  ∀ s : State, s.resetLine = false →
    (∀ d, s.sensing.keyLock.timer = some d →
      ∃ t, exec (.debounceExpiry .keyLock) s = .next t ∧ t.now = max s.now d ∧
        t.sensing = { s.sensing with
          keyLock := { s.sensing.keyLock with level := some s.sensing.keyLock.raw, timer := none } } ∧
        (s.sensing.keyLock.level ≠ some false ∨ s.sensing.keyLock.raw = false ∨
          s.sensing.keyUnlock.level = some true ∨ s.crash.latch = true ∨ s.closures.fd.latch = .ajar →
          Only [.now, .sensing] s t) ∧
        (s.sensing.keyLock.level = some false → s.sensing.keyLock.raw = true → s.sensing.keyUnlock.level ≠ some true →
          s.crash.latch = false → s.closures.fd.latch ≠ .ajar → s.seq.queue = [] →
          Only [.now, .sensing, .seq] s t ∧
          t.seq = s.seq.took (innerEntry
            (if ∃ r, s.seq.repeatRec = some r ∧ r.origin = .key ∧ r.action = .lock ∧ max s.now d ≤ r.time + 30000 then
              .superlockAll else .lockAll) .key) .key .lock (max s.now d))) ∧
    (∀ d, s.sensing.keyUnlock.timer = some d →
      ∃ t, exec (.debounceExpiry .keyUnlock) s = .next t ∧ t.now = max s.now d ∧
        t.sensing = { s.sensing with
          keyUnlock := { s.sensing.keyUnlock with level := some s.sensing.keyUnlock.raw, timer := none } } ∧
        (s.sensing.keyUnlock.level ≠ some false ∨ s.sensing.keyUnlock.raw = false ∨
          s.sensing.keyLock.level = some true ∨ s.crash.latch = true → Only [.now, .sensing] s t) ∧
        (s.sensing.keyUnlock.level = some false → s.sensing.keyUnlock.raw = true →
          s.sensing.keyLock.level ≠ some true → s.crash.latch = false → s.seq.queue = [] →
          Only [.now, .sensing, .seq] s t ∧
          t.seq = s.seq.took (innerEntry .unlockAll .key) .key .unlock (max s.now d)))


/-! ### Lock sequencer -/

/-- R20 to R23, R40: what a LOCK of port B, a CENTRAL_TOGGLE and a CHILD_SET do on an empty queue: the refusals of the
acceptance checks with their codes, changing nothing else, and the PENDING entry and repeat record of an accepted command.
CENTRAL_TOGGLE is turned by the mode; port B's lock commands pass with FD AJAR, and CHILD_SET passes the crash latch. -/
def Obligations.LockRequests : Prop :=
  (∀ (s : State) (tag : Byte), s.canTake .b → s.seq.queue = [] →
    ∀ row ∈ [((0 : Byte), CmdKind.lockAll, RepeatAction.lock), (1, .superlockAll, .lock), (2, .unlockAll, .unlock),
        (3, .unlockDriver, .unlock), (4, .unlockTailgate, .unlock), (5, .releaseTailgate, .other)],
      exec (.lock .b tag [row.1]) s = .next
        (if s.crash.latch = true then { s with ports := s.ports.set .b (answered tag .crash []) }
        else if row.1 = 5 ∧ (s.closures.tg.lockGoal ≠ .unlocked ∨ s.closures.tg.lockSensed ≠ .unlocked) then
          { s with ports := s.ports.set .b (answered tag .tgLocked []) }
        else if row.1 = 5 ∧ s.closures.tg.latch = .ajar then { s with ports := s.ports.set .b (answered tag .ajar []) }
        else { s with seq := s.seq.took (portEntry row.2.1 .b .b tag false) .other row.2.2 s.now
                      ports := s.ports.set .b (answered tag .ok []) })) ∧
  (∀ (s : State) (tag : Byte), s.canTake .d → s.seq.queue = [] →
    exec (.centralToggle .d tag []) s = .next
      (if s.mode = .superlocked then { s with ports := s.ports.set .d (answered tag .superlocked []) }
      else if s.crash.latch = true then { s with ports := s.ports.set .d (answered tag .crash []) }
      else if s.mode = .locked then
        { s with seq := s.seq.took (portEntry .unlockAll .dButton .d tag false) .other .unlock s.now
                 ports := s.ports.set .d (answered tag .ok []) }
      else if s.closures.fd.latch = .ajar then { s with ports := s.ports.set .d (answered tag .ajar []) }
      else { s with seq := s.seq.took (portEntry .lockAll .dButton .d tag false) .other .lock s.now
                    ports := s.ports.set .d (answered tag .ok []) })) ∧
  ∀ (s : State) (tag : Byte), ∀ x ∈ [(Port.b, CmdSource.b), (.d, .dButton)], s.canTake x.1 → s.seq.queue = [] →
    ∀ row ∈ [([(0 : Byte), 0], Rear.rd, ChildState.engaged), ([0, 1], .rd, .released), ([1, 0], .rp, .engaged),
        ([1, 1], .rp, .released)],
      exec (.childSet x.1 tag row.1) s = .next { s with
        seq := { s.seq with queue := [portEntry (.childSet row.2.1 row.2.2) x.2 x.1 tag false] }
        ports := s.ports.set x.1 (answered tag .ok []) }

/-- R23: a LOCK_ALL or an UNLOCK_ALL of port B offered to any queue. Without an opposite PENDING entry it is merged into an
identical newest PENDING entry, refused with BUSY at 4 entries, or added at the tail; with one, the opposite PENDING entries
leave, their ports get COMMAND_CANCELLED, the RUNNING head stays, and the rest keeps its order. -/
def Obligations.QueuePlacement : Prop :=
  ∀ (s : State) (tag : Byte), s.canTake .b → s.crash.latch = false → LockLaw s →
    ∀ row ∈ [((0 : Byte), CmdKind.lockAll, RepeatAction.lock, CmdClass.unlock), (2, .unlockAll, .unlock, .lock)],
      ((∀ e ∈ s.seq.queue, e.running = false → e.kind.cls ≠ row.2.2.2) →
        exec (.lock .b tag [row.1]) s = .next
          (if s.seq.queue.getLast?.any (fun e => !e.running && e.kind = row.2.1) = true then
            { s with seq := { s.seq with repeatRec := some { origin := .other, action := row.2.2.1, time := s.now } }
                     ports := s.ports.set .b (answered tag .merged []) }
          else if s.seq.queue.length = 4 then { s with ports := s.ports.set .b (answered tag .busy []) }
          else { s with
            seq := { s.seq with queue := s.seq.queue ++ [portEntry row.2.1 .b .b tag false]
                                repeatRec := some { origin := .other, action := row.2.2.1, time := s.now } }
            ports := s.ports.set .b (answered tag .ok []) })) ∧
      ((∃ e ∈ s.seq.queue, e.running = false ∧ e.kind.cls = row.2.2.2) →
        ∃ t, exec (.lock .b tag [row.1]) s = .next t ∧ Only [.seq, .notices, .ports] s t ∧
          t.seq = { s.seq with queue := t.seq.queue
                               repeatRec := some { origin := .other, action := row.2.2.1, time := s.now } } ∧
          (∀ e ∈ t.seq.queue, e.running = false → e.kind.cls ≠ row.2.2.2) ∧
          QueueLaw t.seq.queue ∧ (∀ e ∈ s.seq.queue, e.running = true → e ∈ t.seq.queue) ∧
          (∀ e ∈ s.seq.queue, e.running = false → e.kind.cls ≠ row.2.2.2 → ∃ f ∈ t.seq.queue, f.kind = e.kind) ∧
          (∀ e ∈ s.seq.queue, e.running = false → e.kind.cls = row.2.2.2 → ∀ p, e.port = some p →
            ((t.notices.get p).commandCancelled.map (fun x => x.latest.any (· = (e.tag.getD 0, e.kind)))) = some true) ∧
          (QueueLaw (s.seq.queue.filter (fun e => e.running || e.kind.cls ≠ row.2.2.2)) →
            let rest := s.seq.queue.filter (fun e => e.running || e.kind.cls ≠ row.2.2.2)
            let same := rest.getLast?.any (fun e => !e.running && e.kind = row.2.1)
            t.seq.queue = (if same then rest else rest ++ [portEntry row.2.1 .b .b tag false]) ∧
            t.ports = s.ports.set .b (answered tag (if same then .merged else .ok) [])))

/-- R20, R24, R36, R38 to R41: COMMAND_START. The head stays PENDING while the temperature is HOT or a crash operation is in
flight. A lock or unlock command writes its goals with its source, creates the operations that are needed, finishes at once
when none is, and cancels or arms the relock timer; a SUPERLOCK_ALL whose conditions fail runs as LOCK_ALL. A
RELEASE_TAILGATE is judged again; a CHILD_SET writes child_goal. -/
def Obligations.CommandStart : Prop :=
  (∀ row ∈ [(CmdKind.lockAll, [some LockPos.locked, some .locked, some .locked, some .locked, some .locked]),
      (.superlockAll, [some .superlocked, some .superlocked, some .superlocked, some .superlocked, some .locked]),
      (.unlockAll, [some .unlocked, some .unlocked, some .unlocked, some .unlocked, some .unlocked]),
      (.unlockDriver, [some .unlocked, none, none, none, none]), (.unlockOne .fp, [none, some .unlocked, none, none, none]),
      (.unlockOne .rd, [none, none, some .unlocked, none, none]), (.unlockOne .rp, [none, none, none, some .unlocked, none]),
      (.unlockTailgate, [none, none, none, none, some .unlocked])],
    Closure.list.map (row.1 : CmdKind).goal = row.2) ∧
  (∀ s : State, (∀ e, s.seq.queue.head? = some e → e.running = true) ∨ s.mon.temp = .hot ∨
      (∃ c, (s.opAt (.l c)).any (·.crash) = true) → exec .commandStart s = .next s) ∧
  ∀ s : State, s.resetLine = false → s.mon.temp ≠ .hot → (∀ a, s.opAt a = none) →
    ∀ e, s.seq.queue.head? = some e → e.running = false →
    (e.kind.lockClass = true → e.kind ≠ .releaseTailgate → e.source ≠ .tgButton →
      ∀ why, why = (if e.kind = .superlockAll then
          if ∃ c ∈ Closure.list, (s.closure c).latch ≠ .closed then some SuperlockReason.latch
          else if s.win.mode ≠ .parked then some .notParked
          else if ∃ a ∈ Side.list, (s.chan (.act (.l (sideClosure a)))).withdrawn = true then some .withdrawn else none
        else none) →
      ∀ k, k = (if why = none then e.kind else .lockAll) →
      ∃ t, exec .commandStart s = .next t ∧ Only [.closures, .seq, .notices] s t ∧
        (∀ c, (t.closure c).latch = (s.closure c).latch ∧ (t.closure c).lockSensed = (s.closure c).lockSensed) ∧
        (∀ c, ∀ g, k.goal c = some g →
          (t.closure c).lockGoal = g ∧ some (t.closure c).lastSource = e.source.last ∧
          (t.closure c).confirmed = ((s.closure c).confirmed && decide ((s.closure c).lockGoal = g)) ∧
          ((s.closure c).lockGoal ≠ g ∨ some (s.closure c).lastSource ≠ e.source.last → lockNamed t.notices c) ∧
          t.opAt (.l c) = (if (t.closure c).confirmed = false ∨ (s.closure c).lockSensed ≠ g.sensed then
              some (created (.lock g) 2) else none)) ∧
        (∀ c, k.goal c = none → t.closure c = s.closure c ∧ t.opAt (.l c) = none) ∧
        (∀ r, t.opAt (.c r) = none) ∧ t.opAt .t1 = none ∧
        t.seq = { s.seq with
          queue := if ∀ c ∈ Closure.list, t.opAt (.l c) = none then s.seq.queue.tail
            else { e with kind := k, running := true } :: s.seq.queue.tail
          ops := t.seq.ops
          relock := if (k = .unlockAll ∨ k = .unlockDriver) ∧ (e.source = .b ∨
              e.source.origin ≠ .key ∧ e.source.origin ≠ .other) ∧ s.config.relockTime ≠ 0 then some (s.now + 10000 * s.config.relockTime)
            else none } ∧
        (∀ p, (t.notices.get p).superlockRefused =
          if why ≠ none ∧ (p = .b ∨ p = .k ∧ e.port = some .k) then why else (s.notices.get p).superlockRefused)) ∧
    (e.kind = .releaseTailgate →
      (s.closures.tg.lockGoal = .unlocked ∧ s.closures.tg.lockSensed = .unlocked ∧ s.closures.tg.latch ≠ .ajar →
        exec .commandStart s = .next { s with seq := { s.seq with
          queue := { e with running := true } :: s.seq.queue.tail
          ops := s.seq.ops.set .t1 (some (created .release 0))
          relock := none } }) ∧
      (s.closures.tg.lockGoal ≠ .unlocked ∨ s.closures.tg.lockSensed ≠ .unlocked ∨ s.closures.tg.latch = .ajar →
        ∃ t, exec .commandStart s = .next t ∧ Only [.seq, .notices] s t ∧
          t.seq = { s.seq with queue := s.seq.queue.tail, relock := none } ∧
          failNamed s.notices t.notices .tg .releaseRefused e.port)) ∧
    ∀ r, ∀ st, e.kind = .childSet r st →
      ∃ t, exec .commandStart s = .next t ∧ Only [.childs, .seq, .win, .refs, .trace, .mon, .notices] s t ∧
        t.childs = s.childs.set r { s.childOf r with
          goal := st, confirmed := (s.childOf r).confirmed && decide ((s.childOf r).goal = st) } ∧
        ((s.childOf r).goal ≠ st → childNamed t.notices r) ∧
        t.seq = { s.seq with
          queue := if (t.childOf r).confirmed = true ∧ (s.childOf r).sensed = st then s.seq.queue.tail
            else { e with running := true } :: s.seq.queue.tail
          ops := if (t.childOf r).confirmed = true ∧ (s.childOf r).sensed = st then s.seq.ops
            else s.seq.ops.set (.c r) (some (created (.child st) 2)) } ∧
        (if st = .engaged ∧ s.config.childLockout = true ∧
            (s.winRec (rearWindow r)).motion.heldRun.any (·.holder = .localSw) = true then
          (t.winRec (rearWindow r)).motion = .idle else t.win = s.win ∧ t.mon = s.mon) ∧
        ∀ w, w ≠ rearWindow r → t.winRec w = s.winRec w

/-- R26 to R28, R32, R41: SLOT_GRANT. With three slots held or no operation waiting nothing happens; otherwise the first
waiting operation in channel order is checked. A withdrawn channel ends it WITHDRAWN, a heat count at the threshold in force
HOT_WITHHELD, supply CUT leaves it waiting with its slot; otherwise its pulse starts, in the direction and of the length
that R26 gives, and the heat count of an L or C channel rises by 8, to 255 at most. That the first two checks end an
operation at its grant during supply CUT too is the model's reading of R28 (log entry 15). -/
def Obligations.SlotGrant : Prop :=
  ∀ s : State, s.resetLine = false →
    (3 ≤ s.heldSlots ∨ (∀ a, (s.opAt a).any Op.waiting = false) → exec .slotGrant s = .next s) ∧
    (s.heldSlots < 3 →
      ∀ a, Actuator.list.find? (fun a => (s.opAt a).any Op.waiting) = some a → ∀ o, s.opAt a = some o →
      ∀ hot, hot = (match a with
        | .l c => decide ((if s.mon.temp = .normal then 160 else 96) ≤ s.seq.heatL.get c)
        | .c r => decide ((if s.mon.temp = .normal then 160 else 96) ≤ s.seq.heatC.get r)
        | .t1 => false) →
      ((s.chan (.act a)).withdrawn = true ∨ hot = true →
        ∃ t, exec .slotGrant s = .next t ∧ Only [.closures, .childs, .seq, .notices] s t ∧
          t.seq = { s.seq with ops := s.seq.ops.set a none, queue := queueAfterEnd s a } ∧ confirmedIs s t a false ∧
          failNamed s.notices t.notices (namedClosure a)
            (if (s.chan (.act a)).withdrawn then .withdrawn else .hotWithheld) (commandPort s)) ∧
      ((s.chan (.act a)).withdrawn = false → hot = false → s.mon.supply = .cut →
        exec .slotGrant s = .next { s with seq := { s.seq with ops := s.seq.ops.set a (some { o with slot := true }) } }) ∧
      ((s.chan (.act a)).withdrawn = false → hot = false → s.mon.supply ≠ .cut →
        ∀ dir, dir = (match a, o.goal with
          | .l .tg, .lock p => if p = .unlocked then ActDir.unlock else .lock
          | .l c, .lock p =>
            if p = .unlocked ∨ p = .locked ∧ (s.closure c).lockSensed = .superlocked then .unlock else .lock
          | _, .child .engaged => .engage
          | _, _ => .release) →
        ∀ len, len = (match a, o.goal with
          | .l .tg, _ => 150
          | .l c, g => if g = .lock .superlocked ∨ (s.closure c).lockSensed = .superlocked then 250 else 150
          | .c _, _ => 150
          | .t1, _ => 400) →
        exec .slotGrant s = .next { s with
          seq := { s.seq with
            ops := s.seq.ops.set a (some { o with
              phase := .drive, slot := true, direction := some dir, pulse := some len, timer := some (s.now + 10 * len) })
            heatL := match a with
              | .l c => s.seq.heatL.set c (heated (s.seq.heatL.get c))
              | _ => s.seq.heatL
            heatC := match a with
              | .c r => s.seq.heatC.set r (heated (s.seq.heatC.get r))
              | _ => s.seq.heatC }
          mon := { s.mon with
            chans := s.mon.chans.set (.act a) ((s.chan (.act a)).begun s.now (pulseDrive a dir)) } }))

/-- R25, R29, R31, R41: PULSE_END and SETTLE_END of an ordinary operation. The pulse's end switches the output off, gives the
slot back and starts the 30 ms SETTLE of an L or C channel; a T1 operation ends. The end of SETTLE succeeds with its closure
confirmed, waits for a slot again with one retry less, or fails with NO_MOVE; the command whose last operation ended
leaves the queue. -/
def Obligations.PulseAndSettle : Prop :=
  ∀ (s : State) (a : Actuator), s.resetLine = false → ∀ o, s.opAt a = some o → o.crash = false → ∀ d, o.timer = some d →
    (o.phase = .drive →
      (a ≠ .t1 → exec (.pulseEnd a) s = .next { s with
        now := max s.now d
        seq := { s.seq with ops := s.seq.ops.set a (some { o with
          phase := .settle, slot := false, timer := some (max s.now d + 300) }) }
        mon := { s.mon with chans := s.mon.chans.set (.act a) ((s.chan (.act a)).finished .off) } }) ∧
      (a = .t1 → exec (.pulseEnd a) s = .next { s with
        now := max s.now d
        seq := { s.seq with ops := s.seq.ops.set a none, queue := queueAfterEnd s a }
        mon := { s.mon with chans := s.mon.chans.set (.act a) ((s.chan (.act a)).finished .off) } })) ∧
    (o.phase = .settle → a ≠ .t1 →
      (sensedIs s a o.goal = true → ∃ t, exec (.settleEnd a) s = .next t ∧
        Only [.now, .closures, .childs, .seq, .notices] s t ∧ t.now = max s.now d ∧
        t.seq = { s.seq with ops := s.seq.ops.set a none, queue := queueAfterEnd s a } ∧ confirmedIs s t a true ∧
        (∀ c, a = .l c → (s.closure c).confirmed = false → lockNamed t.notices c) ∧
        (∀ r, a = .c r → (s.childOf r).confirmed = false → childNamed t.notices r)) ∧
      (sensedIs s a o.goal = false → o.retriesLeft ≠ 0 → exec (.settleEnd a) s = .next { s with
        now := max s.now d
        seq := { s.seq with ops := s.seq.ops.set a (some { o with
          phase := .waitSlot, slot := false, retriesLeft := o.retriesLeft - 1, timer := none }) } }) ∧
      (sensedIs s a o.goal = false → o.retriesLeft = 0 → ∃ t, exec (.settleEnd a) s = .next t ∧
        Only [.now, .closures, .childs, .seq, .notices] s t ∧ t.now = max s.now d ∧
        t.seq = { s.seq with ops := s.seq.ops.set a none, queue := queueAfterEnd s a } ∧ confirmedIs s t a false ∧
        failNamed s.notices t.notices (namedClosure a) .noMove (commandPort s)))

/-- R32, R39: the heat tick lowers every count above 0 by 1 and comes again 500 ms later; the relock timer's expiry offers a
LOCK_ALL with source RELOCK, dropped without a notice with FD AJAR, under the crash latch or on a full queue. -/
def Obligations.HeatAndRelock : Prop :=
  ∀ s : State, s.resetLine = false →
    exec .heatTick s = .next { s with
      now := max s.now s.seq.heatTickAt
      seq := { s.seq with
        heatL := ⟨s.seq.heatL.fd - 1, s.seq.heatL.fp - 1, s.seq.heatL.rd - 1, s.seq.heatL.rp - 1, s.seq.heatL.tg - 1⟩
        heatC := ⟨s.seq.heatC.rd - 1, s.seq.heatC.rp - 1⟩
        heatTickAt := s.seq.heatTickAt + 5000 } } ∧
    ∀ d, s.seq.relock = some d →
      (s.crash.latch = true ∨ s.closures.fd.latch = .ajar ∨
          s.seq.queue.length = 4 ∧ (∀ e ∈ s.seq.queue, e.running = false → e.kind.cls ≠ .unlock) ∧
            (∀ e, s.seq.queue.getLast? = some e → e.running = true ∨ e.kind ≠ .lockAll) →
        exec .relockTimerExpiry s = .next { s with now := max s.now d, seq := { s.seq with relock := none } }) ∧
      (s.crash.latch = false → s.closures.fd.latch ≠ .ajar → s.seq.queue.length < 4 →
        (∀ e ∈ s.seq.queue, e.running = false → e.kind.cls ≠ .unlock) →
        (∀ e, s.seq.queue.getLast? = some e → e.running = true ∨ e.kind ≠ .lockAll) →
        exec .relockTimerExpiry s = .next { s with
          now := max s.now d
          seq := { s.seq with
            queue := s.seq.queue ++ [innerEntry .lockAll .relock]
            repeatRec := some { origin := .other, action := .lock, time := max s.now d }
            relock := none } })

/-! ### Crash response -/

/-- R44, R48: the crash line detector's table (the pin alone changes while the reset line is asserted, log entry 6), and a
crash operation: its pulse's end starts the 30 ms SETTLE, whose end succeeds with the closure confirmed, drives again with
one retry less and 8 more on the heat count, or fails with NO_MOVE. -/
def Obligations.CrashDetectorAndOperations : Prop :=
  (∀ (s : State) (b : Bool), s.resetLine = false →
    exec (.crashLineChange b) s = .next { s with crash := { s.crash with
      line := b
      detector := match s.crash.detector, b with
        | .released, true => .asserting
        | .asserting, false => .released
        | .asserted, false => .releasing
        | .releasing, true => .asserted
        | x, _ => x
      timer := match s.crash.detector, b with
        | .released, true | .asserted, false => some (s.now + 20)
        | .asserting, false | .releasing, true => none
        | _, _ => s.crash.timer } }) ∧
  (∀ (s : State) (b : Bool), s.resetLine = true →
    exec (.crashLineChange b) s = .next { s with crash := { s.crash with line := b } }) ∧
  (∀ s : State, s.resetLine = false → s.crash.detector = .releasing → ∀ d, s.crash.timer = some d →
    exec .crashDetectorTimer s = .next { s with
      now := max s.now d, crash := { s.crash with detector := .released, timer := none } }) ∧
  ∀ (s : State) (c : Closure), s.resetLine = false → ∀ o, s.opAt (.l c) = some o → o.crash = true →
    ∀ d, o.timer = some d →
    (o.phase = .drive → exec (.crashPulseEnd c) s = .next { s with
      now := max s.now d
      seq := { s.seq with ops := s.seq.ops.set (.l c) (some { o with phase := .settle, timer := some (max s.now d + 300) }) }
      mon := { s.mon with chans := s.mon.chans.set (.act (.l c)) ((s.chan (.act (.l c))).finished .off) } }) ∧
    (o.phase = .settle → (s.closure c).lockSensed = .unlocked → ∃ t, exec (.crashSettleEnd c) s = .next t ∧
      Only [.now, .closures, .seq, .notices] s t ∧ t.now = max s.now d ∧
      t.seq = { s.seq with ops := s.seq.ops.set (.l c) none } ∧ confirmedIs s t (.l c) true ∧
      ((s.closure c).confirmed = false → lockNamed t.notices c)) ∧
    (o.phase = .settle → (s.closure c).lockSensed ≠ .unlocked → o.retriesLeft ≠ 0 →
      exec (.crashSettleEnd c) s = .next { s with
        now := max s.now d
        seq := { s.seq with
          ops := s.seq.ops.set (.l c) (some (crashPulse (o.retriesLeft - 1) (max s.now d)))
          heatL := s.seq.heatL.set c (heated (s.seq.heatL.get c)) }
        mon := { s.mon with
          chans := s.mon.chans.set (.act (.l c)) ((s.chan (.act (.l c))).begun (max s.now d) .onSecond) } }) ∧
    (o.phase = .settle → (s.closure c).lockSensed ≠ .unlocked → o.retriesLeft = 0 →
      ∃ t, exec (.crashSettleEnd c) s = .next t ∧ Only [.now, .closures, .seq, .notices] s t ∧ t.now = max s.now d ∧
        t.seq = { s.seq with ops := s.seq.ops.set (.l c) none } ∧ confirmedIs s t (.l c) false ∧
        failNamed s.notices t.notices c .noMove none)

/-- R44 to R52: the crash events and CRASH_CLEAR. The first event sets the latch, keeps the CHILD_SET entries alone, writes
UNLOCKED with source CRASH on the five closures, stops the windows, raises CRASH and starts five crash pulses whatever the
withdrawal, heat, temperature or supply; a second one drives anew only the closures with no op that are not sensed UNLOCKED.
CRASH_CLEAR is answered CRASH_ACTIVE unless the detector is RELEASED; it lifts the windows' cause. That the bridge of a window
that was IDLE and braking is switched off as well follows R85's table against the Note of 6.1 (log entry 17). A first event
that finds crash operations in flight, after a CRASH_CLEAR, runs R46 to R48 in full (R52). -/
def Obligations.CrashEvents : Prop :=
  (∀ s : State, s.resetLine = false → s.crash.detector = .asserting → SlotLaw s → WindowLaw s →
      ∀ d, s.crash.timer = some d →
    ∃ t, exec .crashDetectorTimer s = .next t ∧
      Only [.now, .closures, .childs, .seq, .crash, .win, .refs, .trace, .mon, .notices] s t ∧ t.now = max s.now d ∧
      t.crash = { s.crash with detector := .asserted, timer := none, latch := true } ∧
      windowsCrashed s t ∧ crashNoticed s.notices t.notices ∧
      (∀ r, t.childOf r = childAborted s r) ∧
      (∀ c, (t.closure c).latch = (s.closure c).latch ∧ (t.closure c).lockSensed = (s.closure c).lockSensed) ∧
      t.seq.repeatRec = s.seq.repeatRec ∧ t.seq.heatC = s.seq.heatC ∧
      (∀ r, t.opAt (.c r) = none ∨ t.opAt (.c r) = s.opAt (.c r) ∧ s.crash.latch = true) ∧
      (s.crash.latch = false →
        (∀ c, t.closure c = { s.closure c with
          lockGoal := .unlocked, lastSource := .crash
          confirmed := (s.closure c).confirmed && decide ((s.closure c).lockGoal = .unlocked) }) ∧
        (∀ c, (s.closure c).lockGoal ≠ .unlocked ∨ (s.closure c).lastSource ≠ .crash → lockNamed t.notices c) ∧
        (QueueLaw s.seq.queue → ∀ e ∈ t.seq.queue, e.running = false ∧ e.kind.lockClass = false) ∧
        (QueueLaw (childEntries s.seq.queue) → t.seq.queue = childEntries s.seq.queue) ∧
        (∀ e ∈ s.seq.queue, e.running = false → e.kind.lockClass = true → ∀ p, e.port = some p →
          (t.notices.get p).commandCancelled.isSome = true) ∧
        t.seq.relock = none ∧ t.opAt .t1 = none ∧ (t.chan (.act .t1)).drive = .off ∧
        (∀ c, t.opAt (.l c) = some (crashPulse 4 t.now) ∧ t.seq.heatL.get c = heated (s.seq.heatL.get c) ∧
          (t.chan (.act (.l c))).drive = .onSecond ∧
          (t.chan (.act (.l c))).withdrawn = (s.chan (.act (.l c))).withdrawn)) ∧
      (s.crash.latch = true →
        t.closures = s.closures ∧ t.seq.relock = s.seq.relock ∧
        (LockLaw s → QueueLaw (childEntries s.seq.queue) → t.seq.queue = childEntries s.seq.queue) ∧
        ∀ c, if s.opAt (.l c) = none ∧ (s.closure c).lockSensed ≠ .unlocked then
            t.opAt (.l c) = some (crashPulse 4 t.now) ∧ t.seq.heatL.get c = heated (s.seq.heatL.get c) ∧
            (t.chan (.act (.l c))).drive = .onSecond
          else t.opAt (.l c) = s.opAt (.l c) ∧ t.seq.heatL.get c = s.seq.heatL.get c ∧
            t.chan (.act (.l c)) = s.chan (.act (.l c)))) ∧
  ∀ (s : State) (tag : Byte), s.canTake .b →
    (s.crash.detector ≠ .released →
      exec (.crashClear .b tag []) s = .next { s with ports := s.ports.set .b (answered tag .crashActive []) }) ∧
    (s.crash.detector = .released →
      ∃ t, exec (.crashClear .b tag []) s = .next t ∧ Only [.crash, .win, .ports] s t ∧
        t.ports = s.ports.set .b (answered tag .ok []) ∧ t.crash = { s.crash with latch := false } ∧
        (s.crash.latch = false → t.win = s.win) ∧
        (s.crash.latch = true → (∀ w, t.winRec w = { s.winRec w with
            causes := { (s.winRec w).causes with crash := false }
            motion := if (s.winRec w).motion = .inhibited ∧ (s.winRec w).causes.thermal = false ∧
                (s.winRec w).causes.supply = false ∧ (s.winRec w).causes.fault = false then .idle
              else (s.winRec w).motion }) ∧
          t.win.mode = s.win.mode ∧ t.win.retained = s.win.retained ∧ t.win.rearLockout = s.win.rearLockout))

/-! ### Window motion -/

/-- R89, R90, R93 to R95: a WINDOW_SWITCH frame is recorded before it is judged: a NEUTRAL frame is a NEUTRAL event, and a
non-neutral one is answered CRASH, STATE, NO_POWER, OK (a repeat or a consumed press) or HELD with nothing but its record
written, or its press is taken by the table of R93. The panel refresh expiry is a NEUTRAL event. -/
def Obligations.WindowSwitch : Prop :=
  (∀ (s : State) (tag : Byte) (w : Window) (pos : SwitchPos), s.canTake .d →
    ∃ t, exec (.windowSwitch .d tag [BitVec.ofNat 8 (Window.list.idxOf w),
        BitVec.ofNat 8 ([SwitchPos.neutral, .up, .upAuto, .down, .downAuto].idxOf pos)]) s = .next t ∧
      Only [.win, .pinch, .refs, .trace, .mon, .notices, .ports] s t ∧ OnlyWindow s t w ∧
      (pos = .neutral → t.ports = s.ports.set .d (answered tag .ok []) ∧
        NeutralTaken s t w
          { s.winRec w with panelPosition := .neutral, panelTimer := none, awaitPanel := false } .panel) ∧
      (pos ≠ .neutral →
        ∀ r, r = ({ s.winRec w with panelPosition := pos, panelTime := s.now, panelTimer := some (s.now + 2000) } : WindowRec) →
        ∀ stop, stop = (if s.crash.latch = true then some Code.crash
          else if r.motion = .inhibited then some .state
          else if s.win.mode = .parked ∧ s.win.retained = none then some .noPower
          else if pos = (s.winRec w).panelPosition ∨ r.awaitPanel = true then some .ok
          else if r.motion.holder = some .reversal then some .held else none) →
        t.ports = s.ports.set .d (answered tag (stop.getD .ok) []) ∧
        (if stop = none then PressTaken s t w r .panel (s.winRec w).panelPosition pos else recordOnly s t w r))) ∧
  ∀ (s : State) (w : Window), s.resetLine = false → ∀ d, (s.winRec w).panelTimer = some d →
    ∃ t, exec (.panelRefreshExpiry w) s = .next t ∧ t.now = max s.now d ∧
      Only [.now, .win, .refs, .trace, .mon, .notices] s t ∧ OnlyWindow s t w ∧
      NeutralTaken s t w { s.winRec w with panelPosition := .neutral, panelTimer := none, awaitPanel := false } .panel

/-- R91, R92, R95: a settled local switch. The first position gives no event, NEUTRAL is a NEUTRAL event, and another change
is ignored under the crash latch, an inhibit, no window power, a lockout, the LOCAL await_neutral flag or a holder REVERSAL
or PANEL, and otherwise taken by the table of R93. REAR_LOCKOUT writes its flag; SET ends the LOCAL runs of the rear
windows. -/
def Obligations.LocalSwitchAndLockout : Prop :=
  (∀ (s : State) (o : OtherSide) (w : Window), w = otherWindow o → s.resetLine = false →
    ∀ d, (s.sensing.switch.get o).timer = some d →
    ∃ t, exec (.debounceExpiry (.localSwitch o)) s = .next t ∧ t.now = max s.now d ∧
      Only [.now, .sensing, .win, .pinch, .refs, .trace, .mon, .notices] s t ∧ OnlyWindow s t w ∧
      t.sensing = { s.sensing with
        switch := s.sensing.switch.set o { s.sensing.switch.get o with level := some (s.sensing.switch.get o).raw, timer := none } } ∧
      ((s.sensing.switch.get o).level = none ∨ (s.sensing.switch.get o).level = some (s.sensing.switch.get o).raw →
        Only [.now, .sensing] s t) ∧
      ∀ prev, (s.sensing.switch.get o).level = some prev → (s.sensing.switch.get o).raw ≠ prev →
        ((s.sensing.switch.get o).raw = .neutral → NeutralTaken s t w { s.winRec w with awaitLocal := false } .localSw) ∧
        ((s.sensing.switch.get o).raw ≠ .neutral →
          if s.crash.latch = true ∨ (s.winRec w).motion = .inhibited ∨ s.win.mode = .parked ∧ s.win.retained = none ∨
              o ≠ .fp ∧ s.win.rearLockout = true ∨ s.config.childLockout = true ∧
                (o = .rd ∧ s.childs.rd.goal = .engaged ∨ o = .rp ∧ s.childs.rp.goal = .engaged) ∨
              (s.winRec w).awaitLocal = true ∨ (s.winRec w).motion.holder = some .reversal ∨
              (s.winRec w).motion.holder = some (.of .panel) then Only [.now, .sensing] s t
          else PressTaken s t w (s.winRec w) .localSw prev (s.sensing.switch.get o).raw)) ∧
  ∀ (s : State) (tag : Byte), s.canTake .d →
    exec (.rearLockout .d tag [0]) s = .next { s with
      win := { s.win with rearLockout := false }, ports := s.ports.set .d (answered tag .ok []) } ∧
    ∃ t, exec (.rearLockout .d tag [1]) s = .next t ∧ Only [.win, .refs, .trace, .mon, .notices, .ports] s t ∧
      t.ports = s.ports.set .d (answered tag .ok []) ∧ t.win.rearLockout = true ∧ t.win.mode = s.win.mode ∧
      t.win.retained = s.win.retained ∧
      ∀ w, if (w = .wrd ∨ w = .wrp) ∧ (s.winRec w).motion.heldRun.any (·.holder = .localSw) = true then
          (t.winRec w).motion = .idle ∧ (t.chan (.w w)).drive = .brake
        else t.winRec w = s.winRec w ∧ t.chan (.w w) = s.chan (.w w)

/-- R88: VEHICLE_MODE writes the mode and starts, keeps or stops the retained-power timer; where that ends window power, and
where the timer expires while PARKED, the runs and pending runs held by PANEL and LOCAL end and no other. -/
def Obligations.VehicleModeAndRetainedPower : Prop :=
  (∀ (s : State) (tag : Byte), s.canTake .b →
    ∀ row ∈ [((0 : Byte), VehicleMode.parked), (1, .accessory), (2, .run)],
      ∃ t, exec (.vehicleMode .b tag [row.1]) s = .next t ∧ Only [.win, .refs, .trace, .mon, .notices, .ports] s t ∧
        t.ports = s.ports.set .b (answered tag .ok []) ∧ t.win.mode = row.2 ∧ t.win.rearLockout = s.win.rearLockout ∧
        t.win.retained = (match row.2, s.win.mode with
          | .parked, .run => some (s.now + 450000)
          | .parked, .parked => s.win.retained
          | _, _ => none) ∧
        (if row.2 = .parked ∧ t.win.retained = none ∧ (s.win.mode ≠ .parked ∨ s.win.retained ≠ none) then
          runsEnded s t (fun h => h = .panel || h = .localSw)
        else t.win.recs = s.win.recs ∧ t.mon = s.mon ∧ t.refs = s.refs ∧ t.trace = s.trace ∧ t.notices = s.notices)) ∧
  ∀ s : State, s.resetLine = false → ∀ d, s.win.retained = some d →
    ∃ t, exec .retainedPowerExpiry s = .next t ∧ Only [.now, .win, .refs, .trace, .mon, .notices] s t ∧
      t.now = max s.now d ∧ t.win.retained = none ∧ t.win.mode = s.win.mode ∧ t.win.rearLockout = s.win.rearLockout ∧
      (s.win.mode = .parked → runsEnded s t (fun h => h = .panel || h = .localSw)) ∧
      (s.win.mode ≠ .parked → t.win.recs = s.win.recs ∧ t.mon = s.mon)

/-- R100, R101: COMFORT CLOSE and OPEN judge each window on its own record, start, take over or turn the runs of the windows
they are STARTED on, and leave the others; the answer is the code of the first refused window and the four outcomes. STOP
ends the runs held by COMFORT_B and lists them. -/
def Obligations.Comfort : Prop :=
  (∀ (s : State) (tag : Byte), s.canTake .b → ∀ row ∈ [((0 : Byte), Dir.up), (1, .down)],
    ∃ t, exec (.comfort .b tag [row.1]) s = .next t ∧
      Only [.win, .pinch, .refs, .trace, .mon, .notices, .ports] s t ∧
      t.win.mode = s.win.mode ∧ t.win.retained = s.win.retained ∧
      t.ports = s.ports.set .b (answered tag (comfortAnswer s) (Window.list.map (comfortByte s))) ∧
      ∀ w, if comfortByte s w = 0x00 then ComfortTaken s t w row.2 .comfortB
        else t.winRec w = s.winRec w ∧ t.chan (.w w) = s.chan (.w w) ∧ t.refsOf w = s.refsOf w) ∧
  ∀ (s : State) (tag : Byte), s.canTake .b →
    ∃ t, exec (.comfort .b tag [2]) s = .next t ∧ Only [.win, .refs, .trace, .mon, .notices, .ports] s t ∧
      t.ports = s.ports.set .b (answered tag .ok (t.payloadAt .b)) ∧ (t.payloadAt .b).length = 1 ∧
      (∀ w, (byteOf (t.payloadAt .b) 0).testBit (Window.list.idxOf w) =
        (s.winRec w).motion.heldRun.any (·.holder = .comfortB)) ∧
      runsEnded s t (fun h => h = .comfortB)

/-- R87, R97, R98, R99, R118: a ripple pulse restarts the stall timer, notes the interval in RUN and REVERSE, and counts in
the direction of motion or else in last_direction. Below −64 the window loses its normalisation, which ends a run; at L or
the reverse target the motion ends; 4,095 is not passed; an unnormalised window does not count. -/
def Obligations.RipplePulse : Prop :=
  ∀ (s : State) (w : Window), s.resetLine = false →
    ∀ r, r = ({ s.winRec w with stall := some (s.now + 800), stallReached := false } : WindowRec) →
    ∀ dir, dir = (match r.motion.drivenDir with | some d => some d | none => r.lastDirection) →
    ∃ t, exec (.ripplePulse w) s = .next t ∧ Only [.win, .pinch, .refs, .trace, .mon, .notices] s t ∧
      OnlyWindow s t w ∧
      t.pinchOf w = (if r.motion.drivenDir = none then s.pinchOf w
        else { s.pinchOf w with lastInterval := min 255 (s.now - (s.pinchOf w).pulseBase), pulseBase := s.now }) ∧
      (r.normalised = false ∨ dir = none → t.winRec w = r ∧ t.mon = s.mon ∧ t.refs = s.refs) ∧
      (r.normalised = true → ∀ p, r.position = some p →
        (dir = some .up → -64 < p →
          t.winRec w = { r with position := some (p - 1) } ∧ t.mon = s.mon ∧ t.refs = s.refs ∧ t.notices = s.notices) ∧
        (dir = some .up → p ≤ -64 →
          (∀ k, r.motion = .run k →
            t.chan (.w w) = (s.chan (.w w)).finished .brake ∧ fillingStopped s t (· = w) ∧ (t.refsOf w).stroke = none) ∧
          t.winRec w = (if (s.winRec w).motion.heldRun.isSome = true ∧ (s.winRec w).motion.drivenDir ≠ none then
              { r with
                position := none, normalised := false, topCorrection := none, motion := .idle, startWindow := none
                stall := none, stallReached := false, dwell := none, brake := some (r.dwell.getD (s.now + 500)) }
            else { r with position := none, normalised := false, topCorrection := none }) ∧
          (t.refsOf w).zones = (s.refsOf w).zones ∧ (t.refsOf w).learned = (s.refsOf w).learned ∧
          eventNamed t.notices w (·.unnormalised) ∧ contextNamed t.notices w) ∧
        (dir = some .down →
          if (match r.motion with
              | .run k => decide (k.dir = .down) && decide (((keptCal s w).l : Int) ≤ min 4095 (p + 1))
              | .reverse x => decide (x ≤ min 4095 (p + 1))
              | _ => false) = true then
            t.winRec w = { bottomRecord r with
              position := some (min 4095 (p + 1)), motion := .idle, startWindow := none, stall := none
              stallReached := false, dwell := none, brake := some (r.dwell.getD (s.now + 500)) } ∧
            t.chan (.w w) = (s.chan (.w w)).finished .brake ∧ fillingStopped s t (· = w)
          else t.winRec w = { r with position := some (min 4095 (p + 1)) } ∧ t.mon = s.mon ∧ t.refs = s.refs))

/-- R97, R98, R129, R130: the stall timer that runs out inside the start window is noted for its end; after it, and at the
end of a start window in which it fell, a stall is taken and judged by the rows of R98; the end of another start window
changes nothing else. A REVERSE on a window that has lost its normalisation, for which R98 has no row, ends as an unnormalised
down-run does: the model's choice (log entry 17). -/
def Obligations.Stalls : Prop :=
  ∀ (s : State) (w : Window), s.resetLine = false →
    (∀ d, (s.winRec w).stall = some d →
      ∃ t, exec (.stallTimerExpiry w) s = .next t ∧ Only [.now, .win, .refs, .trace, .mon, .notices] s t ∧
        t.now = max s.now d ∧ OnlyWindow s t w ∧
        if (s.winRec w).startWindow.isSome then recordOnly s t w { s.winRec w with stall := none, stallReached := true }
        else StallTaken s t w { s.winRec w with stall := none }) ∧
    ∀ d, (s.winRec w).startWindow = some d →
      ∃ t, exec (.startWindowEnd w) s = .next t ∧ Only [.now, .win, .refs, .trace, .mon, .notices] s t ∧
        t.now = max s.now d ∧ OnlyWindow s t w ∧
        if (s.winRec w).stallReached = true then
          StallTaken s t w { s.winRec w with startWindow := none, stallReached := false }
        else recordOnly s t w { s.winRec w with startWindow := none, stallReached := false }

/-- R94, R96, R99, R103: the DWELL's end starts its pending run, degraded anew (a COMFORT up-run whose window may no longer
take it is dropped: the model's choice, log entry 23), or REVERSE, which keeps the run copy, the ring and the stroke and
is driven also from its target or beyond (the model's choice, log entry 27); the brake's end switches the bridge off. -/
def Obligations.DwellAndBrake : Prop :=
  ∀ (s : State) (w : Window), s.resetLine = false →
    (∀ d, (s.winRec w).dwell = some d →
      ∃ t, exec (.dwellEnd w) s = .next t ∧ Only [.now, .win, .pinch, .refs, .trace, .mon, .notices] s t ∧
        t.now = max s.now d ∧ OnlyWindow s t w ∧
        (∀ k, (s.winRec w).motion = .dwell (.run k) →
          ∀ kind, kind = (if k.kind = .auto ∧ ((s.winRec w).normalised = false ∨
              k.dir = .up ∧ ((s.winRec w).limited = true ∨ s.mon.supply = .low)) then .manual else k.kind) →
          (k.kind = .comfort → k.dir = .up → (s.winRec w).normalised = false ∨ (s.winRec w).limited = true →
            RunEnded s t w (s.winRec w)) ∧
          (k.kind ≠ .comfort ∨ k.dir = .down ∨ (s.winRec w).normalised = true ∧ (s.winRec w).limited = false →
            if startsAtBottom s w k.dir then (t.winRec w).motion = .idle ∧ (t.chan (.w w)).drive = .brake
            else RunStarted s t w (s.winRec w)
              { dir := k.dir, kind, target := runTarget k.dir (s.calOf w), holder := k.holder } ∧
              t.trace.buffers = s.trace.buffers)) ∧
        (∀ x, (s.winRec w).motion = .dwell (.reverse x) →
          t.winRec w = { s.winRec w with
            motion := .reverse x, lastDirection := some .down, startPosition := (s.winRec w).position
            startWindow := some (t.now + 1500), stall := some (t.now + 800), stallReached := false, dwell := none
            brake := none } ∧
          t.chan (.w w) = (s.chan (.w w)).begun t.now .onSecond ∧
          t.pinchOf w = { s.pinchOf w with filter := none, acc := 0, lastInterval := 0, pulseBase := t.now } ∧
          t.refs = s.refs ∧ t.trace = s.trace ∧ t.notices = s.notices)) ∧
    ∀ d, (s.winRec w).brake = some d →
      exec (.brakeEnd w) s = .next { s with
        now := max s.now d
        win := { s.win with recs := s.win.recs.set w { s.winRec w with brake := none } }
        mon := { s.mon with chans := s.mon.chans.set (.w w) ((s.chan (.w w)).finished .off) } }

/-! ### Pinch computation and samples -/

/-- R111 to R123, R127, R137, R141, R154: a sample of a driven window. The filter, the accumulator, the ring, the FILLING
record and the overcurrent count move as their stages say; an effort pinch is declared exactly by R120 and taken by R102; a
completed overcurrent count withdraws the channel. When one sample does both, the free value of log entry 1 decides whether
the pinch is taken first. A window that is not driven takes no sample. -/
def Obligations.WindowSample : Prop :=
  ∀ (s : State) (w : Window) (i v : Nat), s.resetLine = false →
    ((s.winRec w).motion.drivenDir = none → exec (.windowSample w i v) s = .next s) ∧
    ((s.winRec w).motion.drivenDir ≠ none → RangeLaw s →
      ∀ x, x = sampleOf s w i v →
      ∀ n, n = (if ocEnabled s (.w w) then countAfter (s.chan (.w w)).ocCount (1023 ≤ i) else (s.chan (.w w)).ocCount) →
      ∀ jam, jam = (ocEnabled s (.w w) && decide (5 ≤ n)) →
      ∃ t, exec (.windowSample w i v) s = .next t ∧
        Only [.freeCount, .win, .pinch, .refs, .trace, .mon, .notices] s t ∧ OnlyWindow s t w ∧
        t.pinchOf w = { s.pinchOf w with
          filter := if x.phase = .start then (s.pinchOf w).filter
            else some (filtered (s.pinchOf w).filter x.ic (keptCal s w).s)
          acc := x.acc, lastTeff := some (thresholdOf (keptCal s w).t (s.winRec w).limited) } ∧
        t.trace.rings.get w = (s.trace.rings.get w ++ [x]).drop ((s.trace.rings.get w).length - 15) ∧
        (t.refsOf w).zones = (s.refsOf w).zones ∧
        (pinchDeclared s w x = false → jam = false →
          t.freeCount = s.freeCount ∧ t.winRec w = s.winRec w ∧ buffersFed s t w x ∧
          t.trace.sequence = s.trace.sequence ∧
          t.chan (.w w) = { s.chan (.w w) with current := some (min 1023 i), ocCount := n } ∧
          (t.refsOf w).stroke = (s.refsOf w).stroke.map (fun k =>
            match zoneOf (keptCal s w).zs x.position with
            | some z =>
              if x.phase = .run ∧ (s.winRec w).motion.drivenDir = some .up then
                { k with samples := k.samples.set z.val (some ⟨x.effort, max 1 (s.pinchOf w).lastInterval⟩) z.isLt }
              else k
            | none => k)) ∧
        (pinchDeclared s w x = true → jam = false → t.freeCount = s.freeCount ∧
          ∀ p, x.position = some p →
            t.winRec w = { s.winRec w with
              motion := .dwell (.reverse (min (p + (keptCal s w).reversal) (keptCal s w).l)), startWindow := none
              stall := none, stallReached := false, dwell := some (s.now + 500), brake := none
              pinchCount := min 3 ((s.winRec w).pinchCount + 1)
              limited := (s.winRec w).limited || decide (2 ≤ (s.winRec w).pinchCount) } ∧
            (t.chan (.w w)).drive = .brake ∧ (t.refsOf w).stroke = none ∧
            eventNamed t.notices w (fun e => decide (e.pinch = some .effort)) ∧
            t.trace.sequence = (s.trace.sequence + 1) % 65536) ∧
        (jam = true → (s.chan (.w w)).withdrawn = false → WindowWithdrawn s t w ∧
          (if pinchDeclared s w x = true then
            t.freeCount = s.freeCount + 1 ∧
            if Config.pinchTakenFirst s.freeCount = true then
              (t.winRec w).pinchCount = min 3 ((s.winRec w).pinchCount + 1) ∧
              eventNamed t.notices w (fun e => decide (e.pinch = some .effort))
            else (t.winRec w).pinchCount = (s.winRec w).pinchCount
          else t.freeCount = s.freeCount ∧ (t.winRec w).pinchCount = (s.winRec w).pinchCount ∧
            t.trace.sequence = (s.trace.sequence + 1) % 65536)))

/-! ### Window context -/

/-- R133, R134, R165, R166: a WINDOW_RESTORE, in one segment or with the last of its segments, writes the context of an IDLE,
unnormalised window whole, with the zones that it marks present, and is answered STATE on any other; a longer one is staged,
and an unexpected segment empties the record with FORMAT. A total of 0 or above 3, or an index at or beyond the total, is
answered RANGE; that it leaves the staging record is the model's choice (log entry 11). A WINDOW_FORGET of a window that is
not running forgets what it names; a running one answers STATE. -/
def Obligations.WindowRestoreAndForget : Prop :=
  (∀ (s : State) (tag n : Byte) (w : Window) (p : Nat) (zones : Vector (Option ZoneRef) 32) (a q : List Byte),
    s.canTake .b → p < 4160 → (∀ (z : Fin 32) x, zones[z] = some x → ZoneLaw x) → 1 ≤ q.length → q.length ≤ 44 →
    a ++ q = [BitVec.ofNat 8 (Window.list.idxOf w)] ++ i16 ((p : Int) - 64) ++ [n] ++ zonesShown zones →
    ∀ total ∈ [1, 2, 3], (total = 1 → a = []) → (1 < total → s.staging = some ⟨total, total - 1, a⟩) →
    exec (.windowRestore .b tag (u8 (total - 1) ++ u8 total ++ q)) s = .next
      (if (s.winRec w).motion = .idle ∧ (s.winRec w).normalised = false then
        { s with
          staging := none
          refs := s.refs.set w { s.refsOf w with zones := zones, learned := n.toNat, pendingForget := none }
          win := { s.win with recs := s.win.recs.set w { s.winRec w with position := some ((p : Int) - 64), normalised := true } }
          ports := s.ports.set .b (answered tag .ok []) }
      else { s with staging := none, ports := s.ports.set .b (answered tag .state []) })) ∧
  (∀ (s : State) (tag n : Byte) (w : Window) (p : Nat), s.canTake .b → p < 4160 →
    ∀ q, q = [BitVec.ofNat 8 (Window.list.idxOf w)] ++ i16 ((p : Int) - 64) ++ [n] →
    exec (.windowRestore .b tag ([0, 1] ++ q ++ List.replicate 32 0)) s = .next
      (if (s.winRec w).motion = .idle ∧ (s.winRec w).normalised = false then
        { s with
          staging := none
          refs := s.refs.set w { s.refsOf w with zones := Vector.replicate 32 none, learned := n.toNat, pendingForget := none }
          win := { s.win with recs := s.win.recs.set w { s.winRec w with position := some ((p : Int) - 64), normalised := true } }
          ports := s.ports.set .b (answered tag .ok []) }
      else { s with staging := none, ports := s.ports.set .b (answered tag .state []) }) ∧
    exec (.windowRestore .b tag ([0, 1] ++ q ++ List.replicate 33 0)) s =
      .next { s with staging := none, ports := s.ports.set .b (answered tag .format []) } ∧
    exec (.windowRestore .b tag ([0, 1] ++ q ++ [1, 0x08, 0x00, 1] ++ List.replicate 31 0)) s =
      .next { s with staging := none, ports := s.ports.set .b (answered tag .range []) }) ∧
  (∀ (s : State) (tag : Byte) (q : List Byte), s.canTake .b → 1 ≤ q.length → q.length ≤ 44 →
    exec (.windowRestore .b tag ([0, 2] ++ q)) s = .next { s with
      staging := some { total := 2, next := 1, content := q }, ports := s.ports.set .b (answered tag .ok []) } ∧
    (∀ row ∈ [[(0 : Byte), 0], [0, 4], [2, 2], [3, 3]],
      exec (.windowRestore .b tag (row ++ q)) s = .next { s with ports := s.ports.set .b (answered tag .range []) }) ∧
    (s.staging = none ∨ (∃ x, s.staging = some x ∧ (x.total ≠ 3 ∨ x.next ≠ 1)) →
      exec (.windowRestore .b tag ([1, 3] ++ q)) s =
        .next { s with staging := none, ports := s.ports.set .b (answered tag .format []) }) ∧
    ∀ x, s.staging = some x → x.total = 3 → x.next = 1 →
      exec (.windowRestore .b tag ([1, 3] ++ q)) s = .next { s with
        staging := some { x with next := 2, content := x.content ++ q }
        ports := s.ports.set .b (answered tag .ok []) }) ∧
  ∀ (s : State) (tag : Byte) (w : Window), s.canTake .b →
    ∀ row ∈ [((0 : Byte), true, false), (1, false, true), (2, true, true)],
      exec (.windowForget .b tag [BitVec.ofNat 8 (Window.list.idxOf w), row.1]) s = .next
        (if (s.winRec w).motion.running = true then { s with ports := s.ports.set .b (answered tag .state []) }
        else { s with
          refs := if row.2.1 then
              s.refs.set w { s.refsOf w with zones := Vector.replicate 32 none, learned := 0, pendingForget := none }
            else s.refs
          win := if row.2.2 then
              { s.win with recs := s.win.recs.set w { s.winRec w with position := none, normalised := false, topCorrection := none } }
            else s.win
          ports := s.ports.set .b (answered tag .ok []) })

/-! ### Trace store -/

/-- R138 to R147: TRACE_TRIGGER on a driven window takes a sequence number and opens a record in the first FREE buffer, or is
refused with BUSY and TRACE_LOST; TRACE_READ returns the parts of the oldest COMPLETE record, the header of R140 and then the
samples of R123 four by four, and frees it after its last; TRACE_REWIND, TRACE_CLEAR and TIME_TAG_RESET. That the index of
a sample stands before its fields is log entry 10. -/
def Obligations.TraceRequests : Prop :=
  (∀ (s : State) (tag : Byte) (w : Window), s.canTake .b →
    ((s.winRec w).motion.drivenDir = none →
      exec (.traceTrigger .b tag [BitVec.ofNat 8 (Window.list.idxOf w)]) s =
        .next { s with ports := s.ports.set .b (answered tag .state []) }) ∧
    ((s.winRec w).motion.drivenDir ≠ none → TraceLaw s →
      ∀ fills, fills = (List.finRange 8).any (fun i => match s.bufferAt i with | .filling r => r.window = w | _ => false) →
      ∀ free, free = (List.finRange 8).find? (fun i => decide (s.bufferAt i = .free)) →
      ∃ t, exec (.traceTrigger .b tag [BitVec.ofNat 8 (Window.list.idxOf w)]) s = .next t ∧
        Only [.trace, .notices, .ports] s t ∧ t.trace.sequence = (s.trace.sequence + 1) % 65536 ∧
        t.trace.rings = s.trace.rings ∧ t.trace.cursor = s.trace.cursor ∧ t.timeTag = s.timeTag ∧
        (fills = true ∧ s.config.overlapAccept = false ∨ free = none →
          t.ports = s.ports.set .b (answered tag .busy (u16 s.trace.sequence)) ∧
          t.trace = { s.trace with sequence := t.trace.sequence } ∧
          t.notices.b.traceLost = some
            { count := min 255 ((s.notices.b.traceLost.map (·.count)).getD 0 + 1), sequence := s.trace.sequence
              reason := if fills = true ∧ s.config.overlapAccept = false then .overlap else .full }) ∧
        (fills = false ∨ s.config.overlapAccept = true → ∀ i, free = some i →
          t.ports = s.ports.set .b (answered tag .ok (u16 s.trace.sequence)) ∧
          t.trace.captures = s.trace.captures ++ [i] ∧
          t.bufferAt i = .filling
            { sequence := s.trace.sequence, kind := .requested, window := w, timeTag := s.timeTag
              position := (s.winRec w).position
              teff := (s.pinchOf w).lastTeff.getD (thresholdOf (keptCal s w).t (s.winRec w).limited)
              pre := s.trace.rings.get w, post := [] } ∧
          ∀ j, j ≠ i → t.bufferAt j = match s.bufferAt j with
            | .filling r => if r.window = w then .complete r .overlap else .filling r
            | b => b))) ∧
  (∀ (s : State) (tag : Byte), s.canTake .b → TraceLaw s →
    ∀ at_, at_ = (match s.trace.cursor with
      | some c => some (c.buffer, c.part)
      | none => (s.trace.captures.find? (fun i => match s.bufferAt i with | .complete _ _ => true | _ => false)).map (·, 0)) →
    (at_ = none → exec (.traceRead .b tag []) s = .next { s with ports := s.ports.set .b (answered tag .noRecord []) }) ∧
    ∀ y, at_ = some y → ∀ r x, s.bufferAt y.1 = .complete r x →
      ∀ parts, parts = 1 + (r.pre.length + r.post.length + 3) / 4 →
      ∃ t, exec (.traceRead .b tag []) s = .next t ∧ Only [.trace, .ports] s t ∧
        t.ports = s.ports.set .b (answered tag .ok (t.payloadAt .b)) ∧
        t.payloadAt .b = u16 r.sequence ++ u8 y.2 ++ u8 parts ++
          (if y.2 = 0 then headerShown r x
          else (List.range 4).flatMap (fun j => ((r.pre ++ r.post)[4 * (y.2 - 1) + j]?).elim []
            (sampleShown (4 * (y.2 - 1) + j)))) ∧
        (if parts ≤ y.2 + 1 then
          t.trace = { s.trace with
            buffers := s.trace.buffers.set y.1.val .free y.1.isLt, captures := s.trace.captures.filter (· ≠ y.1)
            cursor := none }
        else t.trace = { s.trace with cursor := some ⟨y.1, y.2 + 1⟩ })) ∧
  ∀ (s : State) (tag : Byte), s.canTake .b →
    exec (.traceRewind .b tag []) s = .next { s with
      trace := { s.trace with cursor := s.trace.cursor.map (fun c => { c with part := 0 }) }
      ports := s.ports.set .b (answered tag .ok []) } ∧
    exec (.traceClear .b tag []) s = .next { s with
      trace := { s.trace with buffers := Vector.replicate 8 .free, captures := [], cursor := none }
      ports := s.ports.set .b (answered tag .ok []) } ∧
    ∃ t, exec (.timeTagReset .b tag []) s = .next t ∧ Only [.trace, .ports] s t ∧ t.timeTag = 0 ∧
      t.ports = s.ports.set .b (answered tag .ok []) ∧ { t.trace with tagBase := s.trace.tagBase } = s.trace

/-! ### Output diagnostics, temperature and supply -/

/-- R151 to R157: the current measurements of the actuator channels, with the overcurrent at the third code above 400 in a
row; the 20 ms point of a drive; the off-state tick; CLEAR_FAULT and CLEAR_STATUS. The 20 ms point of a drive in which no
current was measured leaves open_load, and a short found on one side leaves the other's result: the model's readings (log
entry 20). -/
def Obligations.Diagnostics : Prop :=
  (∀ (s : State) (a : Actuator) (code : Nat), s.resetLine = false →
    ((s.chan (.act a)).drive = .off ∨ (s.chan (.act a)).drive = .brake →
      exec (.actuatorCurrentMeasurement a code) s = .next s) ∧
    ((s.chan (.act a)).drive = .onFirst ∨ (s.chan (.act a)).drive = .onSecond →
      ∀ n, n = (if ocEnabled s (.act a) then countAfter (s.chan (.act a)).ocCount (400 < code) else (s.chan (.act a)).ocCount) →
      (ocEnabled s (.act a) = false ∨ n < 3 → exec (.actuatorCurrentMeasurement a code) s = .next { s with
        mon := { s.mon with
          chans := s.mon.chans.set (.act a) { s.chan (.act a) with current := some code, ocCount := n } } }) ∧
      (ocEnabled s (.act a) = true → 3 ≤ n → OpLaw s a →
        ∃ t, exec (.actuatorCurrentMeasurement a code) s = .next t ∧
          Only [.closures, .childs, .seq, .mon, .notices] s t ∧ (∀ ch, ch ≠ .act a → t.chan ch = s.chan ch) ∧
          (t.chan (.act a)).drive = .off ∧ (t.chan (.act a)).withdrawn = true ∧
          (t.chan (.act a)).overcurrent = .fault ∧ (t.chan (.act a)).ocCount = 0 ∧
          t.mon.flags = { s.mon.flags with overcurrent := true } ∧
          ((s.chan (.act a)).overcurrent ≠ .fault → faultNamed t.notices (.act a) (·.overcurrent)) ∧
          ∀ o, s.opAt a = some o → t.opAt a = none ∧ confirmedIs s t a false ∧
            failNamed s.notices t.notices (namedClosure a) .overcurrent (if o.crash then none else commandPort s) ∧
            t.seq.queue = (if o.crash then s.seq.queue else queueAfterEnd s a)))) ∧
  (∀ (s : State) (ch : Channel), s.resetLine = false →
    ((s.chan ch).driveStart = none ∨ (s.chan ch).judged = true ∨ (s.chan ch).drive = .off ∨ (s.chan ch).drive = .brake →
      exec (.openLoadJudgement ch) s = .next s) ∧
    ∀ d, (s.chan ch).driveStart = some d → (s.chan ch).judged = false →
      (s.chan ch).drive = .onFirst ∨ (s.chan ch).drive = .onSecond →
      ∃ t, exec (.openLoadJudgement ch) s = .next t ∧ Only [.now, .mon, .notices] s t ∧ t.now = max s.now (d + 200) ∧
        (∀ x, x ≠ ch → t.chan x = s.chan x) ∧
        t.chan ch = { s.chan ch with
          judged := true
          openLoad := match openFound s ch with
            | some true => .fault
            | some false => .normal
            | none => (s.chan ch).openLoad
          overcurrent := if ocEnabled s ch = true ∧ ((s.chan ch).overcurrent ≠ .fault ∨ crashOn s ch = true) then .normal
            else (s.chan ch).overcurrent } ∧
        t.mon.flags = { s.mon.flags with openLoad := s.mon.flags.openLoad || decide (openFound s ch = some true) } ∧
        (openFound s ch = some true → (s.chan ch).openLoad ≠ .fault → faultNamed t.notices ch (·.openLoad)) ∧
        (openFound s ch ≠ some true ∨ (s.chan ch).openLoad = .fault → t.notices = s.notices)) ∧
  (∀ (s : State) (f : Channels Finding), s.resetLine = false → WindowLaw s →
    ∃ t, exec (.offStateTick f) s = .next t ∧ Only [.now, .win, .refs, .trace, .mon, .notices] s t ∧
      t.now = max s.now s.mon.offTickAt ∧ t.mon.offTickAt = s.mon.offTickAt + 10000 ∧
      (∀ ch, testedOff s ch = false → t.chan ch = s.chan ch) ∧
      (∀ ch, testedOff s ch = true →
        (t.chan ch).shortSupply = shortAfter (s.chan ch).shortSupply (kindEnabled s ch (·.shortSupply)) (f.get ch).nearSupply
          (!(f.get ch).nearSupply && !(f.get ch).nearGround) ∧
        (t.chan ch).shortGround = shortAfter (s.chan ch).shortGround (kindEnabled s ch (·.shortGround)) (f.get ch).nearGround
          (!(f.get ch).nearSupply && !(f.get ch).nearGround) ∧
        (t.chan ch).withdrawn = ((s.chan ch).withdrawn || shortFound s ch (f.get ch)) ∧ (t.chan ch).drive = .off ∧
        ((f.get ch).nearSupply = true → kindEnabled s ch (·.shortSupply) = true → (s.chan ch).shortSupply ≠ .fault →
          faultNamed t.notices ch (·.shortSupply)) ∧
        ((f.get ch).nearGround = true → kindEnabled s ch (·.shortGround) = true → (s.chan ch).shortGround ≠ .fault →
          faultNamed t.notices ch (·.shortGround))) ∧
      (∀ w, if shortFound s (.w w) (f.get (.w w)) = true ∧ (s.chan (.w w)).withdrawn = false then
          (t.winRec w).motion = .inhibited ∧ (t.winRec w).causes = { (s.winRec w).causes with fault := true }
        else t.winRec w = s.winRec w)) ∧
  ∀ (s : State) (tag m : Byte) (ch : Channel), s.canTake .b →
    (crashOn s ch = true → exec (.clearFault .b tag [BitVec.ofNat 8 (Channel.list.idxOf ch)]) s =
      .next { s with ports := s.ports.set .b (answered tag .crash []) }) ∧
    ((∀ a, ch = .act a → (s.opAt a).any (·.crash) = false) →
      exec (.clearFault .b tag [BitVec.ofNat 8 (Channel.list.idxOf ch)]) s = .next { s with
      mon := { s.mon with chans := s.mon.chans.set ch { s.chan ch with
        withdrawn := false, openLoad := .notTested, shortSupply := .notTested, shortGround := .notTested
        overcurrent := .notTested } }
      win := match ch with
        | .w w =>
          if (s.chan ch).withdrawn then
            { s.win with recs := s.win.recs.set w (causeRemoved (s.winRec w) { (s.winRec w).causes with fault := false }) }
          else s.win
        | .act _ => s.win
      ports := s.ports.set .b (answered tag .ok []) }) ∧
    exec (.clearStatus .b tag [m]) s = .next { s with
      mon := { s.mon with flags :=
        { openLoad := s.mon.flags.openLoad && !m.toNat.testBit 0, shortSupply := s.mon.flags.shortSupply && !m.toNat.testBit 1
          shortGround := s.mon.flags.shortGround && !m.toNat.testBit 2
          overcurrent := s.mon.flags.overcurrent && !m.toNat.testBit 3, twarm := s.mon.flags.twarm && !m.toNat.testBit 4
          thot := s.mon.flags.thot && !m.toNat.testBit 5, slow := s.mon.flags.slow && !m.toNat.testBit 6
          scut := s.mon.flags.scut && !m.toNat.testBit 7 } }
      ports := s.ports.set .b (answered tag .ok []) }

/-- R28, R30, R42, R104, R128, R157 to R160: the judgement of a temperature and of a supply measurement with its hysteresis,
the sticky flags and the notice of a change; HOT stops the windows and aborts the running operations, CUT stops the windows
and holds the running pulses; leaving them frees the windows and checks the held pulses again. That the bridge of a window
that was IDLE and braking is switched off at CUT as well follows R85's table against the Note of 6.1 (log entry 17). -/
def Obligations.TemperatureAndSupply : Prop :=
  (∀ (s : State) (deg : Int), s.resetLine = false → WindowLaw s →
    ∀ new, new = (if (if s.mon.temp = .hot then 140 else 150) ≤ deg then TempState.hot
      else if (if s.mon.temp = .normal then 125 else 115) ≤ deg then .warm else .normal) →
    ∃ t, exec (.temperatureMeasurement deg) s = .next t ∧
      Only [.closures, .childs, .seq, .win, .refs, .trace, .mon, .notices] s t ∧
      t.mon.temp = new ∧ (-40 ≤ deg → deg ≤ 200 → t.mon.lastTemp = deg) ∧ t.mon.supply = s.mon.supply ∧
      t.mon.flags = { s.mon.flags with
        twarm := s.mon.flags.twarm || decide (new ≠ .normal), thot := s.mon.flags.thot || decide (new = .hot) } ∧
      (new = s.mon.temp → Only [.mon] s t ∧ t.mon.chans = s.mon.chans) ∧
      (new ≠ s.mon.temp → t.notices.b.thermal = true) ∧
      (new = .hot → s.mon.temp ≠ .hot →
        allInhibited s t (fun c => { c with thermal := true }) ∧ (SlotLaw s → thermallyAborted s t)) ∧
      (new ≠ .hot → s.mon.temp = .hot →
        (∀ w, t.winRec w = causeRemoved (s.winRec w) { (s.winRec w).causes with thermal := false }) ∧ t.seq = s.seq) ∧
      (new ≠ .hot → s.mon.temp ≠ .hot → t.win = s.win ∧ t.seq = s.seq) ∧
      (new = .warm → s.mon.temp ≠ .warm → strokesMarked s t (fun m => { m with warm := true }))) ∧
  ∀ (s : State) (v : Nat), s.resetLine = false → WindowLaw s →
    ∀ new, new = (if s.mon.supply = .cut then
        if v < 415 ∨ 785 < v then SupplyState.cut else if v < 465 then .low else .normal
      else if v < 400 ∨ 800 < v then .cut
      else if v < (if s.mon.supply = .normal then 450 else 465) then .low else .normal) →
    ∃ t, exec (.supplyMeasurement v) s = .next t ∧
      Only [.closures, .childs, .seq, .win, .refs, .trace, .mon, .notices] s t ∧
      t.mon.supply = new ∧ (v ≤ 1023 → t.mon.lastV = v) ∧ t.mon.temp = s.mon.temp ∧
      t.mon.flags = { s.mon.flags with
        slow := s.mon.flags.slow || decide (new ≠ .normal), scut := s.mon.flags.scut || decide (new = .cut) } ∧
      (new = s.mon.supply → Only [.mon] s t ∧ t.mon.chans = s.mon.chans) ∧
      (new ≠ s.mon.supply → t.notices.b.supply = true) ∧
      (new = .cut → s.mon.supply ≠ .cut →
        allInhibited s t (fun c => { c with supply := true }) ∧
        ∀ a, t.opAt a = (s.opAt a).map (fun o =>
            if o.phase = .drive ∧ o.crash = false then { o with phase := .waitSlot, timer := none } else o) ∧
          (t.chan (.act a)).drive =
            (if (s.opAt a).any (fun o => o.phase = .drive && !o.crash) then .off else (s.chan (.act a)).drive)) ∧
      (new ≠ .cut → s.mon.supply = .cut →
        (∀ w, t.winRec w = causeRemoved (s.winRec w) { (s.winRec w).causes with supply := false }) ∧
        ∀ a, (∀ o, s.opAt a = some o → o.heldByCut = true →
            if pulseAllowed s a then
              (t.opAt a).map (fun x => (x.phase, x.slot, x.retriesLeft)) = some (.drive, true, o.retriesLeft) ∧
              (t.chan (.act a)).drive ≠ .off ∧ t.heatOf a = (s.heatOf a).map heated
            else t.opAt a = none) ∧
          ((s.opAt a).any Op.heldByCut = false → t.opAt a = s.opAt a ∧ t.heatOf a = s.heatOf a)) ∧
      (new ≠ .cut → s.mon.supply ≠ .cut → t.win = s.win ∧ t.seq = s.seq) ∧
      (new = .low → s.mon.supply ≠ .low → strokesMarked s t (fun m => { m with supply := true }))

/-! ### What every step keeps -/

/-- R2, R23, R46, R51: every step keeps the queue law (at most 4 entries, one RUNNING and that the head, no identical
PENDING neighbours) and the crash law (the set latch holds every goal at UNLOCKED and lets CHILD_SET entries alone stand). -/
def Obligations.LockLawKept : Prop := ∀ s : State, LockLaw s → ∀ t, step s = .next t → LockLaw t

/-- R24 to R29, R41, R48: every step keeps the slot law: at most 3 slots are held, an ordinary operation drives with a slot
and settles without one, a crash operation never waits, the output is ON exactly in DRIVE, and every ordinary operation
belongs to the RUNNING head. -/
def Obligations.SlotLawKept : Prop := ∀ s : State, SlotLaw s → ∀ t, step s = .next t → SlotLaw t

/-- R84, R85, R87, R94, R98, R99, R102, R104: every step keeps the window law: no AUTO or COMFORT up-run unless the window is
normalised and not limited, the ranges of its position, INHIBITED exactly while a cause is in force, and the bridge of its
state. -/
def Obligations.WindowLawKept : Prop := ∀ s : State, WindowLaw s → ∀ t, step s = .next t → WindowLaw t

/-- R137, R139, R141, R144: every step keeps the trace law: the rings' length, the capture queue, one FILLING record a
window and only on a running one, the counts of samples, and the cursor on a COMPLETE record. -/
def Obligations.TraceLawKept : Prop := ∀ s : State, TraceLaw s → ∀ t, step s = .next t → TraceLaw t

/-- R109, R115, R117, R125, R126, R170: every step keeps the ranges of the calibration, of the pinch computation and of
learning. -/
def Obligations.RangeLawKept : Prop := ∀ s : State, RangeLaw s → ∀ t, step s = .next t → RangeLaw t
end

