-- ==== Sys2Proof/Laws/Frames.lean ====
section
/-! SUPPORT. One lemma for each operation of the machine: the parts of the state that it can change. -/

namespace Sys2Proof.Machine
open Sys2Proof

theorem Only.refl (ps : List Part) (s : State) : Only ps s s := by
  constructor; intro x _; cases x <;> rfl

theorem Part.Same.trans {s t u : State} {x : Part} (h : Part.Same s t x) (k : Part.Same t u x) : Part.Same s u x := by
  cases x <;> exact Eq.trans k h

theorem Only.after {ps qs : List Part} {s t u : State} (k : Only qs t u) (hp : qs.all ps.contains = true)
    (h : Only ps s t) : Only ps s u :=
  ⟨fun x hx => (h.same x hx).trans (k.same x (fun hq => hx (by simpa using List.all_eq_true.mp hp x hq)))⟩

theorem Only.mono {ps qs : List Part} {s t : State} (k : Only qs s t) (hp : qs.all ps.contains = true) : Only ps s t :=
  Only.after k hp (Only.refl ps s)

theorem Only.foldl {ps : List Part} {β : Type} {f : State → β → State} (hf : ∀ t a, Only ps t (f t a)) :
    ∀ (l : List β) (s : State), Only ps s (l.foldl f s)
  | [], s => Only.refl ps s
  | a :: l, s => Only.after (Only.foldl hf l (f s a)) (by simp) (hf s a)

theorem Only.now (s : State) (v : Nat) : Only [.now] s { s with now := v } := by
  constructor; intro x hx; cases x <;> first | rfl | (exfalso; revert hx; decide)

theorem Only.freeCount (s : State) (v : Nat) : Only [.freeCount] s { s with freeCount := v } := by
  constructor; intro x hx; cases x <;> first | rfl | (exfalso; revert hx; decide)

theorem Only.closures (s : State) (v : Closures ClosureRec) : Only [.closures] s { s with closures := v } := by
  constructor; intro x hx; cases x <;> first | rfl | (exfalso; revert hx; decide)

theorem Only.seq (s : State) (v : Sequencer) : Only [.seq] s { s with seq := v } := by
  constructor; intro x hx; cases x <;> first | rfl | (exfalso; revert hx; decide)

theorem Only.crash (s : State) (v : Crash) : Only [.crash] s { s with crash := v } := by
  constructor; intro x hx; cases x <;> first | rfl | (exfalso; revert hx; decide)

theorem Only.fobs (s : State) (v : Fobs) : Only [.fobs] s { s with fobs := v } := by
  constructor; intro x hx; cases x <;> first | rfl | (exfalso; revert hx; decide)

theorem Only.touch (s : State) (v : Touches TouchEntry) : Only [.touch] s { s with touch := v } := by
  constructor; intro x hx; cases x <;> first | rfl | (exfalso; revert hx; decide)

theorem Only.win (s : State) (v : WindowCtl) : Only [.win] s { s with win := v } := by
  constructor; intro x hx; cases x <;> first | rfl | (exfalso; revert hx; decide)

theorem Only.trace (s : State) (v : TraceStore) : Only [.trace] s { s with trace := v } := by
  constructor; intro x hx; cases x <;> first | rfl | (exfalso; revert hx; decide)

theorem Only.mon (s : State) (v : Monitors) : Only [.mon] s { s with mon := v } := by
  constructor; intro x hx; cases x <;> first | rfl | (exfalso; revert hx; decide)

theorem Only.config (s : State) (v : Configuration) : Only [.config] s { s with config := v } := by
  constructor; intro x hx; cases x <;> first | rfl | (exfalso; revert hx; decide)

theorem Only.staging (s : State) (v : Option Staging) : Only [.staging] s { s with staging := v } := by
  constructor; intro x hx; cases x <;> first | rfl | (exfalso; revert hx; decide)

theorem Only.softResetDue (s : State) (v : Bool) : Only [.softResetDue] s { s with softResetDue := v } := by
  constructor; intro x hx; cases x <;> first | rfl | (exfalso; revert hx; decide)

theorem Only.notices (s : State) (v : Ports NoticeSet) : Only [.notices] s { s with notices := v } := by
  constructor; intro x hx; cases x <;> first | rfl | (exfalso; revert hx; decide)

theorem Only.sensing (s : State) (v : Sensing) : Only [.sensing] s { s with sensing := v } := by
  constructor; intro x hx; cases x <;> first | rfl | (exfalso; revert hx; decide)

theorem State.reach_only (s : State) (t : Nat) : Only [.now] s (State.reach s t) := by
  constructor; intro x hx; cases x <;> first | rfl | (exfalso; revert hx; decide)

theorem State.setClosure_only (s : State) (c : Closure) (r : ClosureRec) : Only [.closures] s (State.setClosure s c r) := by
  constructor; intro x hx; cases x <;> first | rfl | (exfalso; revert hx; decide)

theorem State.setChild_only (s : State) (r : Rear) (v : ChildRec) : Only [.childs] s (State.setChild s r v) := by
  constructor; intro x hx; cases x <;> first | rfl | (exfalso; revert hx; decide)

theorem State.setQueue_only (s : State) (q : List Entry) : Only [.seq] s (State.setQueue s q) := by
  constructor; intro x hx; cases x <;> first | rfl | (exfalso; revert hx; decide)

theorem State.setOp_only (s : State) (a : Actuator) (o : Option Op) : Only [.seq] s (State.setOp s a o) := by
  constructor; intro x hx; cases x <;> first | rfl | (exfalso; revert hx; decide)

theorem State.setRelock_only (s : State) (t : Option Nat) : Only [.seq] s (State.setRelock s t) := by
  constructor; intro x hx; cases x <;> first | rfl | (exfalso; revert hx; decide)

theorem State.setRepeat_only (s : State) (r : Option Repeat) : Only [.seq] s (State.setRepeat s r) := by
  constructor; intro x hx; cases x <;> first | rfl | (exfalso; revert hx; decide)

theorem State.setSlot_only (s : State) (i : Fin 8) (f : FobSlot) : Only [.fobs] s (State.setSlot s i f) := by
  constructor; intro x hx; cases x <;> first | rfl | (exfalso; revert hx; decide)

theorem State.setSession_only (s : State) (x : Option Session) : Only [.fobs] s (State.setSession s x) := by
  constructor; intro x hx; cases x <;> first | rfl | (exfalso; revert hx; decide)

theorem State.setTouch_only (s : State) (t : TouchSource) (e : TouchEntry) : Only [.touch] s (State.setTouch s t e) := by
  constructor; intro x hx; cases x <;> first | rfl | (exfalso; revert hx; decide)

theorem State.setWin_only (s : State) (w : Window) (r : WindowRec) : Only [.win] s (State.setWin s w r) := by
  constructor; intro x hx; cases x <;> first | rfl | (exfalso; revert hx; decide)

theorem State.setPinch_only (s : State) (w : Window) (p : PinchState) : Only [.pinch] s (State.setPinch s w p) := by
  constructor; intro x hx; cases x <;> first | rfl | (exfalso; revert hx; decide)

theorem State.setRefs_only (s : State) (w : Window) (r : RefState) : Only [.refs] s (State.setRefs s w r) := by
  constructor; intro x hx; cases x <;> first | rfl | (exfalso; revert hx; decide)

theorem State.setChan_only (s : State) (ch : Channel) (r : ChannelRec) : Only [.mon] s (State.setChan s ch r) := by
  constructor; intro x hx; cases x <;> first | rfl | (exfalso; revert hx; decide)

theorem State.setRing_only (s : State) (w : Window) (l : List Sample) : Only [.trace] s (State.setRing s w l) := by
  constructor; intro x hx; cases x <;> first | rfl | (exfalso; revert hx; decide)

theorem State.setBuffer_only (s : State) (i : Fin 8) (b : Buffer) : Only [.trace] s (State.setBuffer s i b) := by
  constructor; intro x hx; cases x <;> first | rfl | (exfalso; revert hx; decide)

theorem State.setPort_only (s : State) (p : Port) (e : PortEngine) : Only [.ports] s (State.setPort s p e) := by
  constructor; intro x hx; cases x <;> first | rfl | (exfalso; revert hx; decide)

theorem State.setNotices_only (s : State) (p : Port) (n : NoticeSet) : Only [.notices] s (State.setNotices s p n) := by
  constructor; intro x hx; cases x <;> first | rfl | (exfalso; revert hx; decide)

theorem State.addHeat_only (s : State) (a : Actuator) : Only [.seq] s (State.addHeat s a) := by
  unfold State.addHeat
  repeat' first
    | with_reducible apply Only.refl
    | with_reducible decide
    | split
    | (lift_lets; intros)
    | with_reducible apply Only.after (Only.seq _ _)

theorem State.onPort_only (s : State) (p : Port) (f : NoticeSet → NoticeSet) : Only [.notices] s (State.onPort s p f) := by
  unfold State.onPort
  repeat' first
    | with_reducible apply Only.refl
    | with_reducible decide
    | with_reducible apply Only.after (State.setNotices_only _ _ _)
    | split
    | (lift_lets; intros)

theorem State.onAll_only (s : State) (f : NoticeSet → NoticeSet) : Only [.notices] s (State.onAll s f) := by
  constructor; intro x hx; cases x <;> first | rfl | (exfalso; revert hx; decide)

theorem State.onBD_only (s : State) (f : NoticeSet → NoticeSet) : Only [.notices] s (State.onBD s f) := by
  constructor; intro x hx; cases x <;> first | rfl | (exfalso; revert hx; decide)

theorem State.raiseRestarted_only (s : State) (c : ResetCause) : Only [.notices] s (State.raiseRestarted s c) := by
  unfold State.raiseRestarted
  repeat' first
    | with_reducible apply Only.refl
    | with_reducible decide
    | with_reducible apply Only.after (State.onAll_only _ _)
    | split
    | (lift_lets; intros)

theorem State.raiseCrash_only (s : State) : Only [.notices] s (State.raiseCrash s) := by
  unfold State.raiseCrash
  repeat' first
    | with_reducible apply Only.refl
    | with_reducible decide
    | with_reducible apply Only.after (State.onAll_only _ _)
    | split
    | (lift_lets; intros)

theorem State.raiseLockChanged_only (s : State) (c : Closure) : Only [.notices] s (State.raiseLockChanged s c) := by
  unfold State.raiseLockChanged
  repeat' first
    | with_reducible apply Only.refl
    | with_reducible decide
    | with_reducible apply Only.after (State.onAll_only _ _)
    | split
    | (lift_lets; intros)

theorem State.raiseChildChanged_only (s : State) (r : Rear) : Only [.notices] s (State.raiseChildChanged s r) := by
  unfold State.raiseChildChanged
  repeat' first
    | with_reducible apply Only.refl
    | with_reducible decide
    | with_reducible apply Only.after (State.onBD_only _ _)
    | split
    | (lift_lets; intros)

theorem State.raiseWindowEvent_only (s : State) (w : Window) (f : WindowEvents → WindowEvents) : Only [.notices] s (State.raiseWindowEvent s w f) := by
  unfold State.raiseWindowEvent
  repeat' first
    | with_reducible apply Only.refl
    | with_reducible decide
    | with_reducible apply Only.after (State.onBD_only _ _)
    | split
    | (lift_lets; intros)

theorem State.raiseActuationFailed_only (s : State) (c : Closure) (why : FailReason) (port : Option Port) : Only [.notices] s (State.raiseActuationFailed s c why port) := by
  unfold State.raiseActuationFailed
  repeat' first
    | with_reducible apply Only.refl
    | with_reducible decide
    | split
    | (lift_lets; intros)
    | with_reducible apply Only.after (Only.notices _ _)

theorem State.raiseSuperlockRefused_only (s : State) (why : SuperlockReason) (port : Option Port) : Only [.notices] s (State.raiseSuperlockRefused s why port) := by
  unfold State.raiseSuperlockRefused
  repeat' first
    | with_reducible apply Only.refl
    | with_reducible decide
    | split
    | (lift_lets; intros)
    | with_reducible apply Only.after (Only.notices _ _)

theorem State.raiseCancelled_only (s : State) (e : Entry) : Only [.notices] s (State.raiseCancelled s e) := by
  unfold State.raiseCancelled
  repeat' first
    | with_reducible apply Only.refl
    | with_reducible decide
    | split
    | (lift_lets; intros)
    | with_reducible apply Only.after (Only.notices _ _)

theorem State.raiseHandleTouch_only (s : State) : Only [.notices] s (State.raiseHandleTouch s) := by
  unfold State.raiseHandleTouch
  repeat' first
    | with_reducible apply Only.refl
    | with_reducible decide
    | with_reducible apply Only.after (State.onPort_only _ _ _)
    | split
    | (lift_lets; intros)

theorem State.raiseFobCounter_only (s : State) (i : Fin 8) : Only [.notices] s (State.raiseFobCounter s i) := by
  unfold State.raiseFobCounter
  repeat' first
    | with_reducible apply Only.refl
    | with_reducible decide
    | with_reducible apply Only.after (State.onPort_only _ _ _)
    | split
    | (lift_lets; intros)

theorem State.raiseContextChanged_only (s : State) (w : Window) : Only [.notices] s (State.raiseContextChanged s w) := by
  unfold State.raiseContextChanged
  repeat' first
    | with_reducible apply Only.refl
    | with_reducible decide
    | with_reducible apply Only.after (State.onPort_only _ _ _)
    | split
    | (lift_lets; intros)

theorem State.raiseTraceReady_only (s : State) : Only [.notices] s (State.raiseTraceReady s) := by
  unfold State.raiseTraceReady
  repeat' first
    | with_reducible apply Only.refl
    | with_reducible decide
    | with_reducible apply Only.after (State.onPort_only _ _ _)
    | split
    | (lift_lets; intros)

theorem State.raiseTraceLost_only (s : State) (sequence : Nat) (why : LostReason) : Only [.notices] s (State.raiseTraceLost s sequence why) := by
  unfold State.raiseTraceLost
  repeat' first
    | with_reducible apply Only.refl
    | with_reducible decide
    | with_reducible apply Only.after (State.onPort_only _ _ _)
    | split
    | (lift_lets; intros)

theorem State.raiseFault_only (s : State) (ch : Channel) (f : KindSet → KindSet) : Only [.notices] s (State.raiseFault s ch f) := by
  unfold State.raiseFault
  repeat' first
    | with_reducible apply Only.refl
    | with_reducible decide
    | with_reducible apply Only.after (State.onPort_only _ _ _)
    | split
    | (lift_lets; intros)

theorem State.raiseThermal_only (s : State) : Only [.notices] s (State.raiseThermal s) := by
  unfold State.raiseThermal
  repeat' first
    | with_reducible apply Only.refl
    | with_reducible decide
    | with_reducible apply Only.after (State.onPort_only _ _ _)
    | split
    | (lift_lets; intros)

theorem State.raiseSupply_only (s : State) : Only [.notices] s (State.raiseSupply s) := by
  unfold State.raiseSupply
  repeat' first
    | with_reducible apply Only.refl
    | with_reducible decide
    | with_reducible apply Only.after (State.onPort_only _ _ _)
    | split
    | (lift_lets; intros)

theorem State.setFlags_only (s : State) (f : StickyFlags → StickyFlags) : Only [.mon] s (State.setFlags s f) := by
  constructor; intro x hx; cases x <;> first | rfl | (exfalso; revert hx; decide)

theorem State.writeClosure_only (s : State) (c : Closure) (r : ClosureRec) : Only [.closures, .notices] s (State.writeClosure s c r) := by
  unfold State.writeClosure
  repeat' first
    | with_reducible apply Only.refl
    | with_reducible decide
    | with_reducible apply Only.after (State.raiseLockChanged_only _ _)
    | with_reducible apply Only.after (State.setClosure_only _ _ _)
    | split
    | (lift_lets; intros)

theorem State.writeChild_only (s : State) (r : Rear) (v : ChildRec) : Only [.childs, .notices] s (State.writeChild s r v) := by
  unfold State.writeChild
  repeat' first
    | with_reducible apply Only.refl
    | with_reducible decide
    | with_reducible apply Only.after (State.raiseChildChanged_only _ _)
    | with_reducible apply Only.after (State.setChild_only _ _ _)
    | split
    | (lift_lets; intros)

theorem State.writeGoal_only (s : State) (c : Closure) (g : LockPos) (src : LastSource) : Only [.closures, .notices] s (State.writeGoal s c g src) := by
  unfold State.writeGoal
  repeat' first
    | with_reducible apply Only.refl
    | with_reducible decide
    | with_reducible apply Only.after (State.writeClosure_only _ _ _)
    | split
    | (lift_lets; intros)

theorem State.writeConfirmed_only (s : State) (c : Closure) (v : Bool) : Only [.closures, .notices] s (State.writeConfirmed s c v) := by
  unfold State.writeConfirmed
  repeat' first
    | with_reducible apply Only.refl
    | with_reducible decide
    | with_reducible apply Only.after (State.writeClosure_only _ _ _)
    | split
    | (lift_lets; intros)

theorem State.writeChildConfirmed_only (s : State) (r : Rear) (v : Bool) : Only [.childs, .notices] s (State.writeChildConfirmed s r v) := by
  unfold State.writeChildConfirmed
  repeat' first
    | with_reducible apply Only.refl
    | with_reducible decide
    | with_reducible apply Only.after (State.writeChild_only _ _ _)
    | split
    | (lift_lets; intros)

theorem State.writeChildGoal_only (s : State) (r : Rear) (g : ChildState) : Only [.childs, .notices] s (State.writeChildGoal s r g) := by
  unfold State.writeChildGoal
  repeat' first
    | with_reducible apply Only.refl
    | with_reducible decide
    | with_reducible apply Only.after (State.writeChild_only _ _ _)
    | split
    | (lift_lets; intros)

theorem State.completeBuffer_only (s : State) (i : Fin 8) (cause : Completion) : Only [.trace, .notices] s (State.completeBuffer s i cause) := by
  unfold State.completeBuffer
  repeat' first
    | with_reducible apply Only.refl
    | with_reducible decide
    | with_reducible apply Only.after (State.raiseTraceReady_only _)
    | with_reducible apply Only.after (State.setBuffer_only _ _ _)
    | split
    | (lift_lets; intros)

theorem State.completeFilling_only (s : State) (w : Window) (cause : Completion) : Only [.trace, .notices] s (State.completeFilling s w cause) := by
  unfold State.completeFilling
  repeat' first
    | with_reducible apply Only.refl
    | with_reducible decide
    | with_reducible apply Only.after (State.completeBuffer_only _ _ _)
    | split
    | (lift_lets; intros)

theorem State.addSample_only (s : State) (w : Window) (x : Sample) : Only [.trace, .notices] s (State.addSample s w x) := by
  unfold State.addSample
  repeat' first
    | with_reducible apply Only.refl
    | with_reducible decide
    | with_reducible apply Only.after (State.completeBuffer_only _ _ _)
    | with_reducible apply Only.after (State.setBuffer_only _ _ _)
    | with_reducible apply Only.after (State.setRing_only _ _ _)
    | split
    | (lift_lets; intros)

theorem State.advanceSequence_only (s : State) : Only [.trace] s (State.advanceSequence s) := by
  constructor; intro x hx; cases x <;> first | rfl | (exfalso; revert hx; decide)

theorem State.openRecord_only (s : State) (i : Fin 8) (w : Window) (kind : TriggerKind) (sequence : Nat) : Only [.trace, .notices] s (State.openRecord s i w kind sequence) := by
  unfold State.openRecord
  repeat' first
    | with_reducible apply Only.refl
    | with_reducible decide
    | with_reducible apply Only.after (State.completeBuffer_only _ _ _)
    | with_reducible apply Only.after (State.setBuffer_only _ _ _)
    | split
    | (lift_lets; intros)
    | with_reducible apply Only.after (Only.trace _ _)

theorem State.trigger_only (s : State) (w : Window) (kind : TriggerKind) : Only [.trace, .notices] s (State.trigger s w kind) := by
  unfold State.trigger
  repeat' first
    | with_reducible apply Only.refl
    | with_reducible decide
    | with_reducible apply Only.after (State.advanceSequence_only _)
    | with_reducible apply Only.after (State.completeFilling_only _ _ _)
    | with_reducible apply Only.after (State.openRecord_only _ _ _ _ _)
    | with_reducible apply Only.after (State.raiseTraceLost_only _ _ _)
    | split
    | (lift_lets; intros)

theorem State.freeBuffer_only (s : State) (i : Fin 8) : Only [.trace] s (State.freeBuffer s i) := by
  unfold State.freeBuffer
  repeat' first
    | with_reducible apply Only.refl
    | with_reducible decide
    | with_reducible apply Only.after (State.setBuffer_only _ _ _)
    | split
    | (lift_lets; intros)
    | with_reducible apply Only.after (Only.trace _ _)

theorem State.setCursor_only (s : State) (c : Option Cursor) : Only [.trace] s (State.setCursor s c) := by
  constructor; intro x hx; cases x <;> first | rfl | (exfalso; revert hx; decide)

theorem State.startStroke_only (s : State) (w : Window) (dir : Dir) (c : Cal) : Only [.refs] s (State.startStroke s w dir c) := by
  unfold State.startStroke
  repeat' first
    | with_reducible apply Only.refl
    | with_reducible decide
    | with_reducible apply Only.after (State.setRefs_only _ _ _)
    | split
    | (lift_lets; intros)

theorem State.endStroke_only (s : State) (w : Window) : Only [.refs] s (State.endStroke s w) := by
  unfold State.endStroke
  repeat' first
    | with_reducible apply Only.refl
    | with_reducible decide
    | with_reducible apply Only.after (State.setRefs_only _ _ _)
    | split
    | (lift_lets; intros)

theorem State.markStroke_only (s : State) (w : Window) (f : Marks → Marks) : Only [.refs] s (State.markStroke s w f) := by
  unfold State.markStroke
  repeat' first
    | with_reducible apply Only.refl
    | with_reducible decide
    | with_reducible apply Only.after (State.setRefs_only _ _ _)
    | split
    | (lift_lets; intros)

theorem State.markAllStrokes_only (s : State) (f : Marks → Marks) : Only [.refs] s (State.markAllStrokes s f) := by
  unfold State.markAllStrokes
  repeat' first
    | with_reducible apply Only.refl
    | with_reducible decide
    | with_reducible apply Only.after (State.markStroke_only _ _ _)
    | with_reducible apply Only.after (@Only.foldl [.refs] _ _ (fun t a => ?_) _ _)
    | split
    | (lift_lets; intros)

theorem State.writeZoneSample_only (s : State) (w : Window) (z : Fin 32) (effort interval : Nat) : Only [.refs] s (State.writeZoneSample s w z effort interval) := by
  unfold State.writeZoneSample
  repeat' first
    | with_reducible apply Only.refl
    | with_reducible decide
    | with_reducible apply Only.after (State.setRefs_only _ _ _)
    | split
    | (lift_lets; intros)

theorem State.judgeStroke_only (s : State) (w : Window) : Only [.refs, .notices] s (State.judgeStroke s w) := by
  unfold State.judgeStroke
  repeat' first
    | with_reducible apply Only.refl
    | with_reducible decide
    | with_reducible apply Only.after (State.endStroke_only _ _)
    | with_reducible apply Only.after (State.raiseContextChanged_only _ _)
    | with_reducible apply Only.after (State.setRefs_only _ _ _)
    | split
    | (lift_lets; intros)

theorem State.forgetReferences_only (s : State) (w : Window) : Only [.refs] s (State.forgetReferences s w) := by
  unfold State.forgetReferences
  repeat' first
    | with_reducible apply Only.refl
    | with_reducible decide
    | with_reducible apply Only.after (State.setRefs_only _ _ _)
    | split
    | (lift_lets; intros)

theorem State.carryOutForget_only (s : State) (w : Window) : Only [.refs, .notices] s (State.carryOutForget s w) := by
  unfold State.carryOutForget
  repeat' first
    | with_reducible apply Only.refl
    | with_reducible decide
    | with_reducible apply Only.after (State.forgetReferences_only _ _)
    | with_reducible apply Only.after (State.raiseContextChanged_only _ _)
    | split
    | (lift_lets; intros)

theorem State.driveChan_only (s : State) (ch : Channel) (d : Drive) : Only [.mon] s (State.driveChan s ch d) := by
  unfold State.driveChan
  repeat' first
    | with_reducible apply Only.refl
    | with_reducible decide
    | with_reducible apply Only.after (State.setChan_only _ _ _)
    | split
    | (lift_lets; intros)

theorem State.offChan_only (s : State) (ch : Channel) : Only [.mon] s (State.offChan s ch) := by
  unfold State.offChan
  repeat' first
    | with_reducible apply Only.refl
    | with_reducible decide
    | with_reducible apply Only.after (State.setChan_only _ _ _)
    | split
    | (lift_lets; intros)

theorem State.brakeChan_only (s : State) (ch : Channel) : Only [.mon] s (State.brakeChan s ch) := by
  unfold State.brakeChan
  repeat' first
    | with_reducible apply Only.refl
    | with_reducible decide
    | with_reducible apply Only.after (State.setChan_only _ _ _)
    | split
    | (lift_lets; intros)

theorem State.stopMotion_only (s : State) (w : Window) (next : Motion) (braked : Bool) (cause : Completion) : Only [.win, .refs, .trace, .mon, .notices] s (State.stopMotion s w next braked cause) := by
  unfold State.stopMotion
  repeat' first
    | with_reducible apply Only.refl
    | with_reducible decide
    | with_reducible apply Only.after (State.brakeChan_only _ _)
    | with_reducible apply Only.after (State.completeFilling_only _ _ _)
    | with_reducible apply Only.after (State.endStroke_only _ _)
    | with_reducible apply Only.after (State.offChan_only _ _)
    | with_reducible apply Only.after (State.setWin_only _ _ _)
    | split
    | (lift_lets; intros)

theorem State.toIdle_only (s : State) (w : Window) : Only [.win, .refs, .trace, .mon, .notices] s (State.toIdle s w) := by
  unfold State.toIdle
  repeat' first
    | with_reducible apply Only.refl
    | with_reducible decide
    | with_reducible apply Only.after (State.stopMotion_only _ _ _ _ _)
    | split
    | (lift_lets; intros)

theorem State.toDwell_only (s : State) (w : Window) (p : Pending) : Only [.win, .refs, .mon] s (State.toDwell s w p) := by
  unfold State.toDwell
  repeat' first
    | with_reducible apply Only.refl
    | with_reducible decide
    | with_reducible apply Only.after (State.brakeChan_only _ _)
    | with_reducible apply Only.after (State.endStroke_only _ _)
    | with_reducible apply Only.after (State.setWin_only _ _ _)
    | split
    | (lift_lets; intros)

theorem State.startRun_only (s : State) (w : Window) (dir : Dir) (kind : RunKind) (holder : RunHolder) : Only [.win, .pinch, .refs, .trace, .mon, .notices] s (State.startRun s w dir kind holder) := by
  unfold State.startRun
  repeat' first
    | with_reducible apply Only.refl
    | with_reducible decide
    | with_reducible apply Only.after (State.carryOutForget_only _ _)
    | with_reducible apply Only.after (State.driveChan_only _ _ _)
    | with_reducible apply Only.after (State.setPinch_only _ _ _)
    | with_reducible apply Only.after (State.setRing_only _ _ _)
    | with_reducible apply Only.after (State.setWin_only _ _ _)
    | with_reducible apply Only.after (State.startStroke_only _ _ _ _)
    | with_reducible apply Only.after (State.toIdle_only _ _)
    | split
    | (lift_lets; intros)

theorem State.startReverse_only (s : State) (w : Window) (target : Int) : Only [.win, .pinch, .mon] s (State.startReverse s w target) := by
  unfold State.startReverse
  repeat' first
    | with_reducible apply Only.refl
    | with_reducible decide
    | with_reducible apply Only.after (State.driveChan_only _ _ _)
    | with_reducible apply Only.after (State.setPinch_only _ _ _)
    | with_reducible apply Only.after (State.setWin_only _ _ _)
    | split
    | (lift_lets; intros)

theorem State.setAwait_only (s : State) (w : Window) (x : RunHolder) (v : Bool) : Only [.win] s (State.setAwait s w x v) := by
  unfold State.setAwait
  repeat' first
    | with_reducible apply Only.refl
    | with_reducible decide
    | with_reducible apply Only.after (State.setWin_only _ _ _)
    | split
    | (lift_lets; intros)

theorem State.tap_only (s : State) (w : Window) (x : RunHolder) : Only [.win, .refs, .trace, .mon, .notices] s (State.tap s w x) := by
  unfold State.tap
  repeat' first
    | with_reducible apply Only.refl
    | with_reducible decide
    | with_reducible apply Only.after (State.setAwait_only _ _ _ _)
    | with_reducible apply Only.after (State.toIdle_only _ _)
    | split
    | (lift_lets; intros)

theorem State.press_only (s : State) (w : Window) (x : RunHolder) (prev pos : SwitchPos) : Only [.win, .pinch, .refs, .trace, .mon, .notices] s (State.press s w x prev pos) := by
  unfold State.press
  repeat' first
    | with_reducible apply Only.refl
    | with_reducible decide
    | with_reducible apply Only.after (State.setWin_only _ _ _)
    | with_reducible apply Only.after (State.startRun_only _ _ _ _ _)
    | with_reducible apply Only.after (State.tap_only _ _ _)
    | with_reducible apply Only.after (State.toDwell_only _ _ _)
    | split
    | (lift_lets; intros)

theorem State.neutral_only (s : State) (w : Window) (x : RunHolder) : Only [.win, .refs, .trace, .mon, .notices] s (State.neutral s w x) := by
  unfold State.neutral
  repeat' first
    | with_reducible apply Only.refl
    | with_reducible decide
    | with_reducible apply Only.after (State.setAwait_only _ _ _ _)
    | with_reducible apply Only.after (State.toIdle_only _ _)
    | split
    | (lift_lets; intros)

theorem State.takePinch_only (s : State) (w : Window) (cause : PinchCause) (p : Int) : Only [.win, .refs, .trace, .mon, .notices] s (State.takePinch s w cause p) := by
  unfold State.takePinch
  repeat' first
    | with_reducible apply Only.refl
    | with_reducible decide
    | with_reducible apply Only.after (State.markStroke_only _ _ _)
    | with_reducible apply Only.after (State.raiseWindowEvent_only _ _ _)
    | with_reducible apply Only.after (State.setWin_only _ _ _)
    | with_reducible apply Only.after (State.toDwell_only _ _ _)
    | with_reducible apply Only.after (State.trigger_only _ _ _)
    | split
    | (lift_lets; intros)

theorem State.unexpectedStall_only (s : State) (w : Window) : Only [.win, .refs, .trace, .mon, .notices] s (State.unexpectedStall s w) := by
  unfold State.unexpectedStall
  repeat' first
    | with_reducible apply Only.refl
    | with_reducible decide
    | with_reducible apply Only.after (State.raiseWindowEvent_only _ _ _)
    | with_reducible apply Only.after (State.toIdle_only _ _)
    | with_reducible apply Only.after (State.trigger_only _ _ _)
    | split
    | (lift_lets; intros)

theorem State.bottomReached_only (s : State) (w : Window) : Only [.win, .refs, .trace, .mon, .notices] s (State.bottomReached s w) := by
  unfold State.bottomReached
  repeat' first
    | with_reducible apply Only.refl
    | with_reducible decide
    | with_reducible apply Only.after (State.setWin_only _ _ _)
    | with_reducible apply Only.after (State.toIdle_only _ _)
    | split
    | (lift_lets; intros)

theorem State.topStop_only (s : State) (w : Window) (p : Int) : Only [.win, .refs, .trace, .mon, .notices] s (State.topStop s w p) := by
  unfold State.topStop
  repeat' first
    | with_reducible apply Only.refl
    | with_reducible decide
    | with_reducible apply Only.after (State.judgeStroke_only _ _)
    | with_reducible apply Only.after (State.setWin_only _ _ _)
    | with_reducible apply Only.after (State.toIdle_only _ _)
    | split
    | (lift_lets; intros)

theorem State.normalise_only (s : State) (w : Window) : Only [.win, .refs, .trace, .mon, .notices] s (State.normalise s w) := by
  unfold State.normalise
  repeat' first
    | with_reducible apply Only.refl
    | with_reducible decide
    | with_reducible apply Only.after (State.raiseContextChanged_only _ _)
    | with_reducible apply Only.after (State.raiseWindowEvent_only _ _ _)
    | with_reducible apply Only.after (State.setWin_only _ _ _)
    | with_reducible apply Only.after (State.toIdle_only _ _)
    | split
    | (lift_lets; intros)

theorem State.takeStall_only (s : State) (w : Window) : Only [.win, .refs, .trace, .mon, .notices] s (State.takeStall s w) := by
  unfold State.takeStall
  repeat' first
    | with_reducible apply Only.refl
    | with_reducible decide
    | with_reducible apply Only.after (State.bottomReached_only _ _)
    | with_reducible apply Only.after (State.normalise_only _ _)
    | with_reducible apply Only.after (State.takePinch_only _ _ _ _)
    | with_reducible apply Only.after (State.toIdle_only _ _)
    | with_reducible apply Only.after (State.topStop_only _ _ _)
    | with_reducible apply Only.after (State.unexpectedStall_only _ _)
    | split
    | (lift_lets; intros)

theorem State.loseNormalisation_only (s : State) (w : Window) : Only [.win, .refs, .trace, .mon, .notices] s (State.loseNormalisation s w) := by
  unfold State.loseNormalisation
  repeat' first
    | with_reducible apply Only.refl
    | with_reducible decide
    | with_reducible apply Only.after (State.markStroke_only _ _ _)
    | with_reducible apply Only.after (State.raiseContextChanged_only _ _)
    | with_reducible apply Only.after (State.raiseWindowEvent_only _ _ _)
    | with_reducible apply Only.after (State.setWin_only _ _ _)
    | with_reducible apply Only.after (State.toIdle_only _ _)
    | split
    | (lift_lets; intros)

theorem State.count_only (s : State) (w : Window) (dir : Dir) (p : Int) : Only [.win, .refs, .trace, .mon, .notices] s (State.count s w dir p) := by
  unfold State.count
  repeat' first
    | with_reducible apply Only.refl
    | with_reducible decide
    | with_reducible apply Only.after (State.bottomReached_only _ _)
    | with_reducible apply Only.after (State.loseNormalisation_only _ _)
    | with_reducible apply Only.after (State.setWin_only _ _ _)
    | split
    | (lift_lets; intros)

theorem State.pulseTiming_only (s : State) (w : Window) : Only [.pinch] s (State.pulseTiming s w) := by
  unfold State.pulseTiming
  repeat' first
    | with_reducible apply Only.refl
    | with_reducible decide
    | with_reducible apply Only.after (State.setPinch_only _ _ _)
    | split
    | (lift_lets; intros)

theorem State.ripple_only (s : State) (w : Window) : Only [.win, .pinch, .refs, .trace, .mon, .notices] s (State.ripple s w) := by
  unfold State.ripple
  repeat' first
    | with_reducible apply Only.refl
    | with_reducible decide
    | with_reducible apply Only.after (State.count_only _ _ _ _)
    | with_reducible apply Only.after (State.pulseTiming_only _ _)
    | with_reducible apply Only.after (State.setWin_only _ _ _)
    | split
    | (lift_lets; intros)

theorem State.endDwell_only (s : State) (w : Window) : Only [.win, .pinch, .refs, .trace, .mon, .notices] s (State.endDwell s w) := by
  unfold State.endDwell
  repeat' first
    | with_reducible apply Only.refl
    | with_reducible decide
    | with_reducible apply Only.after (State.startReverse_only _ _ _)
    | with_reducible apply Only.after (State.startRun_only _ _ _ _ _)
    | with_reducible apply Only.after (State.toIdle_only _ _)
    | split
    | (lift_lets; intros)

theorem State.addCause_only (s : State) (w : Window) (k : Cause) : Only [.win, .refs, .trace, .mon, .notices] s (State.addCause s w k) := by
  unfold State.addCause
  repeat' first
    | with_reducible apply Only.refl
    | with_reducible decide
    | with_reducible apply Only.after (State.setWin_only _ _ _)
    | with_reducible apply Only.after (State.stopMotion_only _ _ _ _ _)
    | split
    | (lift_lets; intros)

theorem State.removeCause_only (s : State) (w : Window) (k : Cause) : Only [.win] s (State.removeCause s w k) := by
  unfold State.removeCause
  repeat' first
    | with_reducible apply Only.refl
    | with_reducible decide
    | with_reducible apply Only.after (State.setWin_only _ _ _)
    | split
    | (lift_lets; intros)

theorem State.addCauseAll_only (s : State) (k : Cause) : Only [.win, .refs, .trace, .mon, .notices] s (State.addCauseAll s k) := by
  unfold State.addCauseAll
  repeat' first
    | with_reducible apply Only.refl
    | with_reducible decide
    | with_reducible apply Only.after (State.addCause_only _ _ _)
    | with_reducible apply Only.after (@Only.foldl [.win, .refs, .trace, .mon, .notices] _ _ (fun t a => ?_) _ _)
    | split
    | (lift_lets; intros)

theorem State.removeCauseAll_only (s : State) (k : Cause) : Only [.win] s (State.removeCauseAll s k) := by
  unfold State.removeCauseAll
  repeat' first
    | with_reducible apply Only.refl
    | with_reducible decide
    | with_reducible apply Only.after (State.removeCause_only _ _ _)
    | with_reducible apply Only.after (@Only.foldl [.win] _ _ (fun t a => ?_) _ _)
    | split
    | (lift_lets; intros)

theorem State.endHeld_only (s : State) (f : RunHolder → Bool) (w : Window) : Only [.win, .refs, .trace, .mon, .notices] s (State.endHeld s f w) := by
  unfold State.endHeld
  repeat' first
    | with_reducible apply Only.refl
    | with_reducible decide
    | with_reducible apply Only.after (State.toIdle_only _ _)
    | split
    | (lift_lets; intros)

theorem State.endHeldAll_only (s : State) (f : RunHolder → Bool) : Only [.win, .refs, .trace, .mon, .notices] s (State.endHeldAll s f) := by
  unfold State.endHeldAll
  repeat' first
    | with_reducible apply Only.refl
    | with_reducible decide
    | with_reducible apply Only.after (State.endHeld_only _ _ _)
    | with_reducible apply Only.after (@Only.foldl [.win, .refs, .trace, .mon, .notices] _ _ (fun t a => ?_) _ _)
    | split
    | (lift_lets; intros)

theorem State.endPower_only (s : State) : Only [.win, .refs, .trace, .mon, .notices] s (State.endPower s) := by
  unfold State.endPower
  repeat' first
    | with_reducible apply Only.refl
    | with_reducible decide
    | with_reducible apply Only.after (State.endHeldAll_only _ _)
    | split
    | (lift_lets; intros)

theorem State.stopRetained_only (s : State) : Only [.win, .refs, .trace, .mon, .notices] s (State.stopRetained s) := by
  unfold State.stopRetained
  repeat' first
    | with_reducible apply Only.refl
    | with_reducible decide
    | with_reducible apply Only.after (State.endPower_only _)
    | split
    | (lift_lets; intros)
    | with_reducible apply Only.after (Only.win _ _)

theorem State.beginLockout_only (s : State) (w : Window) : Only [.win, .refs, .trace, .mon, .notices] s (State.beginLockout s w) := by
  unfold State.beginLockout
  repeat' first
    | with_reducible apply Only.refl
    | with_reducible decide
    | with_reducible apply Only.after (State.endHeld_only _ _ _)
    | split
    | (lift_lets; intros)

theorem State.comfortStart_only (s : State) (w : Window) (dir : Dir) (h : RunHolder) : Only [.win, .pinch, .refs, .trace, .mon, .notices] s (State.comfortStart s w dir h) := by
  unfold State.comfortStart
  repeat' first
    | with_reducible apply Only.refl
    | with_reducible decide
    | with_reducible apply Only.after (State.setWin_only _ _ _)
    | with_reducible apply Only.after (State.startRun_only _ _ _ _ _)
    | with_reducible apply Only.after (State.toDwell_only _ _ _)
    | split
    | (lift_lets; intros)

theorem State.comfortOn_only (s : State) (w : Window) (dir : Dir) (h : RunHolder) : Only [.win, .pinch, .refs, .trace, .mon, .notices] s (State.comfortOn s w dir h) := by
  unfold State.comfortOn
  repeat' first
    | with_reducible apply Only.refl
    | with_reducible decide
    | with_reducible apply Only.after (State.comfortStart_only _ _ _ _)
    | split
    | (lift_lets; intros)

theorem State.comfortAll_only (s : State) (dir : Dir) (h : RunHolder) : Only [.win, .pinch, .refs, .trace, .mon, .notices] s (State.comfortAll s dir h) := by
  unfold State.comfortAll
  repeat' first
    | with_reducible apply Only.refl
    | with_reducible decide
    | with_reducible apply Only.after (State.comfortOn_only _ _ _ _)
    | with_reducible apply Only.after (@Only.foldl [.win, .pinch, .refs, .trace, .mon, .notices] _ _ (fun t a => ?_) _ _)
    | split
    | (lift_lets; intros)

theorem State.recordRepeat_only (s : State) (c : Command) : Only [.seq] s (State.recordRepeat s c) := by
  unfold State.recordRepeat
  repeat' first
    | with_reducible apply Only.refl
    | with_reducible decide
    | with_reducible apply Only.after (State.setRepeat_only _ _)
    | split
    | (lift_lets; intros)

theorem State.offer_only (s : State) (c : Command) : Only [.seq, .notices] s (State.offer s c) := by
  unfold State.offer
  repeat' first
    | with_reducible apply Only.refl
    | with_reducible decide
    | with_reducible apply Only.after (State.raiseCancelled_only _ _)
    | with_reducible apply Only.after (State.recordRepeat_only _ _)
    | with_reducible apply Only.after (State.setQueue_only _ _)
    | with_reducible apply Only.after (@Only.foldl [.seq, .notices] _ _ (fun t a => ?_) _ _)
    | split
    | (lift_lets; intros)

theorem State.superlockRelock_only (s : State) : Only [.seq, .notices] s (State.superlockRelock s) := by
  unfold State.superlockRelock
  dsimp only
  repeat' first
    | with_reducible apply Only.refl
    | with_reducible decide
    | with_reducible apply Only.after (State.raiseCancelled_only _ _)
    | with_reducible apply Only.after (State.recordRepeat_only _ _)
    | with_reducible apply Only.after (State.setQueue_only _ _)
    | split
    | (lift_lets; intros)

theorem State.finishIfDone_only (s : State) : Only [.seq] s (State.finishIfDone s) := by
  unfold State.finishIfDone
  repeat' first
    | with_reducible apply Only.refl
    | with_reducible decide
    | with_reducible apply Only.after (State.setQueue_only _ _)
    | split
    | (lift_lets; intros)

theorem State.confirmEnd_only (s : State) (a : Actuator) (v : Bool) : Only [.closures, .childs, .notices] s (State.confirmEnd s a v) := by
  unfold State.confirmEnd
  repeat' first
    | with_reducible apply Only.refl
    | with_reducible decide
    | with_reducible apply Only.after (State.writeChildConfirmed_only _ _ _)
    | with_reducible apply Only.after (State.writeConfirmed_only _ _ _)
    | split
    | (lift_lets; intros)

theorem State.dropOp_only (s : State) (a : Actuator) : Only [.seq, .mon] s (State.dropOp s a) := by
  unfold State.dropOp
  repeat' first
    | with_reducible apply Only.refl
    | with_reducible decide
    | with_reducible apply Only.after (State.offChan_only _ _)
    | with_reducible apply Only.after (State.setOp_only _ _ _)
    | split
    | (lift_lets; intros)

theorem State.endSuccess_only (s : State) (a : Actuator) : Only [.closures, .childs, .seq, .mon, .notices] s (State.endSuccess s a) := by
  unfold State.endSuccess
  repeat' first
    | with_reducible apply Only.refl
    | with_reducible decide
    | with_reducible apply Only.after (State.confirmEnd_only _ _ _)
    | with_reducible apply Only.after (State.dropOp_only _ _)
    | with_reducible apply Only.after (State.finishIfDone_only _)
    | split
    | (lift_lets; intros)

theorem State.endFailed_only (s : State) (a : Actuator) (why : FailReason) : Only [.closures, .childs, .seq, .mon, .notices] s (State.endFailed s a why) := by
  unfold State.endFailed
  repeat' first
    | with_reducible apply Only.refl
    | with_reducible decide
    | with_reducible apply Only.after (State.confirmEnd_only _ _ _)
    | with_reducible apply Only.after (State.dropOp_only _ _)
    | with_reducible apply Only.after (State.finishIfDone_only _)
    | with_reducible apply Only.after (State.raiseActuationFailed_only _ _ _ _)
    | split
    | (lift_lets; intros)

theorem State.startPulse_only (s : State) (a : Actuator) (o : Op) : Only [.seq, .mon] s (State.startPulse s a o) := by
  unfold State.startPulse
  repeat' first
    | with_reducible apply Only.refl
    | with_reducible decide
    | with_reducible apply Only.after (State.addHeat_only _ _)
    | with_reducible apply Only.after (State.driveChan_only _ _ _)
    | with_reducible apply Only.after (State.setOp_only _ _ _)
    | split
    | (lift_lets; intros)

theorem State.pulseCheck_only (s : State) (a : Actuator) : Only [.closures, .childs, .seq, .mon, .notices] s (State.pulseCheck s a) := by
  unfold State.pulseCheck
  repeat' first
    | with_reducible apply Only.refl
    | with_reducible decide
    | with_reducible apply Only.after (State.endFailed_only _ _ _)
    | with_reducible apply Only.after (State.startPulse_only _ _ _)
    | split
    | (lift_lets; intros)

theorem State.grantSlot_only (s : State) : Only [.closures, .childs, .seq, .mon, .notices] s (State.grantSlot s) := by
  unfold State.grantSlot
  repeat' first
    | with_reducible apply Only.refl
    | with_reducible decide
    | with_reducible apply Only.after (State.pulseCheck_only _ _)
    | with_reducible apply Only.after (State.setOp_only _ _ _)
    | split
    | (lift_lets; intros)

theorem State.endPulse_only (s : State) (a : Actuator) (o : Op) : Only [.closures, .childs, .seq, .mon, .notices] s (State.endPulse s a o) := by
  unfold State.endPulse
  repeat' first
    | with_reducible apply Only.refl
    | with_reducible decide
    | with_reducible apply Only.after (State.endSuccess_only _ _)
    | with_reducible apply Only.after (State.offChan_only _ _)
    | with_reducible apply Only.after (State.setOp_only _ _ _)
    | split
    | (lift_lets; intros)

theorem State.endSettle_only (s : State) (a : Actuator) (o : Op) : Only [.closures, .childs, .seq, .mon, .notices] s (State.endSettle s a o) := by
  unfold State.endSettle
  repeat' first
    | with_reducible apply Only.refl
    | with_reducible decide
    | with_reducible apply Only.after (State.endFailed_only _ _ _)
    | with_reducible apply Only.after (State.endSuccess_only _ _)
    | with_reducible apply Only.after (State.setOp_only _ _ _)
    | split
    | (lift_lets; intros)

theorem State.dropPulse_only (s : State) (a : Actuator) : Only [.seq, .mon] s (State.dropPulse s a) := by
  unfold State.dropPulse
  repeat' first
    | with_reducible apply Only.refl
    | with_reducible decide
    | with_reducible apply Only.after (State.offChan_only _ _)
    | with_reducible apply Only.after (State.setOp_only _ _ _)
    | split
    | (lift_lets; intros)

theorem State.dropPulses_only (s : State) : Only [.seq, .mon] s (State.dropPulses s) := by
  unfold State.dropPulses
  repeat' first
    | with_reducible apply Only.refl
    | with_reducible decide
    | with_reducible apply Only.after (State.dropPulse_only _ _)
    | with_reducible apply Only.after (@Only.foldl [.seq, .mon] _ _ (fun t a => ?_) _ _)
    | split
    | (lift_lets; intros)

theorem State.resumePulse_only (s : State) (a : Actuator) : Only [.closures, .childs, .seq, .mon, .notices] s (State.resumePulse s a) := by
  unfold State.resumePulse
  repeat' first
    | with_reducible apply Only.refl
    | with_reducible decide
    | with_reducible apply Only.after (State.pulseCheck_only _ _)
    | split
    | (lift_lets; intros)

theorem State.resumePulses_only (s : State) : Only [.closures, .childs, .seq, .mon, .notices] s (State.resumePulses s) := by
  unfold State.resumePulses
  repeat' first
    | with_reducible apply Only.refl
    | with_reducible decide
    | with_reducible apply Only.after (State.resumePulse_only _ _)
    | with_reducible apply Only.after (@Only.foldl [.closures, .childs, .seq, .mon, .notices] _ _ (fun t a => ?_) _ _)
    | split
    | (lift_lets; intros)

theorem State.thermalAbort_only (s : State) (a : Actuator) : Only [.closures, .childs, .seq, .mon, .notices] s (State.thermalAbort s a) := by
  unfold State.thermalAbort
  repeat' first
    | with_reducible apply Only.refl
    | with_reducible decide
    | with_reducible apply Only.after (State.confirmEnd_only _ _ _)
    | with_reducible apply Only.after (State.dropOp_only _ _)
    | with_reducible apply Only.after (State.raiseActuationFailed_only _ _ _ _)
    | split
    | (lift_lets; intros)

theorem State.thermalAborts_only (s : State) : Only [.closures, .childs, .seq, .mon, .notices] s (State.thermalAborts s) := by
  unfold State.thermalAborts
  repeat' first
    | with_reducible apply Only.refl
    | with_reducible decide
    | with_reducible apply Only.after (State.finishIfDone_only _)
    | with_reducible apply Only.after (State.thermalAbort_only _ _)
    | with_reducible apply Only.after (@Only.foldl [.closures, .childs, .seq, .mon, .notices] _ _ (fun t a => ?_) _ _)
    | split
    | (lift_lets; intros)

theorem State.createLockOp_only (s : State) (c : Closure) : Only [.seq] s (State.createLockOp s c) := by
  unfold State.createLockOp
  repeat' first
    | with_reducible apply Only.refl
    | with_reducible decide
    | with_reducible apply Only.after (State.setOp_only _ _ _)
    | split
    | (lift_lets; intros)

theorem State.startOn_only (k : CmdKind) (src : CmdSource) (s : State) (c : Closure) : Only [.closures, .seq, .notices] s (State.startOn k src s c) := by
  unfold State.startOn
  repeat' first
    | with_reducible apply Only.refl
    | with_reducible decide
    | with_reducible apply Only.after (State.createLockOp_only _ _)
    | with_reducible apply Only.after (State.writeGoal_only _ _ _ _)
    | split
    | (lift_lets; intros)

theorem State.relockAtStart_only (s : State) (k : CmdKind) (src : CmdSource) : Only [.seq] s (State.relockAtStart s k src) := by
  unfold State.relockAtStart
  repeat' first
    | with_reducible apply Only.refl
    | with_reducible decide
    | with_reducible apply Only.after (State.setRelock_only _ _)
    | split
    | (lift_lets; intros)

theorem State.startRelease_only (s : State) (port : Option Port) : Only [.seq, .notices] s (State.startRelease s port) := by
  unfold State.startRelease
  repeat' first
    | with_reducible apply Only.refl
    | with_reducible decide
    | with_reducible apply Only.after (State.raiseActuationFailed_only _ _ _ _)
    | with_reducible apply Only.after (State.setOp_only _ _ _)
    | split
    | (lift_lets; intros)

theorem State.startChild_only (s : State) (r : Rear) (st : ChildState) : Only [.childs, .seq, .win, .refs, .trace, .mon, .notices] s (State.startChild s r st) := by
  unfold State.startChild
  dsimp only
  repeat' first
    | with_reducible apply Only.refl
    | with_reducible decide
    | with_reducible apply Only.after (State.beginLockout_only _ _)
    | with_reducible apply Only.after (State.setOp_only _ _ _)
    | with_reducible apply Only.after (State.writeChildGoal_only _ _ _)
    | split
    | (lift_lets; intros)

theorem State.startKind_only (s : State) (k : CmdKind) (e : Entry) : Only [.closures, .childs, .seq, .win, .refs, .trace, .mon, .notices] s (State.startKind s k e) := by
  unfold State.startKind
  repeat' first
    | with_reducible apply Only.refl
    | with_reducible decide
    | with_reducible apply Only.after (State.relockAtStart_only _ _ _)
    | with_reducible apply Only.after (State.startChild_only _ _ _)
    | with_reducible apply Only.after (State.startOn_only _ _ _ _)
    | with_reducible apply Only.after (State.startRelease_only _ _)
    | with_reducible apply Only.after (@Only.foldl [.closures, .childs, .seq, .win, .refs, .trace, .mon, .notices] _ _ (fun t a => ?_) _ _)
    | split
    | (lift_lets; intros)

theorem State.startHead_only (s : State) : Only [.closures, .childs, .seq, .win, .refs, .trace, .mon, .notices] s (State.startHead s) := by
  unfold State.startHead
  repeat' first
    | with_reducible apply Only.refl
    | with_reducible decide
    | with_reducible apply Only.after (State.finishIfDone_only _)
    | with_reducible apply Only.after (State.raiseSuperlockRefused_only _ _ _)
    | with_reducible apply Only.after (State.setQueue_only _ _)
    | with_reducible apply Only.after (State.startKind_only _ _ _)
    | split
    | (lift_lets; intros)

theorem State.tryHead_only (s : State) : Only [.closures, .childs, .seq, .win, .refs, .trace, .mon, .notices] s (State.tryHead s) := by
  unfold State.tryHead
  repeat' first
    | with_reducible apply Only.refl
    | with_reducible decide
    | with_reducible apply Only.after (State.startHead_only _)
    | split
    | (lift_lets; intros)

theorem State.setDetector_only (s : State) (d : Detector) (timer : Option Nat) : Only [.crash] s (State.setDetector s d timer) := by
  constructor; intro x hx; cases x <;> first | rfl | (exfalso; revert hx; decide)

theorem State.driveCrash_only (s : State) (c : Closure) (retries : Nat) : Only [.seq, .mon] s (State.driveCrash s c retries) := by
  unfold State.driveCrash
  repeat' first
    | with_reducible apply Only.refl
    | with_reducible decide
    | with_reducible apply Only.after (State.addHeat_only _ _)
    | with_reducible apply Only.after (State.driveChan_only _ _ _)
    | with_reducible apply Only.after (State.setOp_only _ _ _)
    | split
    | (lift_lets; intros)

theorem State.createCrash_only (s : State) (c : Closure) : Only [.seq, .mon] s (State.createCrash s c) := by
  unfold State.createCrash
  repeat' first
    | with_reducible apply Only.refl
    | with_reducible decide
    | with_reducible apply Only.after (State.driveCrash_only _ _ _)
    | split
    | (lift_lets; intros)

theorem State.refreshCrash_only (s : State) : Only [.seq, .mon] s (State.refreshCrash s) := by
  unfold State.refreshCrash
  repeat' first
    | with_reducible apply Only.refl
    | with_reducible decide
    | with_reducible apply Only.after (State.createCrash_only _ _)
    | with_reducible apply Only.after (@Only.foldl [.seq, .mon] _ _ (fun t a => ?_) _ _)
    | split
    | (lift_lets; intros)

theorem State.abortOrdinary_only (s : State) (a : Actuator) : Only [.seq, .mon] s (State.abortOrdinary s a) := by
  unfold State.abortOrdinary
  repeat' first
    | with_reducible apply Only.refl
    | with_reducible decide
    | with_reducible apply Only.after (State.dropOp_only _ _)
    | split
    | (lift_lets; intros)

theorem State.clearPending_only (s : State) : Only [.seq, .notices] s (State.clearPending s) := by
  unfold State.clearPending
  repeat' first
    | with_reducible apply Only.refl
    | with_reducible decide
    | with_reducible apply Only.after (State.raiseCancelled_only _ _)
    | with_reducible apply Only.after (State.setQueue_only _ _)
    | with_reducible apply Only.after (@Only.foldl [.seq, .notices] _ _ (fun t a => ?_) _ _)
    | split
    | (lift_lets; intros)

theorem State.clearRunningLock_only (s : State) : Only [.seq, .mon] s (State.clearRunningLock s) := by
  unfold State.clearRunningLock
  repeat' first
    | with_reducible apply Only.refl
    | with_reducible decide
    | with_reducible apply Only.after (State.abortOrdinary_only _ _)
    | with_reducible apply Only.after (State.setQueue_only _ _)
    | with_reducible apply Only.after (@Only.foldl [.seq, .mon] _ _ (fun t a => ?_) _ _)
    | split
    | (lift_lets; intros)

theorem State.returnChild_only (s : State) : Only [.childs, .seq, .mon, .notices] s (State.returnChild s) := by
  unfold State.returnChild
  repeat' first
    | with_reducible apply Only.refl
    | with_reducible decide
    | with_reducible apply Only.after (State.abortOrdinary_only _ _)
    | with_reducible apply Only.after (State.setQueue_only _ _)
    | with_reducible apply Only.after (State.writeChildConfirmed_only _ _ _)
    | split
    | (lift_lets; intros)

theorem State.crashGoals_only (s : State) : Only [.closures, .notices] s (State.crashGoals s) := by
  unfold State.crashGoals
  repeat' first
    | with_reducible apply Only.refl
    | with_reducible decide
    | with_reducible apply Only.after (State.writeGoal_only _ _ _ _)
    | with_reducible apply Only.after (@Only.foldl [.closures, .notices] _ _ (fun t a => ?_) _ _)
    | split
    | (lift_lets; intros)

theorem State.firstCrash_only (s : State) : Only [.closures, .childs, .seq, .crash, .win, .refs, .trace, .mon, .notices] s (State.firstCrash s) := by
  unfold State.firstCrash
  repeat' first
    | with_reducible apply Only.refl
    | with_reducible decide
    | with_reducible apply Only.after (State.addCauseAll_only _ _)
    | with_reducible apply Only.after (State.clearPending_only _)
    | with_reducible apply Only.after (State.clearRunningLock_only _)
    | with_reducible apply Only.after (State.crashGoals_only _)
    | with_reducible apply Only.after (State.createCrash_only _ _)
    | with_reducible apply Only.after (State.raiseCrash_only _)
    | with_reducible apply Only.after (State.returnChild_only _)
    | with_reducible apply Only.after (State.setRelock_only _ _)
    | with_reducible apply Only.after (@Only.foldl [.closures, .childs, .seq, .crash, .win, .refs, .trace, .mon, .notices] _ _ (fun t a => ?_) _ _)
    | split
    | (lift_lets; intros)
    | with_reducible apply Only.after (Only.crash _ _)

theorem State.secondCrash_only (s : State) : Only [.childs, .seq, .win, .refs, .trace, .mon, .notices] s (State.secondCrash s) := by
  unfold State.secondCrash
  repeat' first
    | with_reducible apply Only.refl
    | with_reducible decide
    | with_reducible apply Only.after (State.addCauseAll_only _ _)
    | with_reducible apply Only.after (State.raiseCrash_only _)
    | with_reducible apply Only.after (State.refreshCrash_only _)
    | with_reducible apply Only.after (State.returnChild_only _)
    | split
    | (lift_lets; intros)

theorem State.crashEvent_only (s : State) : Only [.closures, .childs, .seq, .crash, .win, .refs, .trace, .mon, .notices] s (State.crashEvent s) := by
  unfold State.crashEvent
  repeat' first
    | with_reducible apply Only.refl
    | with_reducible decide
    | with_reducible apply Only.after (State.firstCrash_only _)
    | with_reducible apply Only.after (State.secondCrash_only _)
    | split
    | (lift_lets; intros)

theorem State.endCrashPulse_only (s : State) (c : Closure) (o : Op) : Only [.seq, .mon] s (State.endCrashPulse s c o) := by
  unfold State.endCrashPulse
  repeat' first
    | with_reducible apply Only.refl
    | with_reducible decide
    | with_reducible apply Only.after (State.offChan_only _ _)
    | with_reducible apply Only.after (State.setOp_only _ _ _)
    | split
    | (lift_lets; intros)

theorem State.failCrash_only (s : State) (c : Closure) (why : FailReason) : Only [.closures, .seq, .mon, .notices] s (State.failCrash s c why) := by
  unfold State.failCrash
  repeat' first
    | with_reducible apply Only.refl
    | with_reducible decide
    | with_reducible apply Only.after (State.dropOp_only _ _)
    | with_reducible apply Only.after (State.raiseActuationFailed_only _ _ _ _)
    | with_reducible apply Only.after (State.writeConfirmed_only _ _ _)
    | split
    | (lift_lets; intros)

theorem State.endCrashSettle_only (s : State) (c : Closure) (o : Op) : Only [.closures, .seq, .mon, .notices] s (State.endCrashSettle s c o) := by
  unfold State.endCrashSettle
  repeat' first
    | with_reducible apply Only.refl
    | with_reducible decide
    | with_reducible apply Only.after (State.driveCrash_only _ _ _)
    | with_reducible apply Only.after (State.dropOp_only _ _)
    | with_reducible apply Only.after (State.failCrash_only _ _ _)
    | with_reducible apply Only.after (State.writeConfirmed_only _ _ _)
    | split
    | (lift_lets; intros)

theorem State.abortCrash_only (s : State) (c : Closure) : Only [.closures, .seq, .mon, .notices] s (State.abortCrash s c) := by
  unfold State.abortCrash
  repeat' first
    | with_reducible apply Only.refl
    | with_reducible decide
    | with_reducible apply Only.after (State.dropOp_only _ _)
    | with_reducible apply Only.after (State.writeConfirmed_only _ _ _)
    | split
    | (lift_lets; intros)

theorem State.faultFound_only (s : State) (ch : Channel) (k : DetectKind) : Only [.mon, .notices] s (State.faultFound s ch k) := by
  unfold State.faultFound
  repeat' first
    | with_reducible apply Only.refl
    | with_reducible decide
    | with_reducible apply Only.after (State.raiseFault_only _ _ _)
    | with_reducible apply Only.after (State.setChan_only _ _ _)
    | with_reducible apply Only.after (State.setFlags_only _ _)
    | split
    | (lift_lets; intros)

theorem State.withdraw_only (s : State) (ch : Channel) : Only [.win, .refs, .trace, .mon, .notices] s (State.withdraw s ch) := by
  unfold State.withdraw
  repeat' first
    | with_reducible apply Only.refl
    | with_reducible decide
    | with_reducible apply Only.after (State.addCause_only _ _ _)
    | with_reducible apply Only.after (State.offChan_only _ _)
    | with_reducible apply Only.after (State.setChan_only _ _ _)
    | split
    | (lift_lets; intros)

theorem State.overcurrentEnd_only (s : State) (a : Actuator) : Only [.closures, .childs, .seq, .mon, .notices] s (State.overcurrentEnd s a) := by
  unfold State.overcurrentEnd
  repeat' first
    | with_reducible apply Only.refl
    | with_reducible decide
    | with_reducible apply Only.after (State.endFailed_only _ _ _)
    | with_reducible apply Only.after (State.failCrash_only _ _ _)
    | split
    | (lift_lets; intros)

theorem State.detectOvercurrent_only (s : State) (ch : Channel) : Only [.closures, .childs, .seq, .win, .refs, .trace, .mon, .notices] s (State.detectOvercurrent s ch) := by
  unfold State.detectOvercurrent
  repeat' first
    | with_reducible apply Only.refl
    | with_reducible decide
    | with_reducible apply Only.after (State.faultFound_only _ _ _)
    | with_reducible apply Only.after (State.offChan_only _ _)
    | with_reducible apply Only.after (State.overcurrentEnd_only _ _)
    | with_reducible apply Only.after (State.trigger_only _ _ _)
    | with_reducible apply Only.after (State.withdraw_only _ _)
    | split
    | (lift_lets; intros)

theorem State.countCurrent_only (s : State) (ch : Channel) (code : Nat) : Only [.mon] s (State.countCurrent s ch code) := by
  unfold State.countCurrent
  repeat' first
    | with_reducible apply Only.refl
    | with_reducible decide
    | with_reducible apply Only.after (State.setChan_only _ _ _)
    | split
    | (lift_lets; intros)

theorem State.measure_only (s : State) (a : Actuator) (code : Nat) : Only [.closures, .childs, .seq, .win, .refs, .trace, .mon, .notices] s (State.measure s a code) := by
  unfold State.measure
  repeat' first
    | with_reducible apply Only.refl
    | with_reducible decide
    | with_reducible apply Only.after (State.countCurrent_only _ _ _)
    | with_reducible apply Only.after (State.detectOvercurrent_only _ _)
    | split
    | (lift_lets; intros)

theorem State.cleanDrive_only (s : State) (ch : Channel) : Only [.mon] s (State.cleanDrive s ch) := by
  unfold State.cleanDrive
  repeat' first
    | with_reducible apply Only.refl
    | with_reducible decide
    | with_reducible apply Only.after (State.setChan_only _ _ _)
    | split
    | (lift_lets; intros)

theorem State.judgeOpenLoad_only (s : State) (ch : Channel) : Only [.mon, .notices] s (State.judgeOpenLoad s ch) := by
  unfold State.judgeOpenLoad
  repeat' first
    | with_reducible apply Only.refl
    | with_reducible decide
    | with_reducible apply Only.after (State.faultFound_only _ _ _)
    | with_reducible apply Only.after (State.setChan_only _ _ _)
    | split
    | (lift_lets; intros)

theorem State.drivePoint_only (s : State) (ch : Channel) : Only [.now, .mon, .notices] s (State.drivePoint s ch) := by
  unfold State.drivePoint
  repeat' first
    | with_reducible apply Only.refl
    | with_reducible decide
    | with_reducible apply Only.after (State.cleanDrive_only _ _)
    | with_reducible apply Only.after (State.judgeOpenLoad_only _ _)
    | with_reducible apply Only.after (State.reach_only _ _)
    | with_reducible apply Only.after (State.setChan_only _ _ _)
    | split
    | (lift_lets; intros)

theorem State.judgeShort_only (s : State) (ch : Channel) (k : DetectKind) (held clean : Bool) : Only [.win, .refs, .trace, .mon, .notices] s (State.judgeShort s ch k held clean) := by
  unfold State.judgeShort
  repeat' first
    | with_reducible apply Only.refl
    | with_reducible decide
    | with_reducible apply Only.after (State.faultFound_only _ _ _)
    | with_reducible apply Only.after (State.setChan_only _ _ _)
    | with_reducible apply Only.after (State.withdraw_only _ _)
    | split
    | (lift_lets; intros)

theorem State.testOff_only (s : State) (ch : Channel) (f : Finding) : Only [.win, .refs, .trace, .mon, .notices] s (State.testOff s ch f) := by
  unfold State.testOff
  repeat' first
    | with_reducible apply Only.refl
    | with_reducible decide
    | with_reducible apply Only.after (State.judgeShort_only _ _ _ _ _)
    | split
    | (lift_lets; intros)

theorem State.testAllOff_only (s : State) (f : Channels Finding) : Only [.win, .refs, .trace, .mon, .notices] s (State.testAllOff s f) := by
  unfold State.testAllOff
  repeat' first
    | with_reducible apply Only.refl
    | with_reducible decide
    | with_reducible apply Only.after (State.testOff_only _ _ _)
    | with_reducible apply Only.after (@Only.foldl [.win, .refs, .trace, .mon, .notices] _ _ (fun t a => ?_) _ _)
    | split
    | (lift_lets; intros)

theorem State.clearCounts_only (s : State) : Only [.mon] s (State.clearCounts s) := by
  unfold State.clearCounts
  repeat' first
    | with_reducible apply Only.refl
    | with_reducible decide
    | with_reducible apply Only.after (State.setChan_only _ _ _)
    | with_reducible apply Only.after (@Only.foldl [.mon] _ _ (fun t a => ?_) _ _)
    | split
    | (lift_lets; intros)

theorem State.applyCounter_only (s : State) (i : Fin 8) (c : Nat) (action : Option FobAction) (v : CounterVerdict) : Only [.fobs, .notices] s (State.applyCounter s i c action v) := by
  unfold State.applyCounter
  repeat' first
    | with_reducible apply Only.refl
    | with_reducible decide
    | with_reducible apply Only.after (State.raiseFobCounter_only _ _)
    | with_reducible apply Only.after (State.setSlot_only _ _ _)
    | split
    | (lift_lets; intros)

theorem State.renewSession_only (s : State) : Only [.fobs] s (State.renewSession s) := by
  unfold State.renewSession
  repeat' first
    | with_reducible apply Only.refl
    | with_reducible decide
    | with_reducible apply Only.after (State.setSession_only _ _)
    | split
    | (lift_lets; intros)

theorem State.endSession_only (s : State) : Only [.fobs, .win, .refs, .trace, .mon, .notices] s (State.endSession s) := by
  unfold State.endSession
  repeat' first
    | with_reducible apply Only.refl
    | with_reducible decide
    | with_reducible apply Only.after (State.endHeldAll_only _ _)
    | with_reducible apply Only.after (State.setSession_only _ _)
    | split
    | (lift_lets; intros)

theorem State.replaceSession_only (s : State) (i : Fin 8) (d : ComfortDir) : Only [.fobs, .win, .refs, .trace, .mon, .notices] s (State.replaceSession s i d) := by
  unfold State.replaceSession
  repeat' first
    | with_reducible apply Only.refl
    | with_reducible decide
    | with_reducible apply Only.after (State.endHeldAll_only _ _)
    | with_reducible apply Only.after (State.setSession_only _ _)
    | split
    | (lift_lets; intros)

theorem State.comfortNew_only (s : State) (i : Fin 8) (d : ComfortDir) (cmd : Command) : Only [.seq, .fobs, .win, .pinch, .refs, .trace, .mon, .notices] s (State.comfortNew s i d cmd) := by
  unfold State.comfortNew
  repeat' first
    | with_reducible apply Only.refl
    | with_reducible decide
    | with_reducible apply Only.after (State.comfortAll_only _ _ _)
    | with_reducible apply Only.after (State.offer_only _ _)
    | with_reducible apply Only.after (State.replaceSession_only _ _ _)
    | split
    | (lift_lets; intros)

theorem State.touchEvent_only (s : State) (t : TouchSource) : Only [.touch, .notices] s (State.touchEvent s t) := by
  unfold State.touchEvent
  repeat' first
    | with_reducible apply Only.refl
    | with_reducible decide
    | with_reducible apply Only.after (State.raiseHandleTouch_only _)
    | with_reducible apply Only.after (State.setTouch_only _ _ _)
    | split
    | (lift_lets; intros)

theorem State.tailgatePress_only (s : State) : Only [.seq, .touch, .notices] s (State.tailgatePress s) := by
  unfold State.tailgatePress
  repeat' first
    | with_reducible apply Only.refl
    | with_reducible decide
    | with_reducible apply Only.after (State.offer_only _ _)
    | with_reducible apply Only.after (State.touchEvent_only _ _)
    | split
    | (lift_lets; intros)

theorem State.handTemp_only (s : State) (old new : TempState) : Only [.closures, .childs, .seq, .win, .refs, .trace, .mon, .notices] s (State.handTemp s old new) := by
  unfold State.handTemp
  repeat' first
    | with_reducible apply Only.refl
    | with_reducible decide
    | with_reducible apply Only.after (State.addCauseAll_only _ _)
    | with_reducible apply Only.after (State.markAllStrokes_only _ _)
    | with_reducible apply Only.after (State.removeCauseAll_only _ _)
    | with_reducible apply Only.after (State.thermalAborts_only _)
    | split
    | (lift_lets; intros)

theorem State.measureTemp_only (s : State) (t : Int) : Only [.closures, .childs, .seq, .win, .refs, .trace, .mon, .notices] s (State.measureTemp s t) := by
  unfold State.measureTemp
  repeat' first
    | with_reducible apply Only.refl
    | with_reducible decide
    | with_reducible apply Only.after (State.handTemp_only _ _ _)
    | with_reducible apply Only.after (State.raiseThermal_only _)
    | with_reducible apply Only.after (State.setFlags_only _ _)
    | split
    | (lift_lets; intros)
    | with_reducible apply Only.after (Only.mon _ _)

theorem State.handSupply_only (s : State) (old new : SupplyState) : Only [.closures, .childs, .seq, .win, .refs, .trace, .mon, .notices] s (State.handSupply s old new) := by
  unfold State.handSupply
  repeat' first
    | with_reducible apply Only.refl
    | with_reducible decide
    | with_reducible apply Only.after (State.addCauseAll_only _ _)
    | with_reducible apply Only.after (State.dropPulses_only _)
    | with_reducible apply Only.after (State.markAllStrokes_only _ _)
    | with_reducible apply Only.after (State.removeCauseAll_only _ _)
    | with_reducible apply Only.after (State.resumePulses_only _)
    | split
    | (lift_lets; intros)

theorem State.measureSupply_only (s : State) (v : Nat) : Only [.closures, .childs, .seq, .win, .refs, .trace, .mon, .notices] s (State.measureSupply s v) := by
  unfold State.measureSupply
  repeat' first
    | with_reducible apply Only.refl
    | with_reducible decide
    | with_reducible apply Only.after (State.handSupply_only _ _ _)
    | with_reducible apply Only.after (State.raiseSupply_only _)
    | with_reducible apply Only.after (State.setFlags_only _ _)
    | split
    | (lift_lets; intros)
    | with_reducible apply Only.after (Only.mon _ _)

theorem State.feedStroke_only (s : State) (w : Window) (x : Sample) : Only [.refs] s (State.feedStroke s w x) := by
  unfold State.feedStroke
  repeat' first
    | with_reducible apply Only.refl
    | with_reducible decide
    | with_reducible apply Only.after (State.writeZoneSample_only _ _ _ _ _)
    | split
    | (lift_lets; intros)

theorem State.takeDeclared_only (s : State) (w : Window) (p : Option Int) : Only [.win, .refs, .trace, .mon, .notices] s (State.takeDeclared s w p) := by
  unfold State.takeDeclared
  repeat' first
    | with_reducible apply Only.refl
    | with_reducible decide
    | with_reducible apply Only.after (State.takePinch_only _ _ _ _)
    | split
    | (lift_lets; intros)

theorem State.sampleOutcome_only (s : State) (w : Window) (p : Option Int) (pinch jam : Bool) : Only [.freeCount, .closures, .childs, .seq, .win, .refs, .trace, .mon, .notices] s (State.sampleOutcome s w p pinch jam) := by
  unfold State.sampleOutcome
  repeat' first
    | with_reducible apply Only.refl
    | with_reducible decide
    | with_reducible apply Only.after (State.detectOvercurrent_only _ _)
    | with_reducible apply Only.after (State.takeDeclared_only _ _ _)
    | split
    | (lift_lets; intros)
    | with_reducible apply Only.after (Only.freeCount _ _)

theorem State.sample_only (s : State) (w : Window) (i v : Nat) : Only [.freeCount, .closures, .childs, .seq, .win, .pinch, .refs, .trace, .mon, .notices] s (State.sample s w i v) := by
  unfold State.sample
  repeat' first
    | with_reducible apply Only.refl
    | with_reducible decide
    | with_reducible apply Only.after (State.addSample_only _ _ _)
    | with_reducible apply Only.after (State.countCurrent_only _ _ _)
    | with_reducible apply Only.after (State.feedStroke_only _ _ _)
    | with_reducible apply Only.after (State.sampleOutcome_only _ _ _ _ _)
    | with_reducible apply Only.after (State.setPinch_only _ _ _)
    | split
    | (lift_lets; intros)

theorem State.setSensing_only (s : State) (x : Sensing) : Only [.sensing] s (State.setSensing s x) := by
  constructor; intro x hx; cases x <;> first | rfl | (exfalso; revert hx; decide)

theorem State.rawLine_only (s : State) (r : RawReading) : Only [.sensing] s (State.rawLine s r) := by
  unfold State.rawLine
  repeat' first
    | with_reducible apply Only.refl
    | with_reducible decide
    | with_reducible apply Only.after (State.setSensing_only _ _)
    | split
    | (lift_lets; intros)
    | with_reducible apply Only.after (Only.touch _ _)

theorem State.latchAjar_only (s : State) (c : Closure) : Only [.seq, .win, .refs, .trace, .mon, .notices] s (State.latchAjar s c) := by
  unfold State.latchAjar
  repeat' first
    | with_reducible apply Only.refl
    | with_reducible decide
    | with_reducible apply Only.after (State.setRelock_only _ _)
    | with_reducible apply Only.after (State.stopRetained_only _)
    | with_reducible apply Only.after (State.superlockRelock_only _)
    | split
    | (lift_lets; intros)

theorem State.latchExpiry_only (s : State) (c : Closure) (f : Feed LatchLevel) : Only [.closures, .seq, .win, .refs, .trace, .mon, .notices] s (State.latchExpiry s c f) := by
  unfold State.latchExpiry
  repeat' first
    | with_reducible apply Only.refl
    | with_reducible decide
    | with_reducible apply Only.after (State.latchAjar_only _ _)
    | with_reducible apply Only.after (State.raiseLockChanged_only _ _)
    | with_reducible apply Only.after (State.setClosure_only _ _ _)
    | with_reducible apply Only.after (State.writeClosure_only _ _ _)
    | split
    | (lift_lets; intros)

theorem State.feedbackExpiry_only (s : State) (c : Closure) (f : Feed LockPins) : Only [.closures, .notices] s (State.feedbackExpiry s c f) := by
  unfold State.feedbackExpiry
  repeat' first
    | with_reducible apply Only.refl
    | with_reducible decide
    | with_reducible apply Only.after (State.raiseLockChanged_only _ _)
    | with_reducible apply Only.after (State.setClosure_only _ _ _)
    | with_reducible apply Only.after (State.writeClosure_only _ _ _)
    | split
    | (lift_lets; intros)

theorem State.childExpiry_only (s : State) (r : Rear) (f : Feed ChildState) : Only [.childs, .notices] s (State.childExpiry s r f) := by
  unfold State.childExpiry
  repeat' first
    | with_reducible apply Only.refl
    | with_reducible decide
    | with_reducible apply Only.after (State.raiseChildChanged_only _ _)
    | with_reducible apply Only.after (State.setChild_only _ _ _)
    | with_reducible apply Only.after (State.writeChild_only _ _ _)
    | split
    | (lift_lets; intros)

theorem State.handlePull_only (s : State) (c : Side) : Only [.seq, .notices] s (State.handlePull s c) := by
  unfold State.handlePull
  repeat' first
    | with_reducible apply Only.refl
    | with_reducible decide
    | with_reducible apply Only.after (State.offer_only _ _)
    | split
    | (lift_lets; intros)

theorem State.keyLockContact_only (s : State) : Only [.seq, .notices] s (State.keyLockContact s) := by
  unfold State.keyLockContact
  repeat' first
    | with_reducible apply Only.refl
    | with_reducible decide
    | with_reducible apply Only.after (State.offer_only _ _)
    | split
    | (lift_lets; intros)

theorem State.keyUnlockContact_only (s : State) : Only [.seq, .notices] s (State.keyUnlockContact s) := by
  unfold State.keyUnlockContact
  repeat' first
    | with_reducible apply Only.refl
    | with_reducible decide
    | with_reducible apply Only.after (State.offer_only _ _)
    | split
    | (lift_lets; intros)

theorem State.touched_only (s : State) (t : TouchSource) : Only [.seq, .touch, .notices] s (State.touched s t) := by
  unfold State.touched
  repeat' first
    | with_reducible apply Only.refl
    | with_reducible decide
    | with_reducible apply Only.after (State.tailgatePress_only _)
    | with_reducible apply Only.after (State.touchEvent_only _ _)
    | split
    | (lift_lets; intros)

theorem State.localEvent_only (s : State) (w : Window) (prev pos : SwitchPos) : Only [.win, .pinch, .refs, .trace, .mon, .notices] s (State.localEvent s w prev pos) := by
  unfold State.localEvent
  repeat' first
    | with_reducible apply Only.refl
    | with_reducible decide
    | with_reducible apply Only.after (State.neutral_only _ _ _)
    | with_reducible apply Only.after (State.press_only _ _ _ _ _)
    | split
    | (lift_lets; intros)

theorem State.contactEvent_only {ps : List Part} (s : State) (x : Stage Bool) (f : State → State)
    (hf : ∀ t, Only ps t (f t)) : Only ps s (State.contactEvent s x f) := by
  unfold State.contactEvent
  split
  · exact hf s
  · exact Only.refl ps s

theorem State.debounce_only (s : State) (l : Line) : Only [.now, .closures, .childs, .sensing, .seq, .touch, .win, .pinch, .refs, .trace, .mon, .notices] s (State.debounce s l) := by
  unfold State.debounce
  repeat' first
    | with_reducible apply Only.refl
    | with_reducible decide
    | with_reducible apply Only.after (State.childExpiry_only _ _ _)
    | with_reducible apply Only.after (State.feedbackExpiry_only _ _ _)
    | with_reducible apply Only.after (State.handlePull_only _ _)
    | with_reducible apply Only.after (State.keyLockContact_only _)
    | with_reducible apply Only.after (State.keyUnlockContact_only _)
    | with_reducible apply Only.after (State.latchExpiry_only _ _ _)
    | with_reducible apply Only.after (State.localEvent_only _ _ _ _)
    | with_reducible apply Only.after (State.reach_only _ _)
    | with_reducible apply Only.after (State.setSensing_only _ _)
    | with_reducible apply Only.after (State.touched_only _ _)
    | with_reducible apply Only.after (@State.contactEvent_only [.now, .closures, .childs, .sensing, .seq, .touch, .win, .pinch, .refs, .trace, .mon, .notices] _ _ _ (fun t => ?_))
    | split
    | (lift_lets; intros)

theorem State.changeShift_only (s : State) (w : Window) (new : Nat) : Only [.refs, .notices] s (State.changeShift s w new) := by
  unfold State.changeShift
  repeat' first
    | with_reducible apply Only.refl
    | with_reducible decide
    | with_reducible apply Only.after (State.forgetReferences_only _ _)
    | with_reducible apply Only.after (State.raiseContextChanged_only _ _)
    | with_reducible apply Only.after (State.setRefs_only _ _ _)
    | split
    | (lift_lets; intros)

theorem State.shiftWritten_only (old : Configuration) (s : State) (w : Window) : Only [.refs, .notices] s (State.shiftWritten old s w) := by
  unfold State.shiftWritten
  repeat' first
    | with_reducible apply Only.refl
    | with_reducible decide
    | with_reducible apply Only.after (State.changeShift_only _ _ _)
    | split
    | (lift_lets; intros)

theorem State.lockoutByPolicy_only (s : State) (r : Rear) : Only [.win, .refs, .trace, .mon, .notices] s (State.lockoutByPolicy s r) := by
  unfold State.lockoutByPolicy
  repeat' first
    | with_reducible apply Only.refl
    | with_reducible decide
    | with_reducible apply Only.after (State.beginLockout_only _ _)
    | split
    | (lift_lets; intros)

theorem State.applyConfig_only (s : State) (g : Configuration) (group : Group) : Only [.touch, .win, .refs, .trace, .mon, .config, .notices] s (State.applyConfig s g group) := by
  unfold State.applyConfig
  repeat' first
    | with_reducible apply Only.refl
    | with_reducible decide
    | with_reducible apply Only.after (State.clearCounts_only _)
    | with_reducible apply Only.after (State.lockoutByPolicy_only _ _)
    | with_reducible apply Only.after (State.shiftWritten_only _ _ _)
    | with_reducible apply Only.after (@Only.foldl [.touch, .win, .refs, .trace, .mon, .config, .notices] _ _ (fun t a => ?_) _ _)
    | split
    | (lift_lets; intros)
    | with_reducible apply Only.after (Only.touch _ _)
    | with_reducible apply Only.after (Only.config _ _)

theorem State.refuse_only (s : State) (c : Code) : Only [] s (State.refuse s c).state := Only.refl _ _

theorem State.accept_only (s : State) : Only [] s (State.accept s).state := Only.refl _ _

theorem State.idlePort_only (s : State) (p : Port) : Only [.ports] s (State.idlePort s p) := by
  unfold State.idlePort
  repeat' first
    | with_reducible apply Only.refl
    | with_reducible decide
    | with_reducible apply Only.after (State.setPort_only _ _ _)
    | split
    | (lift_lets; intros)

theorem State.discard_only (s : State) (p : Port) : Only [.ports] s (State.discard s p) := by
  unfold State.discard
  repeat' first
    | with_reducible apply Only.refl
    | with_reducible decide
    | with_reducible apply Only.after (State.idlePort_only _ _)
    | split
    | (lift_lets; intros)

theorem State.offerReply_only (s : State) (c : Command) : Only [.seq, .notices] s (State.offerReply s c).state := by
  unfold State.offerReply
  repeat' first
    | with_reducible apply Only.refl
    | with_reducible decide
    | with_reducible apply Only.after (State.offer_only _ _)
    | split
    | (lift_lets; intros)

theorem State.ownLock_only (p : Port) (tag : Byte) (q : List Byte) (s : State) : Only [.seq, .notices] s (State.ownLock p tag q s).state := by
  unfold State.ownLock
  repeat' first
    | with_reducible apply Only.refl
    | with_reducible decide
    | with_reducible apply Only.after (State.offerReply_only _ _)
    | with_reducible apply Only.after (State.refuse_only _ _)
    | split
    | (lift_lets; intros)

theorem State.ownCentralToggle_only (p : Port) (tag : Byte) (_q : List Byte) (s : State) : Only [.seq, .notices] s (State.ownCentralToggle p tag _q s).state := by
  unfold State.ownCentralToggle
  repeat' first
    | with_reducible apply Only.refl
    | with_reducible decide
    | with_reducible apply Only.after (State.offerReply_only _ _)
    | with_reducible apply Only.after (State.refuse_only _ _)
    | split
    | (lift_lets; intros)

theorem State.ownChildSet_only (p : Port) (tag : Byte) (q : List Byte) (s : State) : Only [.seq, .notices] s (State.ownChildSet p tag q s).state := by
  unfold State.ownChildSet
  repeat' first
    | with_reducible apply Only.refl
    | with_reducible decide
    | with_reducible apply Only.after (State.offerReply_only _ _)
    | with_reducible apply Only.after (State.refuse_only _ _)
    | split
    | (lift_lets; intros)

theorem State.clearCrash_only (s : State) : Only [.crash, .win] s (State.clearCrash s) := by
  unfold State.clearCrash
  repeat' first
    | with_reducible apply Only.refl
    | with_reducible decide
    | with_reducible apply Only.after (State.removeCauseAll_only _ _)
    | split
    | (lift_lets; intros)
    | with_reducible apply Only.after (Only.crash _ _)

theorem State.ownCrashClear_only (_q : List Byte) (s : State) : Only [.crash, .win] s (State.ownCrashClear _q s).state := by
  unfold State.ownCrashClear
  repeat' first
    | with_reducible apply Only.refl
    | with_reducible decide
    | with_reducible apply Only.after (State.accept_only _)
    | with_reducible apply Only.after (State.clearCrash_only _)
    | with_reducible apply Only.after (State.refuse_only _ _)
    | split
    | (lift_lets; intros)

theorem State.ownClosureStatus_only (_q : List Byte) (s : State) : Only [] s (State.ownClosureStatus _q s).state := by
  unfold State.ownClosureStatus
  repeat' first
    | with_reducible apply Only.refl
    | with_reducible decide
    | split
    | (lift_lets; intros)

theorem State.pulseExpiry_only (s : State) (a : Actuator) : Only [.now, .closures, .childs, .seq, .mon, .notices] s (State.pulseExpiry s a) := by
  unfold State.pulseExpiry
  repeat' first
    | with_reducible apply Only.refl
    | with_reducible decide
    | with_reducible apply Only.after (State.endPulse_only _ _ _)
    | with_reducible apply Only.after (State.reach_only _ _)
    | split
    | (lift_lets; intros)

theorem State.settleExpiry_only (s : State) (a : Actuator) : Only [.now, .closures, .childs, .seq, .mon, .notices] s (State.settleExpiry s a) := by
  unfold State.settleExpiry
  repeat' first
    | with_reducible apply Only.refl
    | with_reducible decide
    | with_reducible apply Only.after (State.endSettle_only _ _ _)
    | with_reducible apply Only.after (State.reach_only _ _)
    | split
    | (lift_lets; intros)

theorem State.crashPulseExpiry_only (s : State) (c : Closure) : Only [.now, .seq, .mon] s (State.crashPulseExpiry s c) := by
  unfold State.crashPulseExpiry
  repeat' first
    | with_reducible apply Only.refl
    | with_reducible decide
    | with_reducible apply Only.after (State.endCrashPulse_only _ _ _)
    | with_reducible apply Only.after (State.reach_only _ _)
    | split
    | (lift_lets; intros)

theorem State.crashSettleExpiry_only (s : State) (c : Closure) : Only [.now, .closures, .seq, .mon, .notices] s (State.crashSettleExpiry s c) := by
  unfold State.crashSettleExpiry
  repeat' first
    | with_reducible apply Only.refl
    | with_reducible decide
    | with_reducible apply Only.after (State.endCrashSettle_only _ _ _)
    | with_reducible apply Only.after (State.reach_only _ _)
    | split
    | (lift_lets; intros)

theorem State.heatTick_only (s : State) : Only [.now, .seq] s (State.heatTick s) := by
  unfold State.heatTick
  repeat' first
    | with_reducible apply Only.refl
    | with_reducible decide
    | with_reducible apply Only.after (State.reach_only _ _)
    | split
    | (lift_lets; intros)
    | with_reducible apply Only.after (Only.seq _ _)

theorem State.relockExpiry_only (s : State) : Only [.now, .seq, .notices] s (State.relockExpiry s) := by
  unfold State.relockExpiry
  repeat' first
    | with_reducible apply Only.refl
    | with_reducible decide
    | with_reducible apply Only.after (State.offer_only _ _)
    | with_reducible apply Only.after (State.reach_only _ _)
    | with_reducible apply Only.after (State.setRelock_only _ _)
    | split
    | (lift_lets; intros)

theorem State.crashLine_only (s : State) (asserted : Bool) : Only [.crash] s (State.crashLine s asserted) := by
  unfold State.crashLine
  repeat' first
    | with_reducible apply Only.refl
    | with_reducible decide
    | with_reducible apply Only.after (State.setDetector_only _ _ _)
    | split
    | (lift_lets; intros)
    | with_reducible apply Only.after (Only.crash _ _)

theorem State.crashTimer_only (s : State) : Only [.now, .closures, .childs, .seq, .crash, .win, .refs, .trace, .mon, .notices] s (State.crashTimer s) := by
  unfold State.crashTimer
  repeat' first
    | with_reducible apply Only.refl
    | with_reducible decide
    | with_reducible apply Only.after (State.crashEvent_only _)
    | with_reducible apply Only.after (State.reach_only _ _)
    | with_reducible apply Only.after (State.setDetector_only _ _ _)
    | split
    | (lift_lets; intros)

theorem State.credentialReply_only (s : State) (i : Fin 8) (code : Code) (started : Windows Bool) : Only [] s (State.credentialReply s i code started).state := Only.refl _ _

theorem State.tailgatePair_only (s : State) (src : CmdSource) (tag : Byte) : Only [.seq, .notices] s (State.tailgatePair s src tag).1 := by
  unfold State.tailgatePair
  repeat' first
    | with_reducible apply Only.refl
    | with_reducible decide
    | with_reducible apply Only.after (State.offer_only _ _)
    | split
    | (lift_lets; intros)

theorem State.lockReply_only (s : State) (i : Fin 8) (k : CmdKind) (tag : Byte) : Only [.seq, .notices] s (State.lockReply s i k tag).state := by
  unfold State.lockReply
  repeat' first
    | with_reducible apply Only.refl
    | with_reducible decide
    | with_reducible apply Only.after (State.credentialReply_only _ _ _ _)
    | with_reducible apply Only.after (State.offer_only _ _)
    | split
    | (lift_lets; intros)

theorem State.comfortReply_only (s : State) (i : Fin 8) (d : ComfortDir) (tag : Byte) : Only [.seq, .fobs, .win, .pinch, .refs, .trace, .mon, .notices] s (State.comfortReply s i d tag).state := by
  unfold State.comfortReply
  repeat' first
    | with_reducible apply Only.refl
    | with_reducible decide
    | with_reducible apply Only.after (State.comfortNew_only _ _ _ _)
    | with_reducible apply Only.after (State.credentialReply_only _ _ _ _)
    | with_reducible apply Only.after (State.offer_only _ _)
    | with_reducible apply Only.after (State.renewSession_only _)
    | split
    | (lift_lets; intros)

theorem State.fobAction_only (s : State) (i : Fin 8) (a : FobAction) (tag : Byte) : Only [.seq, .fobs, .win, .pinch, .refs, .trace, .mon, .notices] s (State.fobAction s i a tag).state := by
  unfold State.fobAction
  repeat' first
    | with_reducible apply Only.refl
    | with_reducible decide
    | with_reducible apply Only.after (State.comfortReply_only _ _ _ _)
    | with_reducible apply Only.after (State.credentialReply_only _ _ _ _)
    | with_reducible apply Only.after (State.endSession_only _)
    | with_reducible apply Only.after (State.lockReply_only _ _ _ _)
    | with_reducible apply Only.after (State.tailgatePair_only _ _ _)
    | split
    | (lift_lets; intros)

theorem State.renewByDuplicate_only (s : State) (i : Fin 8) (a : FobAction) : Only [.fobs] s (State.renewByDuplicate s i a) := by
  unfold State.renewByDuplicate
  repeat' first
    | with_reducible apply Only.refl
    | with_reducible decide
    | with_reducible apply Only.after (State.renewSession_only _)
    | split
    | (lift_lets; intros)

theorem State.judgeFrame_only (s : State) (i : Fin 8) (c : Nat) (a : FobAction) (tag : Byte) : Only [.seq, .fobs, .win, .pinch, .refs, .trace, .mon, .notices] s (State.judgeFrame s i c a tag).state := by
  unfold State.judgeFrame
  dsimp only
  repeat' first
    | with_reducible apply Only.refl
    | with_reducible decide
    | with_reducible apply Only.after (State.applyCounter_only _ _ _ _ _)
    | with_reducible apply Only.after (State.credentialReply_only _ _ _ _)
    | with_reducible apply Only.after (State.fobAction_only _ _ _ _)
    | with_reducible apply Only.after (State.renewByDuplicate_only _ _ _)
    | split
    | (lift_lets; intros)

theorem State.credential_only (s : State) (i : Fin 8) (c : Nat) (a : FobAction) (tag : Byte) : Only [.seq, .fobs, .win, .pinch, .refs, .trace, .mon, .notices] s (State.credential s i c a tag).state := by
  unfold State.credential
  repeat' first
    | with_reducible apply Only.refl
    | with_reducible decide
    | with_reducible apply Only.after (State.credentialReply_only _ _ _ _)
    | with_reducible apply Only.after (State.judgeFrame_only _ _ _ _ _)
    | split
    | (lift_lets; intros)

theorem State.ownCredential_only (tag : Byte) (q : List Byte) (s : State) : Only [.seq, .fobs, .win, .pinch, .refs, .trace, .mon, .notices] s (State.ownCredential tag q s).state := by
  unfold State.ownCredential
  repeat' first
    | with_reducible apply Only.refl
    | with_reducible decide
    | with_reducible apply Only.after (State.credential_only _ _ _ _ _)
    | with_reducible apply Only.after (State.refuse_only _ _)
    | split
    | (lift_lets; intros)

theorem State.claimReply_only (s : State) (t : TouchSource) (i : Fin 8) (code : Code) : Only [] s (State.claimReply s t i code).state := Only.refl _ _

theorem State.claimCommand_only (s : State) (t : TouchSource) (i : Fin 8) (k : CmdKind) (tag : Byte) : Only [.seq, .notices] s (State.claimCommand s t i k tag).state := by
  unfold State.claimCommand
  repeat' first
    | with_reducible apply Only.refl
    | with_reducible decide
    | with_reducible apply Only.after (State.claimReply_only _ _ _ _)
    | with_reducible apply Only.after (State.offer_only _ _)
    | split
    | (lift_lets; intros)

theorem State.claimAction_only (s : State) (t : TouchSource) (i : Fin 8) (tag : Byte) : Only [.seq, .notices] s (State.claimAction s t i tag).state := by
  unfold State.claimAction
  repeat' first
    | with_reducible apply Only.refl
    | with_reducible decide
    | with_reducible apply Only.after (State.claimCommand_only _ _ _ _ _)
    | with_reducible apply Only.after (State.claimReply_only _ _ _ _)
    | with_reducible apply Only.after (State.tailgatePair_only _ _ _)
    | split
    | (lift_lets; intros)

theorem State.claimCounter_only (s : State) (t : TouchSource) (i : Fin 8) (c : Nat) (z : KeyZone) (clear : Bool) (tag : Byte) : Only [.seq, .fobs, .notices] s (State.claimCounter s t i c z clear tag).state := by
  unfold State.claimCounter
  dsimp only
  repeat' first
    | with_reducible apply Only.refl
    | with_reducible decide
    | with_reducible apply Only.after (State.applyCounter_only _ _ _ _ _)
    | with_reducible apply Only.after (State.claimAction_only _ _ _ _)
    | with_reducible apply Only.after (State.claimReply_only _ _ _ _)
    | split
    | (lift_lets; intros)

theorem State.claimSlot_only (s : State) (t : TouchSource) (i : Fin 8) (c : Nat) (z : KeyZone) (clear : Bool) (tag : Byte) : Only [.seq, .fobs, .notices] s (State.claimSlot s t i c z clear tag).state := by
  unfold State.claimSlot
  repeat' first
    | with_reducible apply Only.refl
    | with_reducible decide
    | with_reducible apply Only.after (State.claimCounter_only _ _ _ _ _ _ _)
    | with_reducible apply Only.after (State.claimReply_only _ _ _ _)
    | split
    | (lift_lets; intros)

theorem State.claim_only (s : State) (t : TouchSource) (i : Fin 8) (c : Nat) (z : KeyZone) (clear : Bool) (tag : Byte) : Only [.seq, .fobs, .touch, .notices] s (State.claim s t i c z clear tag).state := by
  unfold State.claim
  repeat' first
    | with_reducible apply Only.refl
    | with_reducible decide
    | with_reducible apply Only.after (State.claimReply_only _ _ _ _)
    | with_reducible apply Only.after (State.claimSlot_only _ _ _ _ _ _ _)
    | with_reducible apply Only.after (State.setTouch_only _ _ _)
    | split
    | (lift_lets; intros)

theorem State.ownPassiveClaim_only (tag : Byte) (q : List Byte) (s : State) : Only [.seq, .fobs, .touch, .notices] s (State.ownPassiveClaim tag q s).state := by
  unfold State.ownPassiveClaim
  repeat' first
    | with_reducible apply Only.refl
    | with_reducible decide
    | with_reducible apply Only.after (State.claim_only _ _ _ _ _ _ _)
    | with_reducible apply Only.after (State.refuse_only _ _)
    | split
    | (lift_lets; intros)

theorem State.writeFob_only (s : State) (i : Fin 8) (f : FobSlot) : Only [.fobs, .win, .refs, .trace, .mon, .notices] s (State.writeFob s i f) := by
  unfold State.writeFob
  repeat' first
    | with_reducible apply Only.refl
    | with_reducible decide
    | with_reducible apply Only.after (State.endSession_only _)
    | with_reducible apply Only.after (State.setSlot_only _ _ _)
    | split
    | (lift_lets; intros)

theorem State.ownFobWrite_only (q : List Byte) (s : State) : Only [.fobs, .win, .refs, .trace, .mon, .notices] s (State.ownFobWrite q s).state := by
  unfold State.ownFobWrite
  repeat' first
    | with_reducible apply Only.refl
    | with_reducible decide
    | with_reducible apply Only.after (State.accept_only _)
    | with_reducible apply Only.after (State.refuse_only _ _)
    | with_reducible apply Only.after (State.writeFob_only _ _ _)
    | split
    | (lift_lets; intros)

theorem State.ownFobRead_only (q : List Byte) (s : State) : Only [] s (State.ownFobRead q s).state := by
  unfold State.ownFobRead
  repeat' first
    | with_reducible apply Only.refl
    | with_reducible decide
    | with_reducible apply Only.after (State.refuse_only _ _)
    | split
    | (lift_lets; intros)

theorem State.candidateEnd_only (s : State) (i : Fin 8) : Only [.now, .fobs] s (State.candidateEnd s i) := by
  unfold State.candidateEnd
  repeat' first
    | with_reducible apply Only.refl
    | with_reducible decide
    | with_reducible apply Only.after (State.reach_only _ _)
    | with_reducible apply Only.after (State.setSlot_only _ _ _)
    | split
    | (lift_lets; intros)

theorem State.keepAliveEnd_only (s : State) : Only [.now, .fobs, .win, .refs, .trace, .mon, .notices] s (State.keepAliveEnd s) := by
  unfold State.keepAliveEnd
  repeat' first
    | with_reducible apply Only.refl
    | with_reducible decide
    | with_reducible apply Only.after (State.endSession_only _)
    | with_reducible apply Only.after (State.reach_only _ _)
    | split
    | (lift_lets; intros)

theorem State.touchWindowEnd_only (s : State) (t : TouchSource) : Only [.now, .touch] s (State.touchWindowEnd s t) := by
  unfold State.touchWindowEnd
  repeat' first
    | with_reducible apply Only.refl
    | with_reducible decide
    | with_reducible apply Only.after (State.reach_only _ _)
    | with_reducible apply Only.after (State.setTouch_only _ _ _)
    | split
    | (lift_lets; intros)

theorem State.touchHoldEnd_only (s : State) (t : TouchSource) : Only [.now, .touch] s (State.touchHoldEnd s t) := by
  unfold State.touchHoldEnd
  repeat' first
    | with_reducible apply Only.refl
    | with_reducible decide
    | with_reducible apply Only.after (State.reach_only _ _)
    | with_reducible apply Only.after (State.setTouch_only _ _ _)
    | split
    | (lift_lets; intros)

theorem State.recordPanel_only (s : State) (w : Window) (pos : SwitchPos) : Only [.win] s (State.recordPanel s w pos) := by
  unfold State.recordPanel
  repeat' first
    | with_reducible apply Only.refl
    | with_reducible decide
    | with_reducible apply Only.after (State.neutral_only _ _ _)
    | with_reducible apply Only.after (State.setWin_only _ _ _)
    | split
    | (lift_lets; intros)

theorem State.panelFrame_only (s : State) (w : Window) (pos : SwitchPos) : Only [.win, .pinch, .refs, .trace, .mon, .notices] s (State.panelFrame s w pos).state := by
  unfold State.panelFrame
  repeat' first
    | with_reducible apply Only.refl
    | with_reducible decide
    | with_reducible apply Only.after (State.accept_only _)
    | with_reducible apply Only.after (State.neutral_only _ _ _)
    | with_reducible apply Only.after (State.press_only _ _ _ _ _)
    | with_reducible apply Only.after (State.recordPanel_only _ _ _)
    | split
    | (lift_lets; intros)

theorem State.ownWindowSwitch_only (q : List Byte) (s : State) : Only [.win, .pinch, .refs, .trace, .mon, .notices] s (State.ownWindowSwitch q s).state := by
  unfold State.ownWindowSwitch
  repeat' first
    | with_reducible apply Only.refl
    | with_reducible decide
    | with_reducible apply Only.after (State.panelFrame_only _ _ _)
    | with_reducible apply Only.after (State.refuse_only _ _)
    | split
    | (lift_lets; intros)

theorem State.writeLockout_only (s : State) (on : Bool) : Only [.win, .refs, .trace, .mon, .notices] s (State.writeLockout s on) := by
  unfold State.writeLockout
  repeat' first
    | with_reducible apply Only.refl
    | with_reducible decide
    | with_reducible apply Only.after (State.beginLockout_only _ _)
    | split
    | (lift_lets; intros)
    | with_reducible apply Only.after (Only.win _ _)

theorem State.ownRearLockout_only (q : List Byte) (s : State) : Only [.win, .refs, .trace, .mon, .notices] s (State.ownRearLockout q s).state := by
  unfold State.ownRearLockout
  repeat' first
    | with_reducible apply Only.refl
    | with_reducible decide
    | with_reducible apply Only.after (State.accept_only _)
    | with_reducible apply Only.after (State.refuse_only _ _)
    | with_reducible apply Only.after (State.writeLockout_only _ _)
    | split
    | (lift_lets; intros)

theorem State.comfortRequest_only (s : State) (dir : Dir) : Only [.win, .pinch, .refs, .trace, .mon, .notices] s (State.comfortRequest s dir).state := by
  unfold State.comfortRequest
  repeat' first
    | with_reducible apply Only.refl
    | with_reducible decide
    | with_reducible apply Only.after (State.comfortAll_only _ _ _)
    | split
    | (lift_lets; intros)

theorem State.comfortStopB_only (s : State) : Only [.win, .refs, .trace, .mon, .notices] s (State.comfortStopB s).state := by
  unfold State.comfortStopB
  repeat' first
    | with_reducible apply Only.refl
    | with_reducible decide
    | with_reducible apply Only.after (State.endHeldAll_only _ _)
    | split
    | (lift_lets; intros)

theorem State.ownComfort_only (q : List Byte) (s : State) : Only [.win, .pinch, .refs, .trace, .mon, .notices] s (State.ownComfort q s).state := by
  unfold State.ownComfort
  repeat' first
    | with_reducible apply Only.refl
    | with_reducible decide
    | with_reducible apply Only.after (State.comfortRequest_only _ _)
    | with_reducible apply Only.after (State.comfortStopB_only _)
    | with_reducible apply Only.after (State.refuse_only _ _)
    | split
    | (lift_lets; intros)

theorem State.writeMode_only (s : State) (m : VehicleMode) : Only [.win, .refs, .trace, .mon, .notices] s (State.writeMode s m) := by
  unfold State.writeMode
  repeat' first
    | with_reducible apply Only.refl
    | with_reducible decide
    | with_reducible apply Only.after (State.endPower_only _)
    | split
    | (lift_lets; intros)
    | with_reducible apply Only.after (Only.win _ _)

theorem State.ownVehicleMode_only (q : List Byte) (s : State) : Only [.win, .refs, .trace, .mon, .notices] s (State.ownVehicleMode q s).state := by
  unfold State.ownVehicleMode
  repeat' first
    | with_reducible apply Only.refl
    | with_reducible decide
    | with_reducible apply Only.after (State.accept_only _)
    | with_reducible apply Only.after (State.refuse_only _ _)
    | with_reducible apply Only.after (State.writeMode_only _ _)
    | split
    | (lift_lets; intros)

theorem State.readSegment_only (s : State) (content : List Byte) (index total : Nat) : Only [] s (State.readSegment s content index total).state := by
  unfold State.readSegment
  repeat' first
    | with_reducible apply Only.refl
    | with_reducible decide
    | with_reducible apply Only.after (State.refuse_only _ _)
    | split
    | (lift_lets; intros)

theorem State.ownWindowStatus_only (q : List Byte) (s : State) : Only [] s (State.ownWindowStatus q s).state := by
  unfold State.ownWindowStatus
  repeat' first
    | with_reducible apply Only.refl
    | with_reducible decide
    | with_reducible apply Only.after (State.readSegment_only _ _ _ _)
    | split
    | (lift_lets; intros)

theorem State.ownWindowContextRead_only (q : List Byte) (s : State) : Only [] s (State.ownWindowContextRead q s).state := by
  unfold State.ownWindowContextRead
  repeat' first
    | with_reducible apply Only.refl
    | with_reducible decide
    | with_reducible apply Only.after (State.readSegment_only _ _ _ _)
    | with_reducible apply Only.after (State.refuse_only _ _)
    | split
    | (lift_lets; intros)

theorem State.forgetNormalisation_only (s : State) (w : Window) : Only [.win] s (State.forgetNormalisation s w) := by
  unfold State.forgetNormalisation
  repeat' first
    | with_reducible apply Only.refl
    | with_reducible decide
    | with_reducible apply Only.after (State.setWin_only _ _ _)
    | split
    | (lift_lets; intros)

theorem State.forget_only (s : State) (w : Window) (what : ForgetWhat) : Only [.win, .refs] s (State.forget s w what) := by
  unfold State.forget
  repeat' first
    | with_reducible apply Only.refl
    | with_reducible decide
    | with_reducible apply Only.after (State.forgetNormalisation_only _ _)
    | with_reducible apply Only.after (State.forgetReferences_only _ _)
    | split
    | (lift_lets; intros)

theorem State.ownWindowForget_only (q : List Byte) (s : State) : Only [.win, .refs] s (State.ownWindowForget q s).state := by
  unfold State.ownWindowForget
  repeat' first
    | with_reducible apply Only.refl
    | with_reducible decide
    | with_reducible apply Only.after (State.accept_only _)
    | with_reducible apply Only.after (State.forget_only _ _ _)
    | with_reducible apply Only.after (State.refuse_only _ _)
    | split
    | (lift_lets; intros)

theorem State.restore_only (s : State) (x : Restore) : Only [.win, .refs] s (State.restore s x) := by
  unfold State.restore
  repeat' first
    | with_reducible apply Only.refl
    | with_reducible decide
    | with_reducible apply Only.after (State.count_only _ _ _ _)
    | with_reducible apply Only.after (State.setRefs_only _ _ _)
    | with_reducible apply Only.after (State.setWin_only _ _ _)
    | split
    | (lift_lets; intros)

theorem State.judgeRestore_only (s : State) (content : List Byte) : Only [.win, .refs] s (State.judgeRestore s content).state := by
  unfold State.judgeRestore
  repeat' first
    | with_reducible apply Only.refl
    | with_reducible decide
    | with_reducible apply Only.after (State.accept_only _)
    | with_reducible apply Only.after (State.refuse_only _ _)
    | with_reducible apply Only.after (State.restore_only _ _)
    | split
    | (lift_lets; intros)

theorem State.setStaging_only (s : State) (x : Option Staging) : Only [.staging] s (State.setStaging s x) := by
  constructor; intro x hx; cases x <;> first | rfl | (exfalso; revert hx; decide)

theorem State.addSegment_only (s : State) (x : Staging) : Only [.win, .refs, .staging] s (State.addSegment s x).state := by
  unfold State.addSegment
  repeat' first
    | with_reducible apply Only.refl
    | with_reducible decide
    | with_reducible apply Only.after (State.accept_only _)
    | with_reducible apply Only.after (State.judgeRestore_only _ _)
    | with_reducible apply Only.after (State.setStaging_only _ _)
    | split
    | (lift_lets; intros)

theorem State.ownWindowRestore_only (q : List Byte) (s : State) : Only [.win, .refs, .staging] s (State.ownWindowRestore q s).state := by
  unfold State.ownWindowRestore
  repeat' first
    | with_reducible apply Only.refl
    | with_reducible decide
    | with_reducible apply Only.after (State.addSegment_only _ _)
    | with_reducible apply Only.after (State.refuse_only _ _)
    | with_reducible apply Only.after (State.setStaging_only _ _)
    | split
    | (lift_lets; intros)

theorem State.stallEnd_only (s : State) (w : Window) : Only [.now, .win, .refs, .trace, .mon, .notices] s (State.stallEnd s w) := by
  unfold State.stallEnd
  repeat' first
    | with_reducible apply Only.refl
    | with_reducible decide
    | with_reducible apply Only.after (State.reach_only _ _)
    | with_reducible apply Only.after (State.setWin_only _ _ _)
    | with_reducible apply Only.after (State.takeStall_only _ _)
    | split
    | (lift_lets; intros)

theorem State.startEnd_only (s : State) (w : Window) : Only [.now, .win, .refs, .trace, .mon, .notices] s (State.startEnd s w) := by
  unfold State.startEnd
  repeat' first
    | with_reducible apply Only.refl
    | with_reducible decide
    | with_reducible apply Only.after (State.reach_only _ _)
    | with_reducible apply Only.after (State.setWin_only _ _ _)
    | with_reducible apply Only.after (State.takeStall_only _ _)
    | split
    | (lift_lets; intros)

theorem State.dwellExpiry_only (s : State) (w : Window) : Only [.now, .win, .pinch, .refs, .trace, .mon, .notices] s (State.dwellExpiry s w) := by
  unfold State.dwellExpiry
  repeat' first
    | with_reducible apply Only.refl
    | with_reducible decide
    | with_reducible apply Only.after (State.endDwell_only _ _)
    | with_reducible apply Only.after (State.reach_only _ _)
    | split
    | (lift_lets; intros)

theorem State.brakeExpiry_only (s : State) (w : Window) : Only [.now, .win, .mon] s (State.brakeExpiry s w) := by
  unfold State.brakeExpiry
  repeat' first
    | with_reducible apply Only.refl
    | with_reducible decide
    | with_reducible apply Only.after (State.offChan_only _ _)
    | with_reducible apply Only.after (State.reach_only _ _)
    | with_reducible apply Only.after (State.setWin_only _ _ _)
    | split
    | (lift_lets; intros)

theorem State.panelExpiry_only (s : State) (w : Window) : Only [.now, .win, .refs, .trace, .mon, .notices] s (State.panelExpiry s w) := by
  unfold State.panelExpiry
  repeat' first
    | with_reducible apply Only.refl
    | with_reducible decide
    | with_reducible apply Only.after (State.neutral_only _ _ _)
    | with_reducible apply Only.after (State.reach_only _ _)
    | with_reducible apply Only.after (State.setWin_only _ _ _)
    | split
    | (lift_lets; intros)

theorem State.retainedExpiry_only (s : State) : Only [.now, .win, .refs, .trace, .mon, .notices] s (State.retainedExpiry s) := by
  unfold State.retainedExpiry
  repeat' first
    | with_reducible apply Only.refl
    | with_reducible decide
    | with_reducible apply Only.after (State.reach_only _ _)
    | with_reducible apply Only.after (State.stopRetained_only _)
    | split
    | (lift_lets; intros)

theorem State.requestTrigger_only (s : State) (w : Window) : Only [.trace, .notices] s (State.requestTrigger s w).state := by
  unfold State.requestTrigger
  repeat' first
    | with_reducible apply Only.refl
    | with_reducible decide
    | with_reducible apply Only.after (State.trigger_only _ _ _)
    | split
    | (lift_lets; intros)

theorem State.ownTraceTrigger_only (q : List Byte) (s : State) : Only [.trace, .notices] s (State.ownTraceTrigger q s).state := by
  unfold State.ownTraceTrigger
  repeat' first
    | with_reducible apply Only.refl
    | with_reducible decide
    | with_reducible apply Only.after (State.refuse_only _ _)
    | with_reducible apply Only.after (State.requestTrigger_only _ _)
    | split
    | (lift_lets; intros)

theorem State.advanceCursor_only (s : State) (i : Fin 8) (part parts : Nat) : Only [.trace] s (State.advanceCursor s i part parts) := by
  unfold State.advanceCursor
  repeat' first
    | with_reducible apply Only.refl
    | with_reducible decide
    | with_reducible apply Only.after (State.freeBuffer_only _ _)
    | with_reducible apply Only.after (State.setCursor_only _ _)
    | split
    | (lift_lets; intros)

theorem State.readPart_only (s : State) (c : Cursor) : Only [.trace] s (State.readPart s c).state := by
  unfold State.readPart
  repeat' first
    | with_reducible apply Only.refl
    | with_reducible decide
    | with_reducible apply Only.after (State.advanceCursor_only _ _ _ _)
    | with_reducible apply Only.after (State.refuse_only _ _)
    | split
    | (lift_lets; intros)

theorem State.ownTraceRead_only (_q : List Byte) (s : State) : Only [.trace] s (State.ownTraceRead _q s).state := by
  unfold State.ownTraceRead
  repeat' first
    | with_reducible apply Only.refl
    | with_reducible decide
    | with_reducible apply Only.after (State.readPart_only _ _)
    | with_reducible apply Only.after (State.refuse_only _ _)
    | split
    | (lift_lets; intros)

theorem State.ownTraceRewind_only (_q : List Byte) (s : State) : Only [.trace] s (State.ownTraceRewind _q s).state := by
  unfold State.ownTraceRewind
  repeat' first
    | with_reducible apply Only.refl
    | with_reducible decide
    | with_reducible apply Only.after (State.accept_only _)
    | with_reducible apply Only.after (State.setCursor_only _ _)
    | split
    | (lift_lets; intros)

theorem State.ownTraceClear_only (_q : List Byte) (s : State) : Only [.trace] s (State.ownTraceClear _q s).state := by
  unfold State.ownTraceClear
  repeat' first
    | with_reducible apply Only.refl
    | with_reducible decide
    | with_reducible apply Only.after (State.accept_only _)
    | split
    | (lift_lets; intros)
    | with_reducible apply Only.after (Only.trace _ _)

theorem State.ownTimeTagReset_only (_q : List Byte) (s : State) : Only [.trace] s (State.ownTimeTagReset _q s).state := by
  unfold State.ownTimeTagReset
  repeat' first
    | with_reducible apply Only.refl
    | with_reducible decide
    | with_reducible apply Only.after (State.accept_only _)
    | split
    | (lift_lets; intros)
    | with_reducible apply Only.after (Only.trace _ _)

theorem State.ownTraceStatus_only (_q : List Byte) (s : State) : Only [] s (State.ownTraceStatus _q s).state := by
  unfold State.ownTraceStatus
  repeat' first
    | with_reducible apply Only.refl
    | with_reducible decide
    | split
    | (lift_lets; intros)

theorem State.clearChan_only (s : State) (ch : Channel) : Only [.win, .mon] s (State.clearChan s ch) := by
  unfold State.clearChan
  repeat' first
    | with_reducible apply Only.refl
    | with_reducible decide
    | with_reducible apply Only.after (State.removeCause_only _ _ _)
    | with_reducible apply Only.after (State.setChan_only _ _ _)
    | split
    | (lift_lets; intros)

theorem State.ownClearFault_only (q : List Byte) (s : State) : Only [.win, .mon] s (State.ownClearFault q s).state := by
  unfold State.ownClearFault
  repeat' first
    | with_reducible apply Only.refl
    | with_reducible decide
    | with_reducible apply Only.after (State.accept_only _)
    | with_reducible apply Only.after (State.clearChan_only _ _)
    | with_reducible apply Only.after (State.refuse_only _ _)
    | split
    | (lift_lets; intros)

theorem State.ownClearStatus_only (q : List Byte) (s : State) : Only [.mon] s (State.ownClearStatus q s).state := by
  unfold State.ownClearStatus
  repeat' first
    | with_reducible apply Only.refl
    | with_reducible decide
    | with_reducible apply Only.after (State.accept_only _)
    | with_reducible apply Only.after (State.setFlags_only _ _)
    | split
    | (lift_lets; intros)

theorem State.ownDiagStatus_only (q : List Byte) (s : State) : Only [] s (State.ownDiagStatus q s).state := by
  unfold State.ownDiagStatus
  repeat' first
    | with_reducible apply Only.refl
    | with_reducible decide
    | with_reducible apply Only.after (State.refuse_only _ _)
    | split
    | (lift_lets; intros)

theorem State.ownConfigWrite_only (q : List Byte) (s : State) : Only [.touch, .win, .refs, .trace, .mon, .config, .notices] s (State.ownConfigWrite q s).state := by
  unfold State.ownConfigWrite
  repeat' first
    | with_reducible apply Only.refl
    | with_reducible decide
    | with_reducible apply Only.after (State.accept_only _)
    | with_reducible apply Only.after (State.applyConfig_only _ _ _)
    | with_reducible apply Only.after (State.refuse_only _ _)
    | split
    | (lift_lets; intros)

theorem State.ownConfigRead_only (q : List Byte) (s : State) : Only [] s (State.ownConfigRead q s).state := by
  unfold State.ownConfigRead
  repeat' first
    | with_reducible apply Only.refl
    | with_reducible decide
    | with_reducible apply Only.after (State.refuse_only _ _)
    | split
    | (lift_lets; intros)

theorem State.ownConfigFreeze_only (q : List Byte) (s : State) : Only [.config] s (State.ownConfigFreeze q s).state := by
  unfold State.ownConfigFreeze
  repeat' first
    | with_reducible apply Only.refl
    | with_reducible decide
    | with_reducible apply Only.after (State.accept_only _)
    | with_reducible apply Only.after (State.refuse_only _ _)
    | split
    | (lift_lets; intros)
    | with_reducible apply Only.after (Only.config _ _)

theorem State.ownReadNotices_only (p : Port) (q : List Byte) (s : State) : Only [] s (State.ownReadNotices p q s).state := by
  unfold State.ownReadNotices
  repeat' first
    | with_reducible apply Only.refl
    | with_reducible decide
    | with_reducible apply Only.after (State.refuse_only _ _)
    | split
    | (lift_lets; intros)

theorem State.ownAckNotices_only (p : Port) (q : List Byte) (s : State) : Only [.notices] s (State.ownAckNotices p q s).state := by
  unfold State.ownAckNotices
  repeat' first
    | with_reducible apply Only.refl
    | with_reducible decide
    | with_reducible apply Only.after (State.accept_only _)
    | with_reducible apply Only.after (State.setNotices_only _ _ _)
    | split
    | (lift_lets; intros)

theorem State.ownSoftReset_only (_q : List Byte) (s : State) : Only [.softResetDue] s (State.ownSoftReset _q s).state := by
  unfold State.ownSoftReset
  repeat' first
    | with_reducible apply Only.refl
    | with_reducible decide
    | with_reducible apply Only.after (State.accept_only _)
    | split
    | (lift_lets; intros)
    | with_reducible apply Only.after (Only.softResetDue _ _)

theorem State.startDetector_only (s : State) : Only [.crash] s (State.startDetector s) := by
  unfold State.startDetector
  repeat' first
    | with_reducible apply Only.refl
    | with_reducible decide
    | with_reducible apply Only.after (State.setDetector_only _ _ _)
    | split
    | (lift_lets; intros)

theorem State.clearQueue_only (s : State) : Only [.seq] s (State.clearQueue s) := by
  constructor; intro x hx; cases x <;> first | rfl | (exfalso; revert hx; decide)

theorem State.softStop_only (s : State) (w : Window) : Only [.win, .refs, .trace, .mon, .notices] s (State.softStop s w) := by
  unfold State.softStop
  repeat' first
    | with_reducible apply Only.refl
    | with_reducible decide
    | with_reducible apply Only.after (State.neutral_only _ _ _)
    | with_reducible apply Only.after (State.offChan_only _ _)
    | with_reducible apply Only.after (State.setWin_only _ _ _)
    | with_reducible apply Only.after (State.stopMotion_only _ _ _ _ _)
    | split
    | (lift_lets; intros)

theorem State.softConfirm_only (s : State) (c : Closure) : Only [.closures, .seq, .mon, .notices] s (State.softConfirm s c) := by
  unfold State.softConfirm
  repeat' first
    | with_reducible apply Only.refl
    | with_reducible decide
    | with_reducible apply Only.after (State.abortCrash_only _ _)
    | with_reducible apply Only.after (State.writeConfirmed_only _ _ _)
    | split
    | (lift_lets; intros)

theorem State.softChild_only (s : State) (r : Rear) : Only [.childs, .notices] s (State.softChild s r) := by
  unfold State.softChild
  repeat' first
    | with_reducible apply Only.refl
    | with_reducible decide
    | with_reducible apply Only.after (State.writeChildConfirmed_only _ _ _)
    | split
    | (lift_lets; intros)

theorem State.softIdle_only (s : State) : Only [.fobs, .touch, .win, .staging, .softResetDue] s (State.softIdle s) := by
  constructor; intro x hx; cases x <;> first | rfl | (exfalso; revert hx; decide)

theorem State.softCrash_only (s : State) : Only [.seq, .mon] s (State.softCrash s) := by
  unfold State.softCrash
  repeat' first
    | with_reducible apply Only.refl
    | with_reducible decide
    | with_reducible apply Only.after (State.refreshCrash_only _)
    | split
    | (lift_lets; intros)

theorem State.softReset_only (s : State) : Only [.closures, .childs, .seq, .fobs, .touch, .win, .refs, .trace, .mon, .staging, .softResetDue, .notices] s (State.softReset s) := by
  unfold State.softReset
  repeat' first
    | with_reducible apply Only.refl
    | with_reducible decide
    | with_reducible apply Only.after (State.abortOrdinary_only _ _)
    | with_reducible apply Only.after (State.clearQueue_only _)
    | with_reducible apply Only.after (State.raiseRestarted_only _ _)
    | with_reducible apply Only.after (State.softChild_only _ _)
    | with_reducible apply Only.after (State.softConfirm_only _ _)
    | with_reducible apply Only.after (State.softCrash_only _)
    | with_reducible apply Only.after (State.softIdle_only _)
    | with_reducible apply Only.after (State.softStop_only _ _)
    | with_reducible apply Only.after (@Only.foldl [.closures, .childs, .seq, .fobs, .touch, .win, .refs, .trace, .mon, .staging, .softResetDue, .notices] _ _ (fun t a => ?_) _ _)
    | split
    | (lift_lets; intros)

end Sys2Proof.Machine
end

