-- ==== Sys2Proof/Laws/State.lean ====
section
/-! SUPPORT. One lemma for each field of the state under each single write: the field is the old one, unless the write is
its own. -/

namespace Sys2Proof.Machine
open Sys2Proof

@[simp] theorem State.reach_pending (s : State) (t : Nat) : (s.reach t).pending = s.pending := rfl
@[simp] theorem State.reach_freeCount (s : State) (t : Nat) : (s.reach t).freeCount = s.freeCount := rfl
@[simp] theorem State.reach_resetLine (s : State) (t : Nat) : (s.reach t).resetLine = s.resetLine := rfl
@[simp] theorem State.reach_closures (s : State) (t : Nat) : (s.reach t).closures = s.closures := rfl
@[simp] theorem State.reach_childs (s : State) (t : Nat) : (s.reach t).childs = s.childs := rfl
@[simp] theorem State.reach_sensing (s : State) (t : Nat) : (s.reach t).sensing = s.sensing := rfl
@[simp] theorem State.reach_seq (s : State) (t : Nat) : (s.reach t).seq = s.seq := rfl
@[simp] theorem State.reach_crash (s : State) (t : Nat) : (s.reach t).crash = s.crash := rfl
@[simp] theorem State.reach_fobs (s : State) (t : Nat) : (s.reach t).fobs = s.fobs := rfl
@[simp] theorem State.reach_touch (s : State) (t : Nat) : (s.reach t).touch = s.touch := rfl
@[simp] theorem State.reach_win (s : State) (t : Nat) : (s.reach t).win = s.win := rfl
@[simp] theorem State.reach_pinch (s : State) (t : Nat) : (s.reach t).pinch = s.pinch := rfl
@[simp] theorem State.reach_refs (s : State) (t : Nat) : (s.reach t).refs = s.refs := rfl
@[simp] theorem State.reach_trace (s : State) (t : Nat) : (s.reach t).trace = s.trace := rfl
@[simp] theorem State.reach_mon (s : State) (t : Nat) : (s.reach t).mon = s.mon := rfl
@[simp] theorem State.reach_config (s : State) (t : Nat) : (s.reach t).config = s.config := rfl
@[simp] theorem State.reach_ports (s : State) (t : Nat) : (s.reach t).ports = s.ports := rfl
@[simp] theorem State.reach_staging (s : State) (t : Nat) : (s.reach t).staging = s.staging := rfl
@[simp] theorem State.reach_softResetDue (s : State) (t : Nat) : (s.reach t).softResetDue = s.softResetDue := rfl
@[simp] theorem State.reach_notices (s : State) (t : Nat) : (s.reach t).notices = s.notices := rfl

@[simp] theorem State.setClosure_pending (s : State) (c : Closure) (r : ClosureRec) : (s.setClosure c r).pending = s.pending := rfl
@[simp] theorem State.setClosure_now (s : State) (c : Closure) (r : ClosureRec) : (s.setClosure c r).now = s.now := rfl
@[simp] theorem State.setClosure_freeCount (s : State) (c : Closure) (r : ClosureRec) : (s.setClosure c r).freeCount = s.freeCount := rfl
@[simp] theorem State.setClosure_resetLine (s : State) (c : Closure) (r : ClosureRec) : (s.setClosure c r).resetLine = s.resetLine := rfl
@[simp] theorem State.setClosure_childs (s : State) (c : Closure) (r : ClosureRec) : (s.setClosure c r).childs = s.childs := rfl
@[simp] theorem State.setClosure_sensing (s : State) (c : Closure) (r : ClosureRec) : (s.setClosure c r).sensing = s.sensing := rfl
@[simp] theorem State.setClosure_seq (s : State) (c : Closure) (r : ClosureRec) : (s.setClosure c r).seq = s.seq := rfl
@[simp] theorem State.setClosure_crash (s : State) (c : Closure) (r : ClosureRec) : (s.setClosure c r).crash = s.crash := rfl
@[simp] theorem State.setClosure_fobs (s : State) (c : Closure) (r : ClosureRec) : (s.setClosure c r).fobs = s.fobs := rfl
@[simp] theorem State.setClosure_touch (s : State) (c : Closure) (r : ClosureRec) : (s.setClosure c r).touch = s.touch := rfl
@[simp] theorem State.setClosure_win (s : State) (c : Closure) (r : ClosureRec) : (s.setClosure c r).win = s.win := rfl
@[simp] theorem State.setClosure_pinch (s : State) (c : Closure) (r : ClosureRec) : (s.setClosure c r).pinch = s.pinch := rfl
@[simp] theorem State.setClosure_refs (s : State) (c : Closure) (r : ClosureRec) : (s.setClosure c r).refs = s.refs := rfl
@[simp] theorem State.setClosure_trace (s : State) (c : Closure) (r : ClosureRec) : (s.setClosure c r).trace = s.trace := rfl
@[simp] theorem State.setClosure_mon (s : State) (c : Closure) (r : ClosureRec) : (s.setClosure c r).mon = s.mon := rfl
@[simp] theorem State.setClosure_config (s : State) (c : Closure) (r : ClosureRec) : (s.setClosure c r).config = s.config := rfl
@[simp] theorem State.setClosure_ports (s : State) (c : Closure) (r : ClosureRec) : (s.setClosure c r).ports = s.ports := rfl
@[simp] theorem State.setClosure_staging (s : State) (c : Closure) (r : ClosureRec) : (s.setClosure c r).staging = s.staging := rfl
@[simp] theorem State.setClosure_softResetDue (s : State) (c : Closure) (r : ClosureRec) : (s.setClosure c r).softResetDue = s.softResetDue := rfl
@[simp] theorem State.setClosure_notices (s : State) (c : Closure) (r : ClosureRec) : (s.setClosure c r).notices = s.notices := rfl

@[simp] theorem State.setChild_pending (s : State) (r : Rear) (v : ChildRec) : (s.setChild r v).pending = s.pending := rfl
@[simp] theorem State.setChild_now (s : State) (r : Rear) (v : ChildRec) : (s.setChild r v).now = s.now := rfl
@[simp] theorem State.setChild_freeCount (s : State) (r : Rear) (v : ChildRec) : (s.setChild r v).freeCount = s.freeCount := rfl
@[simp] theorem State.setChild_resetLine (s : State) (r : Rear) (v : ChildRec) : (s.setChild r v).resetLine = s.resetLine := rfl
@[simp] theorem State.setChild_closures (s : State) (r : Rear) (v : ChildRec) : (s.setChild r v).closures = s.closures := rfl
@[simp] theorem State.setChild_sensing (s : State) (r : Rear) (v : ChildRec) : (s.setChild r v).sensing = s.sensing := rfl
@[simp] theorem State.setChild_seq (s : State) (r : Rear) (v : ChildRec) : (s.setChild r v).seq = s.seq := rfl
@[simp] theorem State.setChild_crash (s : State) (r : Rear) (v : ChildRec) : (s.setChild r v).crash = s.crash := rfl
@[simp] theorem State.setChild_fobs (s : State) (r : Rear) (v : ChildRec) : (s.setChild r v).fobs = s.fobs := rfl
@[simp] theorem State.setChild_touch (s : State) (r : Rear) (v : ChildRec) : (s.setChild r v).touch = s.touch := rfl
@[simp] theorem State.setChild_win (s : State) (r : Rear) (v : ChildRec) : (s.setChild r v).win = s.win := rfl
@[simp] theorem State.setChild_pinch (s : State) (r : Rear) (v : ChildRec) : (s.setChild r v).pinch = s.pinch := rfl
@[simp] theorem State.setChild_refs (s : State) (r : Rear) (v : ChildRec) : (s.setChild r v).refs = s.refs := rfl
@[simp] theorem State.setChild_trace (s : State) (r : Rear) (v : ChildRec) : (s.setChild r v).trace = s.trace := rfl
@[simp] theorem State.setChild_mon (s : State) (r : Rear) (v : ChildRec) : (s.setChild r v).mon = s.mon := rfl
@[simp] theorem State.setChild_config (s : State) (r : Rear) (v : ChildRec) : (s.setChild r v).config = s.config := rfl
@[simp] theorem State.setChild_ports (s : State) (r : Rear) (v : ChildRec) : (s.setChild r v).ports = s.ports := rfl
@[simp] theorem State.setChild_staging (s : State) (r : Rear) (v : ChildRec) : (s.setChild r v).staging = s.staging := rfl
@[simp] theorem State.setChild_softResetDue (s : State) (r : Rear) (v : ChildRec) : (s.setChild r v).softResetDue = s.softResetDue := rfl
@[simp] theorem State.setChild_notices (s : State) (r : Rear) (v : ChildRec) : (s.setChild r v).notices = s.notices := rfl

@[simp] theorem State.setQueue_pending (s : State) (q : List Entry) : (s.setQueue q).pending = s.pending := rfl
@[simp] theorem State.setQueue_now (s : State) (q : List Entry) : (s.setQueue q).now = s.now := rfl
@[simp] theorem State.setQueue_freeCount (s : State) (q : List Entry) : (s.setQueue q).freeCount = s.freeCount := rfl
@[simp] theorem State.setQueue_resetLine (s : State) (q : List Entry) : (s.setQueue q).resetLine = s.resetLine := rfl
@[simp] theorem State.setQueue_closures (s : State) (q : List Entry) : (s.setQueue q).closures = s.closures := rfl
@[simp] theorem State.setQueue_childs (s : State) (q : List Entry) : (s.setQueue q).childs = s.childs := rfl
@[simp] theorem State.setQueue_sensing (s : State) (q : List Entry) : (s.setQueue q).sensing = s.sensing := rfl
@[simp] theorem State.setQueue_crash (s : State) (q : List Entry) : (s.setQueue q).crash = s.crash := rfl
@[simp] theorem State.setQueue_fobs (s : State) (q : List Entry) : (s.setQueue q).fobs = s.fobs := rfl
@[simp] theorem State.setQueue_touch (s : State) (q : List Entry) : (s.setQueue q).touch = s.touch := rfl
@[simp] theorem State.setQueue_win (s : State) (q : List Entry) : (s.setQueue q).win = s.win := rfl
@[simp] theorem State.setQueue_pinch (s : State) (q : List Entry) : (s.setQueue q).pinch = s.pinch := rfl
@[simp] theorem State.setQueue_refs (s : State) (q : List Entry) : (s.setQueue q).refs = s.refs := rfl
@[simp] theorem State.setQueue_trace (s : State) (q : List Entry) : (s.setQueue q).trace = s.trace := rfl
@[simp] theorem State.setQueue_mon (s : State) (q : List Entry) : (s.setQueue q).mon = s.mon := rfl
@[simp] theorem State.setQueue_config (s : State) (q : List Entry) : (s.setQueue q).config = s.config := rfl
@[simp] theorem State.setQueue_ports (s : State) (q : List Entry) : (s.setQueue q).ports = s.ports := rfl
@[simp] theorem State.setQueue_staging (s : State) (q : List Entry) : (s.setQueue q).staging = s.staging := rfl
@[simp] theorem State.setQueue_softResetDue (s : State) (q : List Entry) : (s.setQueue q).softResetDue = s.softResetDue := rfl
@[simp] theorem State.setQueue_notices (s : State) (q : List Entry) : (s.setQueue q).notices = s.notices := rfl

@[simp] theorem State.setOp_pending (s : State) (a : Actuator) (o : Option Op) : (s.setOp a o).pending = s.pending := rfl
@[simp] theorem State.setOp_now (s : State) (a : Actuator) (o : Option Op) : (s.setOp a o).now = s.now := rfl
@[simp] theorem State.setOp_freeCount (s : State) (a : Actuator) (o : Option Op) : (s.setOp a o).freeCount = s.freeCount := rfl
@[simp] theorem State.setOp_resetLine (s : State) (a : Actuator) (o : Option Op) : (s.setOp a o).resetLine = s.resetLine := rfl
@[simp] theorem State.setOp_closures (s : State) (a : Actuator) (o : Option Op) : (s.setOp a o).closures = s.closures := rfl
@[simp] theorem State.setOp_childs (s : State) (a : Actuator) (o : Option Op) : (s.setOp a o).childs = s.childs := rfl
@[simp] theorem State.setOp_sensing (s : State) (a : Actuator) (o : Option Op) : (s.setOp a o).sensing = s.sensing := rfl
@[simp] theorem State.setOp_crash (s : State) (a : Actuator) (o : Option Op) : (s.setOp a o).crash = s.crash := rfl
@[simp] theorem State.setOp_fobs (s : State) (a : Actuator) (o : Option Op) : (s.setOp a o).fobs = s.fobs := rfl
@[simp] theorem State.setOp_touch (s : State) (a : Actuator) (o : Option Op) : (s.setOp a o).touch = s.touch := rfl
@[simp] theorem State.setOp_win (s : State) (a : Actuator) (o : Option Op) : (s.setOp a o).win = s.win := rfl
@[simp] theorem State.setOp_pinch (s : State) (a : Actuator) (o : Option Op) : (s.setOp a o).pinch = s.pinch := rfl
@[simp] theorem State.setOp_refs (s : State) (a : Actuator) (o : Option Op) : (s.setOp a o).refs = s.refs := rfl
@[simp] theorem State.setOp_trace (s : State) (a : Actuator) (o : Option Op) : (s.setOp a o).trace = s.trace := rfl
@[simp] theorem State.setOp_mon (s : State) (a : Actuator) (o : Option Op) : (s.setOp a o).mon = s.mon := rfl
@[simp] theorem State.setOp_config (s : State) (a : Actuator) (o : Option Op) : (s.setOp a o).config = s.config := rfl
@[simp] theorem State.setOp_ports (s : State) (a : Actuator) (o : Option Op) : (s.setOp a o).ports = s.ports := rfl
@[simp] theorem State.setOp_staging (s : State) (a : Actuator) (o : Option Op) : (s.setOp a o).staging = s.staging := rfl
@[simp] theorem State.setOp_softResetDue (s : State) (a : Actuator) (o : Option Op) : (s.setOp a o).softResetDue = s.softResetDue := rfl
@[simp] theorem State.setOp_notices (s : State) (a : Actuator) (o : Option Op) : (s.setOp a o).notices = s.notices := rfl

@[simp] theorem State.setRelock_pending (s : State) (t : Option Nat) : (s.setRelock t).pending = s.pending := rfl
@[simp] theorem State.setRelock_now (s : State) (t : Option Nat) : (s.setRelock t).now = s.now := rfl
@[simp] theorem State.setRelock_freeCount (s : State) (t : Option Nat) : (s.setRelock t).freeCount = s.freeCount := rfl
@[simp] theorem State.setRelock_resetLine (s : State) (t : Option Nat) : (s.setRelock t).resetLine = s.resetLine := rfl
@[simp] theorem State.setRelock_closures (s : State) (t : Option Nat) : (s.setRelock t).closures = s.closures := rfl
@[simp] theorem State.setRelock_childs (s : State) (t : Option Nat) : (s.setRelock t).childs = s.childs := rfl
@[simp] theorem State.setRelock_sensing (s : State) (t : Option Nat) : (s.setRelock t).sensing = s.sensing := rfl
@[simp] theorem State.setRelock_crash (s : State) (t : Option Nat) : (s.setRelock t).crash = s.crash := rfl
@[simp] theorem State.setRelock_fobs (s : State) (t : Option Nat) : (s.setRelock t).fobs = s.fobs := rfl
@[simp] theorem State.setRelock_touch (s : State) (t : Option Nat) : (s.setRelock t).touch = s.touch := rfl
@[simp] theorem State.setRelock_win (s : State) (t : Option Nat) : (s.setRelock t).win = s.win := rfl
@[simp] theorem State.setRelock_pinch (s : State) (t : Option Nat) : (s.setRelock t).pinch = s.pinch := rfl
@[simp] theorem State.setRelock_refs (s : State) (t : Option Nat) : (s.setRelock t).refs = s.refs := rfl
@[simp] theorem State.setRelock_trace (s : State) (t : Option Nat) : (s.setRelock t).trace = s.trace := rfl
@[simp] theorem State.setRelock_mon (s : State) (t : Option Nat) : (s.setRelock t).mon = s.mon := rfl
@[simp] theorem State.setRelock_config (s : State) (t : Option Nat) : (s.setRelock t).config = s.config := rfl
@[simp] theorem State.setRelock_ports (s : State) (t : Option Nat) : (s.setRelock t).ports = s.ports := rfl
@[simp] theorem State.setRelock_staging (s : State) (t : Option Nat) : (s.setRelock t).staging = s.staging := rfl
@[simp] theorem State.setRelock_softResetDue (s : State) (t : Option Nat) : (s.setRelock t).softResetDue = s.softResetDue := rfl
@[simp] theorem State.setRelock_notices (s : State) (t : Option Nat) : (s.setRelock t).notices = s.notices := rfl

@[simp] theorem State.setRepeat_pending (s : State) (r : Option Repeat) : (s.setRepeat r).pending = s.pending := rfl
@[simp] theorem State.setRepeat_now (s : State) (r : Option Repeat) : (s.setRepeat r).now = s.now := rfl
@[simp] theorem State.setRepeat_freeCount (s : State) (r : Option Repeat) : (s.setRepeat r).freeCount = s.freeCount := rfl
@[simp] theorem State.setRepeat_resetLine (s : State) (r : Option Repeat) : (s.setRepeat r).resetLine = s.resetLine := rfl
@[simp] theorem State.setRepeat_closures (s : State) (r : Option Repeat) : (s.setRepeat r).closures = s.closures := rfl
@[simp] theorem State.setRepeat_childs (s : State) (r : Option Repeat) : (s.setRepeat r).childs = s.childs := rfl
@[simp] theorem State.setRepeat_sensing (s : State) (r : Option Repeat) : (s.setRepeat r).sensing = s.sensing := rfl
@[simp] theorem State.setRepeat_crash (s : State) (r : Option Repeat) : (s.setRepeat r).crash = s.crash := rfl
@[simp] theorem State.setRepeat_fobs (s : State) (r : Option Repeat) : (s.setRepeat r).fobs = s.fobs := rfl
@[simp] theorem State.setRepeat_touch (s : State) (r : Option Repeat) : (s.setRepeat r).touch = s.touch := rfl
@[simp] theorem State.setRepeat_win (s : State) (r : Option Repeat) : (s.setRepeat r).win = s.win := rfl
@[simp] theorem State.setRepeat_pinch (s : State) (r : Option Repeat) : (s.setRepeat r).pinch = s.pinch := rfl
@[simp] theorem State.setRepeat_refs (s : State) (r : Option Repeat) : (s.setRepeat r).refs = s.refs := rfl
@[simp] theorem State.setRepeat_trace (s : State) (r : Option Repeat) : (s.setRepeat r).trace = s.trace := rfl
@[simp] theorem State.setRepeat_mon (s : State) (r : Option Repeat) : (s.setRepeat r).mon = s.mon := rfl
@[simp] theorem State.setRepeat_config (s : State) (r : Option Repeat) : (s.setRepeat r).config = s.config := rfl
@[simp] theorem State.setRepeat_ports (s : State) (r : Option Repeat) : (s.setRepeat r).ports = s.ports := rfl
@[simp] theorem State.setRepeat_staging (s : State) (r : Option Repeat) : (s.setRepeat r).staging = s.staging := rfl
@[simp] theorem State.setRepeat_softResetDue (s : State) (r : Option Repeat) : (s.setRepeat r).softResetDue = s.softResetDue := rfl
@[simp] theorem State.setRepeat_notices (s : State) (r : Option Repeat) : (s.setRepeat r).notices = s.notices := rfl

@[simp] theorem State.setSlot_pending (s : State) (i : Fin 8) (f : FobSlot) : (s.setSlot i f).pending = s.pending := rfl
@[simp] theorem State.setSlot_now (s : State) (i : Fin 8) (f : FobSlot) : (s.setSlot i f).now = s.now := rfl
@[simp] theorem State.setSlot_freeCount (s : State) (i : Fin 8) (f : FobSlot) : (s.setSlot i f).freeCount = s.freeCount := rfl
@[simp] theorem State.setSlot_resetLine (s : State) (i : Fin 8) (f : FobSlot) : (s.setSlot i f).resetLine = s.resetLine := rfl
@[simp] theorem State.setSlot_closures (s : State) (i : Fin 8) (f : FobSlot) : (s.setSlot i f).closures = s.closures := rfl
@[simp] theorem State.setSlot_childs (s : State) (i : Fin 8) (f : FobSlot) : (s.setSlot i f).childs = s.childs := rfl
@[simp] theorem State.setSlot_sensing (s : State) (i : Fin 8) (f : FobSlot) : (s.setSlot i f).sensing = s.sensing := rfl
@[simp] theorem State.setSlot_seq (s : State) (i : Fin 8) (f : FobSlot) : (s.setSlot i f).seq = s.seq := rfl
@[simp] theorem State.setSlot_crash (s : State) (i : Fin 8) (f : FobSlot) : (s.setSlot i f).crash = s.crash := rfl
@[simp] theorem State.setSlot_touch (s : State) (i : Fin 8) (f : FobSlot) : (s.setSlot i f).touch = s.touch := rfl
@[simp] theorem State.setSlot_win (s : State) (i : Fin 8) (f : FobSlot) : (s.setSlot i f).win = s.win := rfl
@[simp] theorem State.setSlot_pinch (s : State) (i : Fin 8) (f : FobSlot) : (s.setSlot i f).pinch = s.pinch := rfl
@[simp] theorem State.setSlot_refs (s : State) (i : Fin 8) (f : FobSlot) : (s.setSlot i f).refs = s.refs := rfl
@[simp] theorem State.setSlot_trace (s : State) (i : Fin 8) (f : FobSlot) : (s.setSlot i f).trace = s.trace := rfl
@[simp] theorem State.setSlot_mon (s : State) (i : Fin 8) (f : FobSlot) : (s.setSlot i f).mon = s.mon := rfl
@[simp] theorem State.setSlot_config (s : State) (i : Fin 8) (f : FobSlot) : (s.setSlot i f).config = s.config := rfl
@[simp] theorem State.setSlot_ports (s : State) (i : Fin 8) (f : FobSlot) : (s.setSlot i f).ports = s.ports := rfl
@[simp] theorem State.setSlot_staging (s : State) (i : Fin 8) (f : FobSlot) : (s.setSlot i f).staging = s.staging := rfl
@[simp] theorem State.setSlot_softResetDue (s : State) (i : Fin 8) (f : FobSlot) : (s.setSlot i f).softResetDue = s.softResetDue := rfl
@[simp] theorem State.setSlot_notices (s : State) (i : Fin 8) (f : FobSlot) : (s.setSlot i f).notices = s.notices := rfl

@[simp] theorem State.setSession_pending (s : State) (x : Option Session) : (s.setSession x).pending = s.pending := rfl
@[simp] theorem State.setSession_now (s : State) (x : Option Session) : (s.setSession x).now = s.now := rfl
@[simp] theorem State.setSession_freeCount (s : State) (x : Option Session) : (s.setSession x).freeCount = s.freeCount := rfl
@[simp] theorem State.setSession_resetLine (s : State) (x : Option Session) : (s.setSession x).resetLine = s.resetLine := rfl
@[simp] theorem State.setSession_closures (s : State) (x : Option Session) : (s.setSession x).closures = s.closures := rfl
@[simp] theorem State.setSession_childs (s : State) (x : Option Session) : (s.setSession x).childs = s.childs := rfl
@[simp] theorem State.setSession_sensing (s : State) (x : Option Session) : (s.setSession x).sensing = s.sensing := rfl
@[simp] theorem State.setSession_seq (s : State) (x : Option Session) : (s.setSession x).seq = s.seq := rfl
@[simp] theorem State.setSession_crash (s : State) (x : Option Session) : (s.setSession x).crash = s.crash := rfl
@[simp] theorem State.setSession_touch (s : State) (x : Option Session) : (s.setSession x).touch = s.touch := rfl
@[simp] theorem State.setSession_win (s : State) (x : Option Session) : (s.setSession x).win = s.win := rfl
@[simp] theorem State.setSession_pinch (s : State) (x : Option Session) : (s.setSession x).pinch = s.pinch := rfl
@[simp] theorem State.setSession_refs (s : State) (x : Option Session) : (s.setSession x).refs = s.refs := rfl
@[simp] theorem State.setSession_trace (s : State) (x : Option Session) : (s.setSession x).trace = s.trace := rfl
@[simp] theorem State.setSession_mon (s : State) (x : Option Session) : (s.setSession x).mon = s.mon := rfl
@[simp] theorem State.setSession_config (s : State) (x : Option Session) : (s.setSession x).config = s.config := rfl
@[simp] theorem State.setSession_ports (s : State) (x : Option Session) : (s.setSession x).ports = s.ports := rfl
@[simp] theorem State.setSession_staging (s : State) (x : Option Session) : (s.setSession x).staging = s.staging := rfl
@[simp] theorem State.setSession_softResetDue (s : State) (x : Option Session) : (s.setSession x).softResetDue = s.softResetDue := rfl
@[simp] theorem State.setSession_notices (s : State) (x : Option Session) : (s.setSession x).notices = s.notices := rfl

@[simp] theorem State.setTouch_pending (s : State) (t : TouchSource) (e : TouchEntry) : (s.setTouch t e).pending = s.pending := rfl
@[simp] theorem State.setTouch_now (s : State) (t : TouchSource) (e : TouchEntry) : (s.setTouch t e).now = s.now := rfl
@[simp] theorem State.setTouch_freeCount (s : State) (t : TouchSource) (e : TouchEntry) : (s.setTouch t e).freeCount = s.freeCount := rfl
@[simp] theorem State.setTouch_resetLine (s : State) (t : TouchSource) (e : TouchEntry) : (s.setTouch t e).resetLine = s.resetLine := rfl
@[simp] theorem State.setTouch_closures (s : State) (t : TouchSource) (e : TouchEntry) : (s.setTouch t e).closures = s.closures := rfl
@[simp] theorem State.setTouch_childs (s : State) (t : TouchSource) (e : TouchEntry) : (s.setTouch t e).childs = s.childs := rfl
@[simp] theorem State.setTouch_sensing (s : State) (t : TouchSource) (e : TouchEntry) : (s.setTouch t e).sensing = s.sensing := rfl
@[simp] theorem State.setTouch_seq (s : State) (t : TouchSource) (e : TouchEntry) : (s.setTouch t e).seq = s.seq := rfl
@[simp] theorem State.setTouch_crash (s : State) (t : TouchSource) (e : TouchEntry) : (s.setTouch t e).crash = s.crash := rfl
@[simp] theorem State.setTouch_fobs (s : State) (t : TouchSource) (e : TouchEntry) : (s.setTouch t e).fobs = s.fobs := rfl
@[simp] theorem State.setTouch_win (s : State) (t : TouchSource) (e : TouchEntry) : (s.setTouch t e).win = s.win := rfl
@[simp] theorem State.setTouch_pinch (s : State) (t : TouchSource) (e : TouchEntry) : (s.setTouch t e).pinch = s.pinch := rfl
@[simp] theorem State.setTouch_refs (s : State) (t : TouchSource) (e : TouchEntry) : (s.setTouch t e).refs = s.refs := rfl
@[simp] theorem State.setTouch_trace (s : State) (t : TouchSource) (e : TouchEntry) : (s.setTouch t e).trace = s.trace := rfl
@[simp] theorem State.setTouch_mon (s : State) (t : TouchSource) (e : TouchEntry) : (s.setTouch t e).mon = s.mon := rfl
@[simp] theorem State.setTouch_config (s : State) (t : TouchSource) (e : TouchEntry) : (s.setTouch t e).config = s.config := rfl
@[simp] theorem State.setTouch_ports (s : State) (t : TouchSource) (e : TouchEntry) : (s.setTouch t e).ports = s.ports := rfl
@[simp] theorem State.setTouch_staging (s : State) (t : TouchSource) (e : TouchEntry) : (s.setTouch t e).staging = s.staging := rfl
@[simp] theorem State.setTouch_softResetDue (s : State) (t : TouchSource) (e : TouchEntry) : (s.setTouch t e).softResetDue = s.softResetDue := rfl
@[simp] theorem State.setTouch_notices (s : State) (t : TouchSource) (e : TouchEntry) : (s.setTouch t e).notices = s.notices := rfl

@[simp] theorem State.setWin_pending (s : State) (w : Window) (r : WindowRec) : (s.setWin w r).pending = s.pending := rfl
@[simp] theorem State.setWin_now (s : State) (w : Window) (r : WindowRec) : (s.setWin w r).now = s.now := rfl
@[simp] theorem State.setWin_freeCount (s : State) (w : Window) (r : WindowRec) : (s.setWin w r).freeCount = s.freeCount := rfl
@[simp] theorem State.setWin_resetLine (s : State) (w : Window) (r : WindowRec) : (s.setWin w r).resetLine = s.resetLine := rfl
@[simp] theorem State.setWin_closures (s : State) (w : Window) (r : WindowRec) : (s.setWin w r).closures = s.closures := rfl
@[simp] theorem State.setWin_childs (s : State) (w : Window) (r : WindowRec) : (s.setWin w r).childs = s.childs := rfl
@[simp] theorem State.setWin_sensing (s : State) (w : Window) (r : WindowRec) : (s.setWin w r).sensing = s.sensing := rfl
@[simp] theorem State.setWin_seq (s : State) (w : Window) (r : WindowRec) : (s.setWin w r).seq = s.seq := rfl
@[simp] theorem State.setWin_crash (s : State) (w : Window) (r : WindowRec) : (s.setWin w r).crash = s.crash := rfl
@[simp] theorem State.setWin_fobs (s : State) (w : Window) (r : WindowRec) : (s.setWin w r).fobs = s.fobs := rfl
@[simp] theorem State.setWin_touch (s : State) (w : Window) (r : WindowRec) : (s.setWin w r).touch = s.touch := rfl
@[simp] theorem State.setWin_pinch (s : State) (w : Window) (r : WindowRec) : (s.setWin w r).pinch = s.pinch := rfl
@[simp] theorem State.setWin_refs (s : State) (w : Window) (r : WindowRec) : (s.setWin w r).refs = s.refs := rfl
@[simp] theorem State.setWin_trace (s : State) (w : Window) (r : WindowRec) : (s.setWin w r).trace = s.trace := rfl
@[simp] theorem State.setWin_mon (s : State) (w : Window) (r : WindowRec) : (s.setWin w r).mon = s.mon := rfl
@[simp] theorem State.setWin_config (s : State) (w : Window) (r : WindowRec) : (s.setWin w r).config = s.config := rfl
@[simp] theorem State.setWin_ports (s : State) (w : Window) (r : WindowRec) : (s.setWin w r).ports = s.ports := rfl
@[simp] theorem State.setWin_staging (s : State) (w : Window) (r : WindowRec) : (s.setWin w r).staging = s.staging := rfl
@[simp] theorem State.setWin_softResetDue (s : State) (w : Window) (r : WindowRec) : (s.setWin w r).softResetDue = s.softResetDue := rfl
@[simp] theorem State.setWin_notices (s : State) (w : Window) (r : WindowRec) : (s.setWin w r).notices = s.notices := rfl

@[simp] theorem State.setPinch_pending (s : State) (w : Window) (p : PinchState) : (s.setPinch w p).pending = s.pending := rfl
@[simp] theorem State.setPinch_now (s : State) (w : Window) (p : PinchState) : (s.setPinch w p).now = s.now := rfl
@[simp] theorem State.setPinch_freeCount (s : State) (w : Window) (p : PinchState) : (s.setPinch w p).freeCount = s.freeCount := rfl
@[simp] theorem State.setPinch_resetLine (s : State) (w : Window) (p : PinchState) : (s.setPinch w p).resetLine = s.resetLine := rfl
@[simp] theorem State.setPinch_closures (s : State) (w : Window) (p : PinchState) : (s.setPinch w p).closures = s.closures := rfl
@[simp] theorem State.setPinch_childs (s : State) (w : Window) (p : PinchState) : (s.setPinch w p).childs = s.childs := rfl
@[simp] theorem State.setPinch_sensing (s : State) (w : Window) (p : PinchState) : (s.setPinch w p).sensing = s.sensing := rfl
@[simp] theorem State.setPinch_seq (s : State) (w : Window) (p : PinchState) : (s.setPinch w p).seq = s.seq := rfl
@[simp] theorem State.setPinch_crash (s : State) (w : Window) (p : PinchState) : (s.setPinch w p).crash = s.crash := rfl
@[simp] theorem State.setPinch_fobs (s : State) (w : Window) (p : PinchState) : (s.setPinch w p).fobs = s.fobs := rfl
@[simp] theorem State.setPinch_touch (s : State) (w : Window) (p : PinchState) : (s.setPinch w p).touch = s.touch := rfl
@[simp] theorem State.setPinch_win (s : State) (w : Window) (p : PinchState) : (s.setPinch w p).win = s.win := rfl
@[simp] theorem State.setPinch_refs (s : State) (w : Window) (p : PinchState) : (s.setPinch w p).refs = s.refs := rfl
@[simp] theorem State.setPinch_trace (s : State) (w : Window) (p : PinchState) : (s.setPinch w p).trace = s.trace := rfl
@[simp] theorem State.setPinch_mon (s : State) (w : Window) (p : PinchState) : (s.setPinch w p).mon = s.mon := rfl
@[simp] theorem State.setPinch_config (s : State) (w : Window) (p : PinchState) : (s.setPinch w p).config = s.config := rfl
@[simp] theorem State.setPinch_ports (s : State) (w : Window) (p : PinchState) : (s.setPinch w p).ports = s.ports := rfl
@[simp] theorem State.setPinch_staging (s : State) (w : Window) (p : PinchState) : (s.setPinch w p).staging = s.staging := rfl
@[simp] theorem State.setPinch_softResetDue (s : State) (w : Window) (p : PinchState) : (s.setPinch w p).softResetDue = s.softResetDue := rfl
@[simp] theorem State.setPinch_notices (s : State) (w : Window) (p : PinchState) : (s.setPinch w p).notices = s.notices := rfl

@[simp] theorem State.setRefs_pending (s : State) (w : Window) (r : RefState) : (s.setRefs w r).pending = s.pending := rfl
@[simp] theorem State.setRefs_now (s : State) (w : Window) (r : RefState) : (s.setRefs w r).now = s.now := rfl
@[simp] theorem State.setRefs_freeCount (s : State) (w : Window) (r : RefState) : (s.setRefs w r).freeCount = s.freeCount := rfl
@[simp] theorem State.setRefs_resetLine (s : State) (w : Window) (r : RefState) : (s.setRefs w r).resetLine = s.resetLine := rfl
@[simp] theorem State.setRefs_closures (s : State) (w : Window) (r : RefState) : (s.setRefs w r).closures = s.closures := rfl
@[simp] theorem State.setRefs_childs (s : State) (w : Window) (r : RefState) : (s.setRefs w r).childs = s.childs := rfl
@[simp] theorem State.setRefs_sensing (s : State) (w : Window) (r : RefState) : (s.setRefs w r).sensing = s.sensing := rfl
@[simp] theorem State.setRefs_seq (s : State) (w : Window) (r : RefState) : (s.setRefs w r).seq = s.seq := rfl
@[simp] theorem State.setRefs_crash (s : State) (w : Window) (r : RefState) : (s.setRefs w r).crash = s.crash := rfl
@[simp] theorem State.setRefs_fobs (s : State) (w : Window) (r : RefState) : (s.setRefs w r).fobs = s.fobs := rfl
@[simp] theorem State.setRefs_touch (s : State) (w : Window) (r : RefState) : (s.setRefs w r).touch = s.touch := rfl
@[simp] theorem State.setRefs_win (s : State) (w : Window) (r : RefState) : (s.setRefs w r).win = s.win := rfl
@[simp] theorem State.setRefs_pinch (s : State) (w : Window) (r : RefState) : (s.setRefs w r).pinch = s.pinch := rfl
@[simp] theorem State.setRefs_trace (s : State) (w : Window) (r : RefState) : (s.setRefs w r).trace = s.trace := rfl
@[simp] theorem State.setRefs_mon (s : State) (w : Window) (r : RefState) : (s.setRefs w r).mon = s.mon := rfl
@[simp] theorem State.setRefs_config (s : State) (w : Window) (r : RefState) : (s.setRefs w r).config = s.config := rfl
@[simp] theorem State.setRefs_ports (s : State) (w : Window) (r : RefState) : (s.setRefs w r).ports = s.ports := rfl
@[simp] theorem State.setRefs_staging (s : State) (w : Window) (r : RefState) : (s.setRefs w r).staging = s.staging := rfl
@[simp] theorem State.setRefs_softResetDue (s : State) (w : Window) (r : RefState) : (s.setRefs w r).softResetDue = s.softResetDue := rfl
@[simp] theorem State.setRefs_notices (s : State) (w : Window) (r : RefState) : (s.setRefs w r).notices = s.notices := rfl

@[simp] theorem State.setChan_pending (s : State) (ch : Channel) (r : ChannelRec) : (s.setChan ch r).pending = s.pending := rfl
@[simp] theorem State.setChan_now (s : State) (ch : Channel) (r : ChannelRec) : (s.setChan ch r).now = s.now := rfl
@[simp] theorem State.setChan_freeCount (s : State) (ch : Channel) (r : ChannelRec) : (s.setChan ch r).freeCount = s.freeCount := rfl
@[simp] theorem State.setChan_resetLine (s : State) (ch : Channel) (r : ChannelRec) : (s.setChan ch r).resetLine = s.resetLine := rfl
@[simp] theorem State.setChan_closures (s : State) (ch : Channel) (r : ChannelRec) : (s.setChan ch r).closures = s.closures := rfl
@[simp] theorem State.setChan_childs (s : State) (ch : Channel) (r : ChannelRec) : (s.setChan ch r).childs = s.childs := rfl
@[simp] theorem State.setChan_sensing (s : State) (ch : Channel) (r : ChannelRec) : (s.setChan ch r).sensing = s.sensing := rfl
@[simp] theorem State.setChan_seq (s : State) (ch : Channel) (r : ChannelRec) : (s.setChan ch r).seq = s.seq := rfl
@[simp] theorem State.setChan_crash (s : State) (ch : Channel) (r : ChannelRec) : (s.setChan ch r).crash = s.crash := rfl
@[simp] theorem State.setChan_fobs (s : State) (ch : Channel) (r : ChannelRec) : (s.setChan ch r).fobs = s.fobs := rfl
@[simp] theorem State.setChan_touch (s : State) (ch : Channel) (r : ChannelRec) : (s.setChan ch r).touch = s.touch := rfl
@[simp] theorem State.setChan_win (s : State) (ch : Channel) (r : ChannelRec) : (s.setChan ch r).win = s.win := rfl
@[simp] theorem State.setChan_pinch (s : State) (ch : Channel) (r : ChannelRec) : (s.setChan ch r).pinch = s.pinch := rfl
@[simp] theorem State.setChan_refs (s : State) (ch : Channel) (r : ChannelRec) : (s.setChan ch r).refs = s.refs := rfl
@[simp] theorem State.setChan_trace (s : State) (ch : Channel) (r : ChannelRec) : (s.setChan ch r).trace = s.trace := rfl
@[simp] theorem State.setChan_config (s : State) (ch : Channel) (r : ChannelRec) : (s.setChan ch r).config = s.config := rfl
@[simp] theorem State.setChan_ports (s : State) (ch : Channel) (r : ChannelRec) : (s.setChan ch r).ports = s.ports := rfl
@[simp] theorem State.setChan_staging (s : State) (ch : Channel) (r : ChannelRec) : (s.setChan ch r).staging = s.staging := rfl
@[simp] theorem State.setChan_softResetDue (s : State) (ch : Channel) (r : ChannelRec) : (s.setChan ch r).softResetDue = s.softResetDue := rfl
@[simp] theorem State.setChan_notices (s : State) (ch : Channel) (r : ChannelRec) : (s.setChan ch r).notices = s.notices := rfl

@[simp] theorem State.setRing_pending (s : State) (w : Window) (l : List Sample) : (s.setRing w l).pending = s.pending := rfl
@[simp] theorem State.setRing_now (s : State) (w : Window) (l : List Sample) : (s.setRing w l).now = s.now := rfl
@[simp] theorem State.setRing_freeCount (s : State) (w : Window) (l : List Sample) : (s.setRing w l).freeCount = s.freeCount := rfl
@[simp] theorem State.setRing_resetLine (s : State) (w : Window) (l : List Sample) : (s.setRing w l).resetLine = s.resetLine := rfl
@[simp] theorem State.setRing_closures (s : State) (w : Window) (l : List Sample) : (s.setRing w l).closures = s.closures := rfl
@[simp] theorem State.setRing_childs (s : State) (w : Window) (l : List Sample) : (s.setRing w l).childs = s.childs := rfl
@[simp] theorem State.setRing_sensing (s : State) (w : Window) (l : List Sample) : (s.setRing w l).sensing = s.sensing := rfl
@[simp] theorem State.setRing_seq (s : State) (w : Window) (l : List Sample) : (s.setRing w l).seq = s.seq := rfl
@[simp] theorem State.setRing_crash (s : State) (w : Window) (l : List Sample) : (s.setRing w l).crash = s.crash := rfl
@[simp] theorem State.setRing_fobs (s : State) (w : Window) (l : List Sample) : (s.setRing w l).fobs = s.fobs := rfl
@[simp] theorem State.setRing_touch (s : State) (w : Window) (l : List Sample) : (s.setRing w l).touch = s.touch := rfl
@[simp] theorem State.setRing_win (s : State) (w : Window) (l : List Sample) : (s.setRing w l).win = s.win := rfl
@[simp] theorem State.setRing_pinch (s : State) (w : Window) (l : List Sample) : (s.setRing w l).pinch = s.pinch := rfl
@[simp] theorem State.setRing_refs (s : State) (w : Window) (l : List Sample) : (s.setRing w l).refs = s.refs := rfl
@[simp] theorem State.setRing_mon (s : State) (w : Window) (l : List Sample) : (s.setRing w l).mon = s.mon := rfl
@[simp] theorem State.setRing_config (s : State) (w : Window) (l : List Sample) : (s.setRing w l).config = s.config := rfl
@[simp] theorem State.setRing_ports (s : State) (w : Window) (l : List Sample) : (s.setRing w l).ports = s.ports := rfl
@[simp] theorem State.setRing_staging (s : State) (w : Window) (l : List Sample) : (s.setRing w l).staging = s.staging := rfl
@[simp] theorem State.setRing_softResetDue (s : State) (w : Window) (l : List Sample) : (s.setRing w l).softResetDue = s.softResetDue := rfl
@[simp] theorem State.setRing_notices (s : State) (w : Window) (l : List Sample) : (s.setRing w l).notices = s.notices := rfl

@[simp] theorem State.setBuffer_pending (s : State) (i : Fin 8) (b : Buffer) : (s.setBuffer i b).pending = s.pending := rfl
@[simp] theorem State.setBuffer_now (s : State) (i : Fin 8) (b : Buffer) : (s.setBuffer i b).now = s.now := rfl
@[simp] theorem State.setBuffer_freeCount (s : State) (i : Fin 8) (b : Buffer) : (s.setBuffer i b).freeCount = s.freeCount := rfl
@[simp] theorem State.setBuffer_resetLine (s : State) (i : Fin 8) (b : Buffer) : (s.setBuffer i b).resetLine = s.resetLine := rfl
@[simp] theorem State.setBuffer_closures (s : State) (i : Fin 8) (b : Buffer) : (s.setBuffer i b).closures = s.closures := rfl
@[simp] theorem State.setBuffer_childs (s : State) (i : Fin 8) (b : Buffer) : (s.setBuffer i b).childs = s.childs := rfl
@[simp] theorem State.setBuffer_sensing (s : State) (i : Fin 8) (b : Buffer) : (s.setBuffer i b).sensing = s.sensing := rfl
@[simp] theorem State.setBuffer_seq (s : State) (i : Fin 8) (b : Buffer) : (s.setBuffer i b).seq = s.seq := rfl
@[simp] theorem State.setBuffer_crash (s : State) (i : Fin 8) (b : Buffer) : (s.setBuffer i b).crash = s.crash := rfl
@[simp] theorem State.setBuffer_fobs (s : State) (i : Fin 8) (b : Buffer) : (s.setBuffer i b).fobs = s.fobs := rfl
@[simp] theorem State.setBuffer_touch (s : State) (i : Fin 8) (b : Buffer) : (s.setBuffer i b).touch = s.touch := rfl
@[simp] theorem State.setBuffer_win (s : State) (i : Fin 8) (b : Buffer) : (s.setBuffer i b).win = s.win := rfl
@[simp] theorem State.setBuffer_pinch (s : State) (i : Fin 8) (b : Buffer) : (s.setBuffer i b).pinch = s.pinch := rfl
@[simp] theorem State.setBuffer_refs (s : State) (i : Fin 8) (b : Buffer) : (s.setBuffer i b).refs = s.refs := rfl
@[simp] theorem State.setBuffer_mon (s : State) (i : Fin 8) (b : Buffer) : (s.setBuffer i b).mon = s.mon := rfl
@[simp] theorem State.setBuffer_config (s : State) (i : Fin 8) (b : Buffer) : (s.setBuffer i b).config = s.config := rfl
@[simp] theorem State.setBuffer_ports (s : State) (i : Fin 8) (b : Buffer) : (s.setBuffer i b).ports = s.ports := rfl
@[simp] theorem State.setBuffer_staging (s : State) (i : Fin 8) (b : Buffer) : (s.setBuffer i b).staging = s.staging := rfl
@[simp] theorem State.setBuffer_softResetDue (s : State) (i : Fin 8) (b : Buffer) : (s.setBuffer i b).softResetDue = s.softResetDue := rfl
@[simp] theorem State.setBuffer_notices (s : State) (i : Fin 8) (b : Buffer) : (s.setBuffer i b).notices = s.notices := rfl

@[simp] theorem State.setPort_pending (s : State) (p : Port) (e : PortEngine) : (s.setPort p e).pending = s.pending := rfl
@[simp] theorem State.setPort_now (s : State) (p : Port) (e : PortEngine) : (s.setPort p e).now = s.now := rfl
@[simp] theorem State.setPort_freeCount (s : State) (p : Port) (e : PortEngine) : (s.setPort p e).freeCount = s.freeCount := rfl
@[simp] theorem State.setPort_resetLine (s : State) (p : Port) (e : PortEngine) : (s.setPort p e).resetLine = s.resetLine := rfl
@[simp] theorem State.setPort_closures (s : State) (p : Port) (e : PortEngine) : (s.setPort p e).closures = s.closures := rfl
@[simp] theorem State.setPort_childs (s : State) (p : Port) (e : PortEngine) : (s.setPort p e).childs = s.childs := rfl
@[simp] theorem State.setPort_sensing (s : State) (p : Port) (e : PortEngine) : (s.setPort p e).sensing = s.sensing := rfl
@[simp] theorem State.setPort_seq (s : State) (p : Port) (e : PortEngine) : (s.setPort p e).seq = s.seq := rfl
@[simp] theorem State.setPort_crash (s : State) (p : Port) (e : PortEngine) : (s.setPort p e).crash = s.crash := rfl
@[simp] theorem State.setPort_fobs (s : State) (p : Port) (e : PortEngine) : (s.setPort p e).fobs = s.fobs := rfl
@[simp] theorem State.setPort_touch (s : State) (p : Port) (e : PortEngine) : (s.setPort p e).touch = s.touch := rfl
@[simp] theorem State.setPort_win (s : State) (p : Port) (e : PortEngine) : (s.setPort p e).win = s.win := rfl
@[simp] theorem State.setPort_pinch (s : State) (p : Port) (e : PortEngine) : (s.setPort p e).pinch = s.pinch := rfl
@[simp] theorem State.setPort_refs (s : State) (p : Port) (e : PortEngine) : (s.setPort p e).refs = s.refs := rfl
@[simp] theorem State.setPort_trace (s : State) (p : Port) (e : PortEngine) : (s.setPort p e).trace = s.trace := rfl
@[simp] theorem State.setPort_mon (s : State) (p : Port) (e : PortEngine) : (s.setPort p e).mon = s.mon := rfl
@[simp] theorem State.setPort_config (s : State) (p : Port) (e : PortEngine) : (s.setPort p e).config = s.config := rfl
@[simp] theorem State.setPort_staging (s : State) (p : Port) (e : PortEngine) : (s.setPort p e).staging = s.staging := rfl
@[simp] theorem State.setPort_softResetDue (s : State) (p : Port) (e : PortEngine) : (s.setPort p e).softResetDue = s.softResetDue := rfl
@[simp] theorem State.setPort_notices (s : State) (p : Port) (e : PortEngine) : (s.setPort p e).notices = s.notices := rfl

@[simp] theorem State.setNotices_pending (s : State) (p : Port) (n : NoticeSet) : (s.setNotices p n).pending = s.pending := rfl
@[simp] theorem State.setNotices_now (s : State) (p : Port) (n : NoticeSet) : (s.setNotices p n).now = s.now := rfl
@[simp] theorem State.setNotices_freeCount (s : State) (p : Port) (n : NoticeSet) : (s.setNotices p n).freeCount = s.freeCount := rfl
@[simp] theorem State.setNotices_resetLine (s : State) (p : Port) (n : NoticeSet) : (s.setNotices p n).resetLine = s.resetLine := rfl
@[simp] theorem State.setNotices_closures (s : State) (p : Port) (n : NoticeSet) : (s.setNotices p n).closures = s.closures := rfl
@[simp] theorem State.setNotices_childs (s : State) (p : Port) (n : NoticeSet) : (s.setNotices p n).childs = s.childs := rfl
@[simp] theorem State.setNotices_sensing (s : State) (p : Port) (n : NoticeSet) : (s.setNotices p n).sensing = s.sensing := rfl
@[simp] theorem State.setNotices_seq (s : State) (p : Port) (n : NoticeSet) : (s.setNotices p n).seq = s.seq := rfl
@[simp] theorem State.setNotices_crash (s : State) (p : Port) (n : NoticeSet) : (s.setNotices p n).crash = s.crash := rfl
@[simp] theorem State.setNotices_fobs (s : State) (p : Port) (n : NoticeSet) : (s.setNotices p n).fobs = s.fobs := rfl
@[simp] theorem State.setNotices_touch (s : State) (p : Port) (n : NoticeSet) : (s.setNotices p n).touch = s.touch := rfl
@[simp] theorem State.setNotices_win (s : State) (p : Port) (n : NoticeSet) : (s.setNotices p n).win = s.win := rfl
@[simp] theorem State.setNotices_pinch (s : State) (p : Port) (n : NoticeSet) : (s.setNotices p n).pinch = s.pinch := rfl
@[simp] theorem State.setNotices_refs (s : State) (p : Port) (n : NoticeSet) : (s.setNotices p n).refs = s.refs := rfl
@[simp] theorem State.setNotices_trace (s : State) (p : Port) (n : NoticeSet) : (s.setNotices p n).trace = s.trace := rfl
@[simp] theorem State.setNotices_mon (s : State) (p : Port) (n : NoticeSet) : (s.setNotices p n).mon = s.mon := rfl
@[simp] theorem State.setNotices_config (s : State) (p : Port) (n : NoticeSet) : (s.setNotices p n).config = s.config := rfl
@[simp] theorem State.setNotices_ports (s : State) (p : Port) (n : NoticeSet) : (s.setNotices p n).ports = s.ports := rfl
@[simp] theorem State.setNotices_staging (s : State) (p : Port) (n : NoticeSet) : (s.setNotices p n).staging = s.staging := rfl
@[simp] theorem State.setNotices_softResetDue (s : State) (p : Port) (n : NoticeSet) : (s.setNotices p n).softResetDue = s.softResetDue := rfl

@[simp] theorem State.onAll_pending (s : State) (f : NoticeSet → NoticeSet) : (s.onAll f).pending = s.pending := rfl
@[simp] theorem State.onAll_now (s : State) (f : NoticeSet → NoticeSet) : (s.onAll f).now = s.now := rfl
@[simp] theorem State.onAll_freeCount (s : State) (f : NoticeSet → NoticeSet) : (s.onAll f).freeCount = s.freeCount := rfl
@[simp] theorem State.onAll_resetLine (s : State) (f : NoticeSet → NoticeSet) : (s.onAll f).resetLine = s.resetLine := rfl
@[simp] theorem State.onAll_closures (s : State) (f : NoticeSet → NoticeSet) : (s.onAll f).closures = s.closures := rfl
@[simp] theorem State.onAll_childs (s : State) (f : NoticeSet → NoticeSet) : (s.onAll f).childs = s.childs := rfl
@[simp] theorem State.onAll_sensing (s : State) (f : NoticeSet → NoticeSet) : (s.onAll f).sensing = s.sensing := rfl
@[simp] theorem State.onAll_seq (s : State) (f : NoticeSet → NoticeSet) : (s.onAll f).seq = s.seq := rfl
@[simp] theorem State.onAll_crash (s : State) (f : NoticeSet → NoticeSet) : (s.onAll f).crash = s.crash := rfl
@[simp] theorem State.onAll_fobs (s : State) (f : NoticeSet → NoticeSet) : (s.onAll f).fobs = s.fobs := rfl
@[simp] theorem State.onAll_touch (s : State) (f : NoticeSet → NoticeSet) : (s.onAll f).touch = s.touch := rfl
@[simp] theorem State.onAll_win (s : State) (f : NoticeSet → NoticeSet) : (s.onAll f).win = s.win := rfl
@[simp] theorem State.onAll_pinch (s : State) (f : NoticeSet → NoticeSet) : (s.onAll f).pinch = s.pinch := rfl
@[simp] theorem State.onAll_refs (s : State) (f : NoticeSet → NoticeSet) : (s.onAll f).refs = s.refs := rfl
@[simp] theorem State.onAll_trace (s : State) (f : NoticeSet → NoticeSet) : (s.onAll f).trace = s.trace := rfl
@[simp] theorem State.onAll_mon (s : State) (f : NoticeSet → NoticeSet) : (s.onAll f).mon = s.mon := rfl
@[simp] theorem State.onAll_config (s : State) (f : NoticeSet → NoticeSet) : (s.onAll f).config = s.config := rfl
@[simp] theorem State.onAll_ports (s : State) (f : NoticeSet → NoticeSet) : (s.onAll f).ports = s.ports := rfl
@[simp] theorem State.onAll_staging (s : State) (f : NoticeSet → NoticeSet) : (s.onAll f).staging = s.staging := rfl
@[simp] theorem State.onAll_softResetDue (s : State) (f : NoticeSet → NoticeSet) : (s.onAll f).softResetDue = s.softResetDue := rfl

@[simp] theorem State.onBD_pending (s : State) (f : NoticeSet → NoticeSet) : (s.onBD f).pending = s.pending := rfl
@[simp] theorem State.onBD_now (s : State) (f : NoticeSet → NoticeSet) : (s.onBD f).now = s.now := rfl
@[simp] theorem State.onBD_freeCount (s : State) (f : NoticeSet → NoticeSet) : (s.onBD f).freeCount = s.freeCount := rfl
@[simp] theorem State.onBD_resetLine (s : State) (f : NoticeSet → NoticeSet) : (s.onBD f).resetLine = s.resetLine := rfl
@[simp] theorem State.onBD_closures (s : State) (f : NoticeSet → NoticeSet) : (s.onBD f).closures = s.closures := rfl
@[simp] theorem State.onBD_childs (s : State) (f : NoticeSet → NoticeSet) : (s.onBD f).childs = s.childs := rfl
@[simp] theorem State.onBD_sensing (s : State) (f : NoticeSet → NoticeSet) : (s.onBD f).sensing = s.sensing := rfl
@[simp] theorem State.onBD_seq (s : State) (f : NoticeSet → NoticeSet) : (s.onBD f).seq = s.seq := rfl
@[simp] theorem State.onBD_crash (s : State) (f : NoticeSet → NoticeSet) : (s.onBD f).crash = s.crash := rfl
@[simp] theorem State.onBD_fobs (s : State) (f : NoticeSet → NoticeSet) : (s.onBD f).fobs = s.fobs := rfl
@[simp] theorem State.onBD_touch (s : State) (f : NoticeSet → NoticeSet) : (s.onBD f).touch = s.touch := rfl
@[simp] theorem State.onBD_win (s : State) (f : NoticeSet → NoticeSet) : (s.onBD f).win = s.win := rfl
@[simp] theorem State.onBD_pinch (s : State) (f : NoticeSet → NoticeSet) : (s.onBD f).pinch = s.pinch := rfl
@[simp] theorem State.onBD_refs (s : State) (f : NoticeSet → NoticeSet) : (s.onBD f).refs = s.refs := rfl
@[simp] theorem State.onBD_trace (s : State) (f : NoticeSet → NoticeSet) : (s.onBD f).trace = s.trace := rfl
@[simp] theorem State.onBD_mon (s : State) (f : NoticeSet → NoticeSet) : (s.onBD f).mon = s.mon := rfl
@[simp] theorem State.onBD_config (s : State) (f : NoticeSet → NoticeSet) : (s.onBD f).config = s.config := rfl
@[simp] theorem State.onBD_ports (s : State) (f : NoticeSet → NoticeSet) : (s.onBD f).ports = s.ports := rfl
@[simp] theorem State.onBD_staging (s : State) (f : NoticeSet → NoticeSet) : (s.onBD f).staging = s.staging := rfl
@[simp] theorem State.onBD_softResetDue (s : State) (f : NoticeSet → NoticeSet) : (s.onBD f).softResetDue = s.softResetDue := rfl

@[simp] theorem State.onPort_pending (s : State) (p : Port) (f : NoticeSet → NoticeSet) : (s.onPort p f).pending = s.pending := rfl
@[simp] theorem State.onPort_now (s : State) (p : Port) (f : NoticeSet → NoticeSet) : (s.onPort p f).now = s.now := rfl
@[simp] theorem State.onPort_freeCount (s : State) (p : Port) (f : NoticeSet → NoticeSet) : (s.onPort p f).freeCount = s.freeCount := rfl
@[simp] theorem State.onPort_resetLine (s : State) (p : Port) (f : NoticeSet → NoticeSet) : (s.onPort p f).resetLine = s.resetLine := rfl
@[simp] theorem State.onPort_closures (s : State) (p : Port) (f : NoticeSet → NoticeSet) : (s.onPort p f).closures = s.closures := rfl
@[simp] theorem State.onPort_childs (s : State) (p : Port) (f : NoticeSet → NoticeSet) : (s.onPort p f).childs = s.childs := rfl
@[simp] theorem State.onPort_sensing (s : State) (p : Port) (f : NoticeSet → NoticeSet) : (s.onPort p f).sensing = s.sensing := rfl
@[simp] theorem State.onPort_seq (s : State) (p : Port) (f : NoticeSet → NoticeSet) : (s.onPort p f).seq = s.seq := rfl
@[simp] theorem State.onPort_crash (s : State) (p : Port) (f : NoticeSet → NoticeSet) : (s.onPort p f).crash = s.crash := rfl
@[simp] theorem State.onPort_fobs (s : State) (p : Port) (f : NoticeSet → NoticeSet) : (s.onPort p f).fobs = s.fobs := rfl
@[simp] theorem State.onPort_touch (s : State) (p : Port) (f : NoticeSet → NoticeSet) : (s.onPort p f).touch = s.touch := rfl
@[simp] theorem State.onPort_win (s : State) (p : Port) (f : NoticeSet → NoticeSet) : (s.onPort p f).win = s.win := rfl
@[simp] theorem State.onPort_pinch (s : State) (p : Port) (f : NoticeSet → NoticeSet) : (s.onPort p f).pinch = s.pinch := rfl
@[simp] theorem State.onPort_refs (s : State) (p : Port) (f : NoticeSet → NoticeSet) : (s.onPort p f).refs = s.refs := rfl
@[simp] theorem State.onPort_trace (s : State) (p : Port) (f : NoticeSet → NoticeSet) : (s.onPort p f).trace = s.trace := rfl
@[simp] theorem State.onPort_mon (s : State) (p : Port) (f : NoticeSet → NoticeSet) : (s.onPort p f).mon = s.mon := rfl
@[simp] theorem State.onPort_config (s : State) (p : Port) (f : NoticeSet → NoticeSet) : (s.onPort p f).config = s.config := rfl
@[simp] theorem State.onPort_ports (s : State) (p : Port) (f : NoticeSet → NoticeSet) : (s.onPort p f).ports = s.ports := rfl
@[simp] theorem State.onPort_staging (s : State) (p : Port) (f : NoticeSet → NoticeSet) : (s.onPort p f).staging = s.staging := rfl
@[simp] theorem State.onPort_softResetDue (s : State) (p : Port) (f : NoticeSet → NoticeSet) : (s.onPort p f).softResetDue = s.softResetDue := rfl

@[simp] theorem State.setFlags_pending (s : State) (f : StickyFlags → StickyFlags) : (s.setFlags f).pending = s.pending := rfl
@[simp] theorem State.setFlags_now (s : State) (f : StickyFlags → StickyFlags) : (s.setFlags f).now = s.now := rfl
@[simp] theorem State.setFlags_freeCount (s : State) (f : StickyFlags → StickyFlags) : (s.setFlags f).freeCount = s.freeCount := rfl
@[simp] theorem State.setFlags_resetLine (s : State) (f : StickyFlags → StickyFlags) : (s.setFlags f).resetLine = s.resetLine := rfl
@[simp] theorem State.setFlags_closures (s : State) (f : StickyFlags → StickyFlags) : (s.setFlags f).closures = s.closures := rfl
@[simp] theorem State.setFlags_childs (s : State) (f : StickyFlags → StickyFlags) : (s.setFlags f).childs = s.childs := rfl
@[simp] theorem State.setFlags_sensing (s : State) (f : StickyFlags → StickyFlags) : (s.setFlags f).sensing = s.sensing := rfl
@[simp] theorem State.setFlags_seq (s : State) (f : StickyFlags → StickyFlags) : (s.setFlags f).seq = s.seq := rfl
@[simp] theorem State.setFlags_crash (s : State) (f : StickyFlags → StickyFlags) : (s.setFlags f).crash = s.crash := rfl
@[simp] theorem State.setFlags_fobs (s : State) (f : StickyFlags → StickyFlags) : (s.setFlags f).fobs = s.fobs := rfl
@[simp] theorem State.setFlags_touch (s : State) (f : StickyFlags → StickyFlags) : (s.setFlags f).touch = s.touch := rfl
@[simp] theorem State.setFlags_win (s : State) (f : StickyFlags → StickyFlags) : (s.setFlags f).win = s.win := rfl
@[simp] theorem State.setFlags_pinch (s : State) (f : StickyFlags → StickyFlags) : (s.setFlags f).pinch = s.pinch := rfl
@[simp] theorem State.setFlags_refs (s : State) (f : StickyFlags → StickyFlags) : (s.setFlags f).refs = s.refs := rfl
@[simp] theorem State.setFlags_trace (s : State) (f : StickyFlags → StickyFlags) : (s.setFlags f).trace = s.trace := rfl
@[simp] theorem State.setFlags_config (s : State) (f : StickyFlags → StickyFlags) : (s.setFlags f).config = s.config := rfl
@[simp] theorem State.setFlags_ports (s : State) (f : StickyFlags → StickyFlags) : (s.setFlags f).ports = s.ports := rfl
@[simp] theorem State.setFlags_staging (s : State) (f : StickyFlags → StickyFlags) : (s.setFlags f).staging = s.staging := rfl
@[simp] theorem State.setFlags_softResetDue (s : State) (f : StickyFlags → StickyFlags) : (s.setFlags f).softResetDue = s.softResetDue := rfl
@[simp] theorem State.setFlags_notices (s : State) (f : StickyFlags → StickyFlags) : (s.setFlags f).notices = s.notices := rfl

@[simp] theorem State.setDetector_pending (s : State) (d : Detector) (t : Option Nat) : (s.setDetector d t).pending = s.pending := rfl
@[simp] theorem State.setDetector_now (s : State) (d : Detector) (t : Option Nat) : (s.setDetector d t).now = s.now := rfl
@[simp] theorem State.setDetector_freeCount (s : State) (d : Detector) (t : Option Nat) : (s.setDetector d t).freeCount = s.freeCount := rfl
@[simp] theorem State.setDetector_resetLine (s : State) (d : Detector) (t : Option Nat) : (s.setDetector d t).resetLine = s.resetLine := rfl
@[simp] theorem State.setDetector_closures (s : State) (d : Detector) (t : Option Nat) : (s.setDetector d t).closures = s.closures := rfl
@[simp] theorem State.setDetector_childs (s : State) (d : Detector) (t : Option Nat) : (s.setDetector d t).childs = s.childs := rfl
@[simp] theorem State.setDetector_sensing (s : State) (d : Detector) (t : Option Nat) : (s.setDetector d t).sensing = s.sensing := rfl
@[simp] theorem State.setDetector_seq (s : State) (d : Detector) (t : Option Nat) : (s.setDetector d t).seq = s.seq := rfl
@[simp] theorem State.setDetector_fobs (s : State) (d : Detector) (t : Option Nat) : (s.setDetector d t).fobs = s.fobs := rfl
@[simp] theorem State.setDetector_touch (s : State) (d : Detector) (t : Option Nat) : (s.setDetector d t).touch = s.touch := rfl
@[simp] theorem State.setDetector_win (s : State) (d : Detector) (t : Option Nat) : (s.setDetector d t).win = s.win := rfl
@[simp] theorem State.setDetector_pinch (s : State) (d : Detector) (t : Option Nat) : (s.setDetector d t).pinch = s.pinch := rfl
@[simp] theorem State.setDetector_refs (s : State) (d : Detector) (t : Option Nat) : (s.setDetector d t).refs = s.refs := rfl
@[simp] theorem State.setDetector_trace (s : State) (d : Detector) (t : Option Nat) : (s.setDetector d t).trace = s.trace := rfl
@[simp] theorem State.setDetector_mon (s : State) (d : Detector) (t : Option Nat) : (s.setDetector d t).mon = s.mon := rfl
@[simp] theorem State.setDetector_config (s : State) (d : Detector) (t : Option Nat) : (s.setDetector d t).config = s.config := rfl
@[simp] theorem State.setDetector_ports (s : State) (d : Detector) (t : Option Nat) : (s.setDetector d t).ports = s.ports := rfl
@[simp] theorem State.setDetector_staging (s : State) (d : Detector) (t : Option Nat) : (s.setDetector d t).staging = s.staging := rfl
@[simp] theorem State.setDetector_softResetDue (s : State) (d : Detector) (t : Option Nat) : (s.setDetector d t).softResetDue = s.softResetDue := rfl
@[simp] theorem State.setDetector_notices (s : State) (d : Detector) (t : Option Nat) : (s.setDetector d t).notices = s.notices := rfl

@[simp] theorem State.setSensing_pending (s : State) (x : Sensing) : (s.setSensing x).pending = s.pending := rfl
@[simp] theorem State.setSensing_now (s : State) (x : Sensing) : (s.setSensing x).now = s.now := rfl
@[simp] theorem State.setSensing_freeCount (s : State) (x : Sensing) : (s.setSensing x).freeCount = s.freeCount := rfl
@[simp] theorem State.setSensing_resetLine (s : State) (x : Sensing) : (s.setSensing x).resetLine = s.resetLine := rfl
@[simp] theorem State.setSensing_closures (s : State) (x : Sensing) : (s.setSensing x).closures = s.closures := rfl
@[simp] theorem State.setSensing_childs (s : State) (x : Sensing) : (s.setSensing x).childs = s.childs := rfl
@[simp] theorem State.setSensing_seq (s : State) (x : Sensing) : (s.setSensing x).seq = s.seq := rfl
@[simp] theorem State.setSensing_crash (s : State) (x : Sensing) : (s.setSensing x).crash = s.crash := rfl
@[simp] theorem State.setSensing_fobs (s : State) (x : Sensing) : (s.setSensing x).fobs = s.fobs := rfl
@[simp] theorem State.setSensing_touch (s : State) (x : Sensing) : (s.setSensing x).touch = s.touch := rfl
@[simp] theorem State.setSensing_win (s : State) (x : Sensing) : (s.setSensing x).win = s.win := rfl
@[simp] theorem State.setSensing_pinch (s : State) (x : Sensing) : (s.setSensing x).pinch = s.pinch := rfl
@[simp] theorem State.setSensing_refs (s : State) (x : Sensing) : (s.setSensing x).refs = s.refs := rfl
@[simp] theorem State.setSensing_trace (s : State) (x : Sensing) : (s.setSensing x).trace = s.trace := rfl
@[simp] theorem State.setSensing_mon (s : State) (x : Sensing) : (s.setSensing x).mon = s.mon := rfl
@[simp] theorem State.setSensing_config (s : State) (x : Sensing) : (s.setSensing x).config = s.config := rfl
@[simp] theorem State.setSensing_ports (s : State) (x : Sensing) : (s.setSensing x).ports = s.ports := rfl
@[simp] theorem State.setSensing_staging (s : State) (x : Sensing) : (s.setSensing x).staging = s.staging := rfl
@[simp] theorem State.setSensing_softResetDue (s : State) (x : Sensing) : (s.setSensing x).softResetDue = s.softResetDue := rfl
@[simp] theorem State.setSensing_notices (s : State) (x : Sensing) : (s.setSensing x).notices = s.notices := rfl

@[simp] theorem State.setStaging_pending (s : State) (x : Option Staging) : (s.setStaging x).pending = s.pending := rfl
@[simp] theorem State.setStaging_now (s : State) (x : Option Staging) : (s.setStaging x).now = s.now := rfl
@[simp] theorem State.setStaging_freeCount (s : State) (x : Option Staging) : (s.setStaging x).freeCount = s.freeCount := rfl
@[simp] theorem State.setStaging_resetLine (s : State) (x : Option Staging) : (s.setStaging x).resetLine = s.resetLine := rfl
@[simp] theorem State.setStaging_closures (s : State) (x : Option Staging) : (s.setStaging x).closures = s.closures := rfl
@[simp] theorem State.setStaging_childs (s : State) (x : Option Staging) : (s.setStaging x).childs = s.childs := rfl
@[simp] theorem State.setStaging_sensing (s : State) (x : Option Staging) : (s.setStaging x).sensing = s.sensing := rfl
@[simp] theorem State.setStaging_seq (s : State) (x : Option Staging) : (s.setStaging x).seq = s.seq := rfl
@[simp] theorem State.setStaging_crash (s : State) (x : Option Staging) : (s.setStaging x).crash = s.crash := rfl
@[simp] theorem State.setStaging_fobs (s : State) (x : Option Staging) : (s.setStaging x).fobs = s.fobs := rfl
@[simp] theorem State.setStaging_touch (s : State) (x : Option Staging) : (s.setStaging x).touch = s.touch := rfl
@[simp] theorem State.setStaging_win (s : State) (x : Option Staging) : (s.setStaging x).win = s.win := rfl
@[simp] theorem State.setStaging_pinch (s : State) (x : Option Staging) : (s.setStaging x).pinch = s.pinch := rfl
@[simp] theorem State.setStaging_refs (s : State) (x : Option Staging) : (s.setStaging x).refs = s.refs := rfl
@[simp] theorem State.setStaging_trace (s : State) (x : Option Staging) : (s.setStaging x).trace = s.trace := rfl
@[simp] theorem State.setStaging_mon (s : State) (x : Option Staging) : (s.setStaging x).mon = s.mon := rfl
@[simp] theorem State.setStaging_config (s : State) (x : Option Staging) : (s.setStaging x).config = s.config := rfl
@[simp] theorem State.setStaging_ports (s : State) (x : Option Staging) : (s.setStaging x).ports = s.ports := rfl
@[simp] theorem State.setStaging_softResetDue (s : State) (x : Option Staging) : (s.setStaging x).softResetDue = s.softResetDue := rfl
@[simp] theorem State.setStaging_notices (s : State) (x : Option Staging) : (s.setStaging x).notices = s.notices := rfl

@[simp] theorem State.setCursor_pending (s : State) (c : Option Cursor) : (s.setCursor c).pending = s.pending := rfl
@[simp] theorem State.setCursor_now (s : State) (c : Option Cursor) : (s.setCursor c).now = s.now := rfl
@[simp] theorem State.setCursor_freeCount (s : State) (c : Option Cursor) : (s.setCursor c).freeCount = s.freeCount := rfl
@[simp] theorem State.setCursor_resetLine (s : State) (c : Option Cursor) : (s.setCursor c).resetLine = s.resetLine := rfl
@[simp] theorem State.setCursor_closures (s : State) (c : Option Cursor) : (s.setCursor c).closures = s.closures := rfl
@[simp] theorem State.setCursor_childs (s : State) (c : Option Cursor) : (s.setCursor c).childs = s.childs := rfl
@[simp] theorem State.setCursor_sensing (s : State) (c : Option Cursor) : (s.setCursor c).sensing = s.sensing := rfl
@[simp] theorem State.setCursor_seq (s : State) (c : Option Cursor) : (s.setCursor c).seq = s.seq := rfl
@[simp] theorem State.setCursor_crash (s : State) (c : Option Cursor) : (s.setCursor c).crash = s.crash := rfl
@[simp] theorem State.setCursor_fobs (s : State) (c : Option Cursor) : (s.setCursor c).fobs = s.fobs := rfl
@[simp] theorem State.setCursor_touch (s : State) (c : Option Cursor) : (s.setCursor c).touch = s.touch := rfl
@[simp] theorem State.setCursor_win (s : State) (c : Option Cursor) : (s.setCursor c).win = s.win := rfl
@[simp] theorem State.setCursor_pinch (s : State) (c : Option Cursor) : (s.setCursor c).pinch = s.pinch := rfl
@[simp] theorem State.setCursor_refs (s : State) (c : Option Cursor) : (s.setCursor c).refs = s.refs := rfl
@[simp] theorem State.setCursor_mon (s : State) (c : Option Cursor) : (s.setCursor c).mon = s.mon := rfl
@[simp] theorem State.setCursor_config (s : State) (c : Option Cursor) : (s.setCursor c).config = s.config := rfl
@[simp] theorem State.setCursor_ports (s : State) (c : Option Cursor) : (s.setCursor c).ports = s.ports := rfl
@[simp] theorem State.setCursor_staging (s : State) (c : Option Cursor) : (s.setCursor c).staging = s.staging := rfl
@[simp] theorem State.setCursor_softResetDue (s : State) (c : Option Cursor) : (s.setCursor c).softResetDue = s.softResetDue := rfl
@[simp] theorem State.setCursor_notices (s : State) (c : Option Cursor) : (s.setCursor c).notices = s.notices := rfl

@[simp] theorem State.withPending_now (s : State) (l : List Instr) : (s.withPending l).now = s.now := rfl
@[simp] theorem State.withPending_freeCount (s : State) (l : List Instr) : (s.withPending l).freeCount = s.freeCount := rfl
@[simp] theorem State.withPending_resetLine (s : State) (l : List Instr) : (s.withPending l).resetLine = s.resetLine := rfl
@[simp] theorem State.withPending_closures (s : State) (l : List Instr) : (s.withPending l).closures = s.closures := rfl
@[simp] theorem State.withPending_childs (s : State) (l : List Instr) : (s.withPending l).childs = s.childs := rfl
@[simp] theorem State.withPending_sensing (s : State) (l : List Instr) : (s.withPending l).sensing = s.sensing := rfl
@[simp] theorem State.withPending_seq (s : State) (l : List Instr) : (s.withPending l).seq = s.seq := rfl
@[simp] theorem State.withPending_crash (s : State) (l : List Instr) : (s.withPending l).crash = s.crash := rfl
@[simp] theorem State.withPending_fobs (s : State) (l : List Instr) : (s.withPending l).fobs = s.fobs := rfl
@[simp] theorem State.withPending_touch (s : State) (l : List Instr) : (s.withPending l).touch = s.touch := rfl
@[simp] theorem State.withPending_win (s : State) (l : List Instr) : (s.withPending l).win = s.win := rfl
@[simp] theorem State.withPending_pinch (s : State) (l : List Instr) : (s.withPending l).pinch = s.pinch := rfl
@[simp] theorem State.withPending_refs (s : State) (l : List Instr) : (s.withPending l).refs = s.refs := rfl
@[simp] theorem State.withPending_trace (s : State) (l : List Instr) : (s.withPending l).trace = s.trace := rfl
@[simp] theorem State.withPending_mon (s : State) (l : List Instr) : (s.withPending l).mon = s.mon := rfl
@[simp] theorem State.withPending_config (s : State) (l : List Instr) : (s.withPending l).config = s.config := rfl
@[simp] theorem State.withPending_ports (s : State) (l : List Instr) : (s.withPending l).ports = s.ports := rfl
@[simp] theorem State.withPending_staging (s : State) (l : List Instr) : (s.withPending l).staging = s.staging := rfl
@[simp] theorem State.withPending_softResetDue (s : State) (l : List Instr) : (s.withPending l).softResetDue = s.softResetDue := rfl
@[simp] theorem State.withPending_notices (s : State) (l : List Instr) : (s.withPending l).notices = s.notices := rfl

@[simp] theorem State.reach_now (s : State) (t : Nat) : (s.reach t).now = max s.now t := rfl
@[simp] theorem State.setQueue_queue (s : State) (q : List Entry) : (s.setQueue q).seq.queue = q := rfl
@[simp] theorem State.setQueue_ops (s : State) (q : List Entry) : (s.setQueue q).seq.ops = s.seq.ops := rfl
@[simp] theorem State.setOp_queue (s : State) (a : Actuator) (o : Option Op) : (s.setOp a o).seq.queue = s.seq.queue := rfl
@[simp] theorem State.setOp_heatL (s : State) (a : Actuator) (o : Option Op) : (s.setOp a o).seq.heatL = s.seq.heatL := rfl
@[simp] theorem State.setOp_heatC (s : State) (a : Actuator) (o : Option Op) : (s.setOp a o).seq.heatC = s.seq.heatC := rfl
@[simp] theorem State.setOp_relock (s : State) (a : Actuator) (o : Option Op) : (s.setOp a o).seq.relock = s.seq.relock := rfl
@[simp] theorem State.setRelock_queue (s : State) (t : Option Nat) : (s.setRelock t).seq.queue = s.seq.queue := rfl
@[simp] theorem State.setRelock_ops (s : State) (t : Option Nat) : (s.setRelock t).seq.ops = s.seq.ops := rfl
@[simp] theorem State.setRelock_relock (s : State) (t : Option Nat) : (s.setRelock t).seq.relock = t := rfl
@[simp] theorem State.setRepeat_queue (s : State) (r : Option Repeat) : (s.setRepeat r).seq.queue = s.seq.queue := rfl
@[simp] theorem State.setRepeat_ops (s : State) (r : Option Repeat) : (s.setRepeat r).seq.ops = s.seq.ops := rfl
@[simp] theorem State.setWin_mode (s : State) (w : Window) (r : WindowRec) : (s.setWin w r).win.mode = s.win.mode := rfl
@[simp] theorem State.setWin_retained (s : State) (w : Window) (r : WindowRec) : (s.setWin w r).win.retained = s.win.retained := rfl
@[simp] theorem State.setWin_rearLockout (s : State) (w : Window) (r : WindowRec) : (s.setWin w r).win.rearLockout = s.win.rearLockout := rfl
@[simp] theorem State.setChan_temp (s : State) (ch : Channel) (r : ChannelRec) : (s.setChan ch r).mon.temp = s.mon.temp := rfl
@[simp] theorem State.setChan_supply (s : State) (ch : Channel) (r : ChannelRec) : (s.setChan ch r).mon.supply = s.mon.supply := rfl
@[simp] theorem State.setChan_flags (s : State) (ch : Channel) (r : ChannelRec) : (s.setChan ch r).mon.flags = s.mon.flags := rfl
@[simp] theorem State.setDetector_latch (s : State) (d : Detector) (t : Option Nat) : (s.setDetector d t).crash.latch = s.crash.latch := rfl
@[simp] theorem State.setSlot_session (s : State) (i : Fin 8) (f : FobSlot) : (s.setSlot i f).fobs.session = s.fobs.session := rfl
@[simp] theorem State.setSession_slots (s : State) (x : Option Session) : (s.setSession x).fobs.slots = s.fobs.slots := rfl
@[simp] theorem State.setSession_session (s : State) (x : Option Session) : (s.setSession x).fobs.session = x := rfl

/-! ### Tables: the entry written, and the others -/

theorem Ports.get_set {α : Type} (t : Ports α) (i j : Port) (v : α) : (t.set i v).get j = if j = i then v else t.get j := by
  cases i <;> cases j <;> rfl
@[simp] theorem Ports.get_set_self {α : Type} (t : Ports α) (i : Port) (v : α) : (t.set i v).get i = v := by
  cases i <;> rfl
theorem Ports.get_set_ne {α : Type} (t : Ports α) (i j : Port) (v : α) (h : j ≠ i) : (t.set i v).get j = t.get j := by
  simp [Ports.get_set, h]
@[simp] theorem Ports.set_set {α : Type} (t : Ports α) (i : Port) (v x : α) : (t.set i v).set i x = t.set i x := by
  cases i <;> rfl
@[simp] theorem Ports.set_get {α : Type} (t : Ports α) (i : Port) : t.set i (t.get i) = t := by
  cases i <;> rfl
@[simp] theorem Ports.get_all {α : Type} (i : Port) (v : α) : (Ports.all v).get i = v := by
  cases i <;> rfl
@[simp] theorem Ports.get_map {α β : Type} (f : α → β) (t : Ports α) (i : Port) : (t.map f).get i = f (t.get i) := by
  cases i <;> rfl
theorem Closures.get_set {α : Type} (t : Closures α) (i j : Closure) (v : α) : (t.set i v).get j = if j = i then v else t.get j := by
  cases i <;> cases j <;> rfl
@[simp] theorem Closures.get_set_self {α : Type} (t : Closures α) (i : Closure) (v : α) : (t.set i v).get i = v := by
  cases i <;> rfl
theorem Closures.get_set_ne {α : Type} (t : Closures α) (i j : Closure) (v : α) (h : j ≠ i) : (t.set i v).get j = t.get j := by
  simp [Closures.get_set, h]
@[simp] theorem Closures.set_set {α : Type} (t : Closures α) (i : Closure) (v x : α) : (t.set i v).set i x = t.set i x := by
  cases i <;> rfl
@[simp] theorem Closures.set_get {α : Type} (t : Closures α) (i : Closure) : t.set i (t.get i) = t := by
  cases i <;> rfl
@[simp] theorem Closures.get_all {α : Type} (i : Closure) (v : α) : (Closures.all v).get i = v := by
  cases i <;> rfl
@[simp] theorem Closures.get_map {α β : Type} (f : α → β) (t : Closures α) (i : Closure) : (t.map f).get i = f (t.get i) := by
  cases i <;> rfl
theorem Sides.get_set {α : Type} (t : Sides α) (i j : Side) (v : α) : (t.set i v).get j = if j = i then v else t.get j := by
  cases i <;> cases j <;> rfl
@[simp] theorem Sides.get_set_self {α : Type} (t : Sides α) (i : Side) (v : α) : (t.set i v).get i = v := by
  cases i <;> rfl
theorem Sides.get_set_ne {α : Type} (t : Sides α) (i j : Side) (v : α) (h : j ≠ i) : (t.set i v).get j = t.get j := by
  simp [Sides.get_set, h]
@[simp] theorem Sides.set_set {α : Type} (t : Sides α) (i : Side) (v x : α) : (t.set i v).set i x = t.set i x := by
  cases i <;> rfl
@[simp] theorem Sides.set_get {α : Type} (t : Sides α) (i : Side) : t.set i (t.get i) = t := by
  cases i <;> rfl
@[simp] theorem Sides.get_all {α : Type} (i : Side) (v : α) : (Sides.all v).get i = v := by
  cases i <;> rfl
@[simp] theorem Sides.get_map {α β : Type} (f : α → β) (t : Sides α) (i : Side) : (t.map f).get i = f (t.get i) := by
  cases i <;> rfl
theorem Rears.get_set {α : Type} (t : Rears α) (i j : Rear) (v : α) : (t.set i v).get j = if j = i then v else t.get j := by
  cases i <;> cases j <;> rfl
@[simp] theorem Rears.get_set_self {α : Type} (t : Rears α) (i : Rear) (v : α) : (t.set i v).get i = v := by
  cases i <;> rfl
theorem Rears.get_set_ne {α : Type} (t : Rears α) (i j : Rear) (v : α) (h : j ≠ i) : (t.set i v).get j = t.get j := by
  simp [Rears.get_set, h]
@[simp] theorem Rears.set_set {α : Type} (t : Rears α) (i : Rear) (v x : α) : (t.set i v).set i x = t.set i x := by
  cases i <;> rfl
@[simp] theorem Rears.set_get {α : Type} (t : Rears α) (i : Rear) : t.set i (t.get i) = t := by
  cases i <;> rfl
@[simp] theorem Rears.get_all {α : Type} (i : Rear) (v : α) : (Rears.all v).get i = v := by
  cases i <;> rfl
@[simp] theorem Rears.get_map {α β : Type} (f : α → β) (t : Rears α) (i : Rear) : (t.map f).get i = f (t.get i) := by
  cases i <;> rfl
theorem Windows.get_set {α : Type} (t : Windows α) (i j : Window) (v : α) : (t.set i v).get j = if j = i then v else t.get j := by
  cases i <;> cases j <;> rfl
@[simp] theorem Windows.get_set_self {α : Type} (t : Windows α) (i : Window) (v : α) : (t.set i v).get i = v := by
  cases i <;> rfl
theorem Windows.get_set_ne {α : Type} (t : Windows α) (i j : Window) (v : α) (h : j ≠ i) : (t.set i v).get j = t.get j := by
  simp [Windows.get_set, h]
@[simp] theorem Windows.set_set {α : Type} (t : Windows α) (i : Window) (v x : α) : (t.set i v).set i x = t.set i x := by
  cases i <;> rfl
@[simp] theorem Windows.set_get {α : Type} (t : Windows α) (i : Window) : t.set i (t.get i) = t := by
  cases i <;> rfl
@[simp] theorem Windows.get_all {α : Type} (i : Window) (v : α) : (Windows.all v).get i = v := by
  cases i <;> rfl
@[simp] theorem Windows.get_map {α β : Type} (f : α → β) (t : Windows α) (i : Window) : (t.map f).get i = f (t.get i) := by
  cases i <;> rfl
theorem Switches.get_set {α : Type} (t : Switches α) (i j : OtherSide) (v : α) : (t.set i v).get j = if j = i then v else t.get j := by
  cases i <;> cases j <;> rfl
@[simp] theorem Switches.get_set_self {α : Type} (t : Switches α) (i : OtherSide) (v : α) : (t.set i v).get i = v := by
  cases i <;> rfl
theorem Switches.get_set_ne {α : Type} (t : Switches α) (i j : OtherSide) (v : α) (h : j ≠ i) : (t.set i v).get j = t.get j := by
  simp [Switches.get_set, h]
@[simp] theorem Switches.set_set {α : Type} (t : Switches α) (i : OtherSide) (v x : α) : (t.set i v).set i x = t.set i x := by
  cases i <;> rfl
@[simp] theorem Switches.set_get {α : Type} (t : Switches α) (i : OtherSide) : t.set i (t.get i) = t := by
  cases i <;> rfl
@[simp] theorem Switches.get_all {α : Type} (i : OtherSide) (v : α) : (Switches.all v).get i = v := by
  cases i <;> rfl
@[simp] theorem Switches.get_map {α β : Type} (f : α → β) (t : Switches α) (i : OtherSide) : (t.map f).get i = f (t.get i) := by
  cases i <;> rfl
theorem Touches.get_set {α : Type} (t : Touches α) (i j : TouchSource) (v : α) : (t.set i v).get j = if j = i then v else t.get j := by
  cases i <;> cases j <;> rfl
@[simp] theorem Touches.get_set_self {α : Type} (t : Touches α) (i : TouchSource) (v : α) : (t.set i v).get i = v := by
  cases i <;> rfl
theorem Touches.get_set_ne {α : Type} (t : Touches α) (i j : TouchSource) (v : α) (h : j ≠ i) : (t.set i v).get j = t.get j := by
  simp [Touches.get_set, h]
@[simp] theorem Touches.set_set {α : Type} (t : Touches α) (i : TouchSource) (v x : α) : (t.set i v).set i x = t.set i x := by
  cases i <;> rfl
@[simp] theorem Touches.set_get {α : Type} (t : Touches α) (i : TouchSource) : t.set i (t.get i) = t := by
  cases i <;> rfl
@[simp] theorem Touches.get_all {α : Type} (i : TouchSource) (v : α) : (Touches.all v).get i = v := by
  cases i <;> rfl
@[simp] theorem Touches.get_map {α β : Type} (f : α → β) (t : Touches α) (i : TouchSource) : (t.map f).get i = f (t.get i) := by
  cases i <;> rfl
theorem Actuators.get_set {α : Type} (t : Actuators α) (i j : Actuator) (v : α) : (t.set i v).get j = if j = i then v else t.get j := by
  cases i <;> cases j <;> simp [Actuators.get, Actuators.set, Closures.get_set, Rears.get_set]
@[simp] theorem Actuators.get_set_self {α : Type} (t : Actuators α) (i : Actuator) (v : α) : (t.set i v).get i = v := by
  simp [Actuators.get_set]
theorem Actuators.get_set_ne {α : Type} (t : Actuators α) (i j : Actuator) (v : α) (h : j ≠ i) : (t.set i v).get j = t.get j := by
  simp [Actuators.get_set, h]
@[simp] theorem Actuators.get_all {α : Type} (i : Actuator) (v : α) : (Actuators.all v).get i = v := by
  cases i <;> simp [Actuators.get, Actuators.all]
theorem Channels.get_set {α : Type} (t : Channels α) (i j : Channel) (v : α) : (t.set i v).get j = if j = i then v else t.get j := by
  cases i <;> cases j <;> simp [Channels.get, Channels.set, Windows.get_set, Actuators.get_set]
@[simp] theorem Channels.get_set_self {α : Type} (t : Channels α) (i : Channel) (v : α) : (t.set i v).get i = v := by
  simp [Channels.get_set]
theorem Channels.get_set_ne {α : Type} (t : Channels α) (i j : Channel) (v : α) (h : j ≠ i) : (t.set i v).get j = t.get j := by
  simp [Channels.get_set, h]
@[simp] theorem Channels.get_all {α : Type} (i : Channel) (v : α) : (Channels.all v).get i = v := by
  cases i <;> simp [Channels.get, Channels.all]

/-! ### Reads under the writes -/

@[simp] theorem State.reach_closure (s : State) (t : Nat) (c' : Closure) : (s.reach t).closure c' = s.closure c' := rfl
@[simp] theorem State.setChild_closure (s : State) (r : Rear) (v : ChildRec) (c' : Closure) : (s.setChild r v).closure c' = s.closure c' := rfl
@[simp] theorem State.setQueue_closure (s : State) (q : List Entry) (c' : Closure) : (s.setQueue q).closure c' = s.closure c' := rfl
@[simp] theorem State.setOp_closure (s : State) (a : Actuator) (o : Option Op) (c' : Closure) : (s.setOp a o).closure c' = s.closure c' := rfl
@[simp] theorem State.setRelock_closure (s : State) (t : Option Nat) (c' : Closure) : (s.setRelock t).closure c' = s.closure c' := rfl
@[simp] theorem State.setRepeat_closure (s : State) (r : Option Repeat) (c' : Closure) : (s.setRepeat r).closure c' = s.closure c' := rfl
@[simp] theorem State.setSlot_closure (s : State) (i : Fin 8) (f : FobSlot) (c' : Closure) : (s.setSlot i f).closure c' = s.closure c' := rfl
@[simp] theorem State.setSession_closure (s : State) (x : Option Session) (c' : Closure) : (s.setSession x).closure c' = s.closure c' := rfl
@[simp] theorem State.setTouch_closure (s : State) (t : TouchSource) (e : TouchEntry) (c' : Closure) : (s.setTouch t e).closure c' = s.closure c' := rfl
@[simp] theorem State.setWin_closure (s : State) (w : Window) (r : WindowRec) (c' : Closure) : (s.setWin w r).closure c' = s.closure c' := rfl
@[simp] theorem State.setPinch_closure (s : State) (w : Window) (p : PinchState) (c' : Closure) : (s.setPinch w p).closure c' = s.closure c' := rfl
@[simp] theorem State.setRefs_closure (s : State) (w : Window) (r : RefState) (c' : Closure) : (s.setRefs w r).closure c' = s.closure c' := rfl
@[simp] theorem State.setChan_closure (s : State) (ch : Channel) (r : ChannelRec) (c' : Closure) : (s.setChan ch r).closure c' = s.closure c' := rfl
@[simp] theorem State.setRing_closure (s : State) (w : Window) (l : List Sample) (c' : Closure) : (s.setRing w l).closure c' = s.closure c' := rfl
@[simp] theorem State.setBuffer_closure (s : State) (i : Fin 8) (b : Buffer) (c' : Closure) : (s.setBuffer i b).closure c' = s.closure c' := rfl
@[simp] theorem State.setPort_closure (s : State) (p : Port) (e : PortEngine) (c' : Closure) : (s.setPort p e).closure c' = s.closure c' := rfl
@[simp] theorem State.setNotices_closure (s : State) (p : Port) (n : NoticeSet) (c' : Closure) : (s.setNotices p n).closure c' = s.closure c' := rfl
@[simp] theorem State.onAll_closure (s : State) (f : NoticeSet → NoticeSet) (c' : Closure) : (s.onAll f).closure c' = s.closure c' := rfl
@[simp] theorem State.onBD_closure (s : State) (f : NoticeSet → NoticeSet) (c' : Closure) : (s.onBD f).closure c' = s.closure c' := rfl
@[simp] theorem State.onPort_closure (s : State) (p : Port) (f : NoticeSet → NoticeSet) (c' : Closure) : (s.onPort p f).closure c' = s.closure c' := rfl
@[simp] theorem State.setFlags_closure (s : State) (f : StickyFlags → StickyFlags) (c' : Closure) : (s.setFlags f).closure c' = s.closure c' := rfl
@[simp] theorem State.setDetector_closure (s : State) (d : Detector) (t : Option Nat) (c' : Closure) : (s.setDetector d t).closure c' = s.closure c' := rfl
@[simp] theorem State.setSensing_closure (s : State) (x : Sensing) (c' : Closure) : (s.setSensing x).closure c' = s.closure c' := rfl
@[simp] theorem State.setStaging_closure (s : State) (x : Option Staging) (c' : Closure) : (s.setStaging x).closure c' = s.closure c' := rfl
@[simp] theorem State.setCursor_closure (s : State) (c : Option Cursor) (c' : Closure) : (s.setCursor c).closure c' = s.closure c' := rfl
@[simp] theorem State.withPending_closure (s : State) (l : List Instr) (c' : Closure) : (s.withPending l).closure c' = s.closure c' := rfl
@[simp] theorem State.reach_childOf (s : State) (t : Nat) (r' : Rear) : (s.reach t).childOf r' = s.childOf r' := rfl
@[simp] theorem State.setClosure_childOf (s : State) (c : Closure) (r : ClosureRec) (r' : Rear) : (s.setClosure c r).childOf r' = s.childOf r' := rfl
@[simp] theorem State.setQueue_childOf (s : State) (q : List Entry) (r' : Rear) : (s.setQueue q).childOf r' = s.childOf r' := rfl
@[simp] theorem State.setOp_childOf (s : State) (a : Actuator) (o : Option Op) (r' : Rear) : (s.setOp a o).childOf r' = s.childOf r' := rfl
@[simp] theorem State.setRelock_childOf (s : State) (t : Option Nat) (r' : Rear) : (s.setRelock t).childOf r' = s.childOf r' := rfl
@[simp] theorem State.setRepeat_childOf (s : State) (r : Option Repeat) (r' : Rear) : (s.setRepeat r).childOf r' = s.childOf r' := rfl
@[simp] theorem State.setSlot_childOf (s : State) (i : Fin 8) (f : FobSlot) (r' : Rear) : (s.setSlot i f).childOf r' = s.childOf r' := rfl
@[simp] theorem State.setSession_childOf (s : State) (x : Option Session) (r' : Rear) : (s.setSession x).childOf r' = s.childOf r' := rfl
@[simp] theorem State.setTouch_childOf (s : State) (t : TouchSource) (e : TouchEntry) (r' : Rear) : (s.setTouch t e).childOf r' = s.childOf r' := rfl
@[simp] theorem State.setWin_childOf (s : State) (w : Window) (r : WindowRec) (r' : Rear) : (s.setWin w r).childOf r' = s.childOf r' := rfl
@[simp] theorem State.setPinch_childOf (s : State) (w : Window) (p : PinchState) (r' : Rear) : (s.setPinch w p).childOf r' = s.childOf r' := rfl
@[simp] theorem State.setRefs_childOf (s : State) (w : Window) (r : RefState) (r' : Rear) : (s.setRefs w r).childOf r' = s.childOf r' := rfl
@[simp] theorem State.setChan_childOf (s : State) (ch : Channel) (r : ChannelRec) (r' : Rear) : (s.setChan ch r).childOf r' = s.childOf r' := rfl
@[simp] theorem State.setRing_childOf (s : State) (w : Window) (l : List Sample) (r' : Rear) : (s.setRing w l).childOf r' = s.childOf r' := rfl
@[simp] theorem State.setBuffer_childOf (s : State) (i : Fin 8) (b : Buffer) (r' : Rear) : (s.setBuffer i b).childOf r' = s.childOf r' := rfl
@[simp] theorem State.setPort_childOf (s : State) (p : Port) (e : PortEngine) (r' : Rear) : (s.setPort p e).childOf r' = s.childOf r' := rfl
@[simp] theorem State.setNotices_childOf (s : State) (p : Port) (n : NoticeSet) (r' : Rear) : (s.setNotices p n).childOf r' = s.childOf r' := rfl
@[simp] theorem State.onAll_childOf (s : State) (f : NoticeSet → NoticeSet) (r' : Rear) : (s.onAll f).childOf r' = s.childOf r' := rfl
@[simp] theorem State.onBD_childOf (s : State) (f : NoticeSet → NoticeSet) (r' : Rear) : (s.onBD f).childOf r' = s.childOf r' := rfl
@[simp] theorem State.onPort_childOf (s : State) (p : Port) (f : NoticeSet → NoticeSet) (r' : Rear) : (s.onPort p f).childOf r' = s.childOf r' := rfl
@[simp] theorem State.setFlags_childOf (s : State) (f : StickyFlags → StickyFlags) (r' : Rear) : (s.setFlags f).childOf r' = s.childOf r' := rfl
@[simp] theorem State.setDetector_childOf (s : State) (d : Detector) (t : Option Nat) (r' : Rear) : (s.setDetector d t).childOf r' = s.childOf r' := rfl
@[simp] theorem State.setSensing_childOf (s : State) (x : Sensing) (r' : Rear) : (s.setSensing x).childOf r' = s.childOf r' := rfl
@[simp] theorem State.setStaging_childOf (s : State) (x : Option Staging) (r' : Rear) : (s.setStaging x).childOf r' = s.childOf r' := rfl
@[simp] theorem State.setCursor_childOf (s : State) (c : Option Cursor) (r' : Rear) : (s.setCursor c).childOf r' = s.childOf r' := rfl
@[simp] theorem State.withPending_childOf (s : State) (l : List Instr) (r' : Rear) : (s.withPending l).childOf r' = s.childOf r' := rfl
@[simp] theorem State.reach_opAt (s : State) (t : Nat) (a' : Actuator) : (s.reach t).opAt a' = s.opAt a' := rfl
@[simp] theorem State.setClosure_opAt (s : State) (c : Closure) (r : ClosureRec) (a' : Actuator) : (s.setClosure c r).opAt a' = s.opAt a' := rfl
@[simp] theorem State.setChild_opAt (s : State) (r : Rear) (v : ChildRec) (a' : Actuator) : (s.setChild r v).opAt a' = s.opAt a' := rfl
@[simp] theorem State.setQueue_opAt (s : State) (q : List Entry) (a' : Actuator) : (s.setQueue q).opAt a' = s.opAt a' := rfl
@[simp] theorem State.setRelock_opAt (s : State) (t : Option Nat) (a' : Actuator) : (s.setRelock t).opAt a' = s.opAt a' := rfl
@[simp] theorem State.setRepeat_opAt (s : State) (r : Option Repeat) (a' : Actuator) : (s.setRepeat r).opAt a' = s.opAt a' := rfl
@[simp] theorem State.setSlot_opAt (s : State) (i : Fin 8) (f : FobSlot) (a' : Actuator) : (s.setSlot i f).opAt a' = s.opAt a' := rfl
@[simp] theorem State.setSession_opAt (s : State) (x : Option Session) (a' : Actuator) : (s.setSession x).opAt a' = s.opAt a' := rfl
@[simp] theorem State.setTouch_opAt (s : State) (t : TouchSource) (e : TouchEntry) (a' : Actuator) : (s.setTouch t e).opAt a' = s.opAt a' := rfl
@[simp] theorem State.setWin_opAt (s : State) (w : Window) (r : WindowRec) (a' : Actuator) : (s.setWin w r).opAt a' = s.opAt a' := rfl
@[simp] theorem State.setPinch_opAt (s : State) (w : Window) (p : PinchState) (a' : Actuator) : (s.setPinch w p).opAt a' = s.opAt a' := rfl
@[simp] theorem State.setRefs_opAt (s : State) (w : Window) (r : RefState) (a' : Actuator) : (s.setRefs w r).opAt a' = s.opAt a' := rfl
@[simp] theorem State.setChan_opAt (s : State) (ch : Channel) (r : ChannelRec) (a' : Actuator) : (s.setChan ch r).opAt a' = s.opAt a' := rfl
@[simp] theorem State.setRing_opAt (s : State) (w : Window) (l : List Sample) (a' : Actuator) : (s.setRing w l).opAt a' = s.opAt a' := rfl
@[simp] theorem State.setBuffer_opAt (s : State) (i : Fin 8) (b : Buffer) (a' : Actuator) : (s.setBuffer i b).opAt a' = s.opAt a' := rfl
@[simp] theorem State.setPort_opAt (s : State) (p : Port) (e : PortEngine) (a' : Actuator) : (s.setPort p e).opAt a' = s.opAt a' := rfl
@[simp] theorem State.setNotices_opAt (s : State) (p : Port) (n : NoticeSet) (a' : Actuator) : (s.setNotices p n).opAt a' = s.opAt a' := rfl
@[simp] theorem State.onAll_opAt (s : State) (f : NoticeSet → NoticeSet) (a' : Actuator) : (s.onAll f).opAt a' = s.opAt a' := rfl
@[simp] theorem State.onBD_opAt (s : State) (f : NoticeSet → NoticeSet) (a' : Actuator) : (s.onBD f).opAt a' = s.opAt a' := rfl
@[simp] theorem State.onPort_opAt (s : State) (p : Port) (f : NoticeSet → NoticeSet) (a' : Actuator) : (s.onPort p f).opAt a' = s.opAt a' := rfl
@[simp] theorem State.setFlags_opAt (s : State) (f : StickyFlags → StickyFlags) (a' : Actuator) : (s.setFlags f).opAt a' = s.opAt a' := rfl
@[simp] theorem State.setDetector_opAt (s : State) (d : Detector) (t : Option Nat) (a' : Actuator) : (s.setDetector d t).opAt a' = s.opAt a' := rfl
@[simp] theorem State.setSensing_opAt (s : State) (x : Sensing) (a' : Actuator) : (s.setSensing x).opAt a' = s.opAt a' := rfl
@[simp] theorem State.setStaging_opAt (s : State) (x : Option Staging) (a' : Actuator) : (s.setStaging x).opAt a' = s.opAt a' := rfl
@[simp] theorem State.setCursor_opAt (s : State) (c : Option Cursor) (a' : Actuator) : (s.setCursor c).opAt a' = s.opAt a' := rfl
@[simp] theorem State.withPending_opAt (s : State) (l : List Instr) (a' : Actuator) : (s.withPending l).opAt a' = s.opAt a' := rfl
@[simp] theorem State.reach_winRec (s : State) (t : Nat) (w' : Window) : (s.reach t).winRec w' = s.winRec w' := rfl
@[simp] theorem State.setClosure_winRec (s : State) (c : Closure) (r : ClosureRec) (w' : Window) : (s.setClosure c r).winRec w' = s.winRec w' := rfl
@[simp] theorem State.setChild_winRec (s : State) (r : Rear) (v : ChildRec) (w' : Window) : (s.setChild r v).winRec w' = s.winRec w' := rfl
@[simp] theorem State.setQueue_winRec (s : State) (q : List Entry) (w' : Window) : (s.setQueue q).winRec w' = s.winRec w' := rfl
@[simp] theorem State.setOp_winRec (s : State) (a : Actuator) (o : Option Op) (w' : Window) : (s.setOp a o).winRec w' = s.winRec w' := rfl
@[simp] theorem State.setRelock_winRec (s : State) (t : Option Nat) (w' : Window) : (s.setRelock t).winRec w' = s.winRec w' := rfl
@[simp] theorem State.setRepeat_winRec (s : State) (r : Option Repeat) (w' : Window) : (s.setRepeat r).winRec w' = s.winRec w' := rfl
@[simp] theorem State.setSlot_winRec (s : State) (i : Fin 8) (f : FobSlot) (w' : Window) : (s.setSlot i f).winRec w' = s.winRec w' := rfl
@[simp] theorem State.setSession_winRec (s : State) (x : Option Session) (w' : Window) : (s.setSession x).winRec w' = s.winRec w' := rfl
@[simp] theorem State.setTouch_winRec (s : State) (t : TouchSource) (e : TouchEntry) (w' : Window) : (s.setTouch t e).winRec w' = s.winRec w' := rfl
@[simp] theorem State.setPinch_winRec (s : State) (w : Window) (p : PinchState) (w' : Window) : (s.setPinch w p).winRec w' = s.winRec w' := rfl
@[simp] theorem State.setRefs_winRec (s : State) (w : Window) (r : RefState) (w' : Window) : (s.setRefs w r).winRec w' = s.winRec w' := rfl
@[simp] theorem State.setChan_winRec (s : State) (ch : Channel) (r : ChannelRec) (w' : Window) : (s.setChan ch r).winRec w' = s.winRec w' := rfl
@[simp] theorem State.setRing_winRec (s : State) (w : Window) (l : List Sample) (w' : Window) : (s.setRing w l).winRec w' = s.winRec w' := rfl
@[simp] theorem State.setBuffer_winRec (s : State) (i : Fin 8) (b : Buffer) (w' : Window) : (s.setBuffer i b).winRec w' = s.winRec w' := rfl
@[simp] theorem State.setPort_winRec (s : State) (p : Port) (e : PortEngine) (w' : Window) : (s.setPort p e).winRec w' = s.winRec w' := rfl
@[simp] theorem State.setNotices_winRec (s : State) (p : Port) (n : NoticeSet) (w' : Window) : (s.setNotices p n).winRec w' = s.winRec w' := rfl
@[simp] theorem State.onAll_winRec (s : State) (f : NoticeSet → NoticeSet) (w' : Window) : (s.onAll f).winRec w' = s.winRec w' := rfl
@[simp] theorem State.onBD_winRec (s : State) (f : NoticeSet → NoticeSet) (w' : Window) : (s.onBD f).winRec w' = s.winRec w' := rfl
@[simp] theorem State.onPort_winRec (s : State) (p : Port) (f : NoticeSet → NoticeSet) (w' : Window) : (s.onPort p f).winRec w' = s.winRec w' := rfl
@[simp] theorem State.setFlags_winRec (s : State) (f : StickyFlags → StickyFlags) (w' : Window) : (s.setFlags f).winRec w' = s.winRec w' := rfl
@[simp] theorem State.setDetector_winRec (s : State) (d : Detector) (t : Option Nat) (w' : Window) : (s.setDetector d t).winRec w' = s.winRec w' := rfl
@[simp] theorem State.setSensing_winRec (s : State) (x : Sensing) (w' : Window) : (s.setSensing x).winRec w' = s.winRec w' := rfl
@[simp] theorem State.setStaging_winRec (s : State) (x : Option Staging) (w' : Window) : (s.setStaging x).winRec w' = s.winRec w' := rfl
@[simp] theorem State.setCursor_winRec (s : State) (c : Option Cursor) (w' : Window) : (s.setCursor c).winRec w' = s.winRec w' := rfl
@[simp] theorem State.withPending_winRec (s : State) (l : List Instr) (w' : Window) : (s.withPending l).winRec w' = s.winRec w' := rfl
@[simp] theorem State.reach_pinchOf (s : State) (t : Nat) (w' : Window) : (s.reach t).pinchOf w' = s.pinchOf w' := rfl
@[simp] theorem State.setClosure_pinchOf (s : State) (c : Closure) (r : ClosureRec) (w' : Window) : (s.setClosure c r).pinchOf w' = s.pinchOf w' := rfl
@[simp] theorem State.setChild_pinchOf (s : State) (r : Rear) (v : ChildRec) (w' : Window) : (s.setChild r v).pinchOf w' = s.pinchOf w' := rfl
@[simp] theorem State.setQueue_pinchOf (s : State) (q : List Entry) (w' : Window) : (s.setQueue q).pinchOf w' = s.pinchOf w' := rfl
@[simp] theorem State.setOp_pinchOf (s : State) (a : Actuator) (o : Option Op) (w' : Window) : (s.setOp a o).pinchOf w' = s.pinchOf w' := rfl
@[simp] theorem State.setRelock_pinchOf (s : State) (t : Option Nat) (w' : Window) : (s.setRelock t).pinchOf w' = s.pinchOf w' := rfl
@[simp] theorem State.setRepeat_pinchOf (s : State) (r : Option Repeat) (w' : Window) : (s.setRepeat r).pinchOf w' = s.pinchOf w' := rfl
@[simp] theorem State.setSlot_pinchOf (s : State) (i : Fin 8) (f : FobSlot) (w' : Window) : (s.setSlot i f).pinchOf w' = s.pinchOf w' := rfl
@[simp] theorem State.setSession_pinchOf (s : State) (x : Option Session) (w' : Window) : (s.setSession x).pinchOf w' = s.pinchOf w' := rfl
@[simp] theorem State.setTouch_pinchOf (s : State) (t : TouchSource) (e : TouchEntry) (w' : Window) : (s.setTouch t e).pinchOf w' = s.pinchOf w' := rfl
@[simp] theorem State.setWin_pinchOf (s : State) (w : Window) (r : WindowRec) (w' : Window) : (s.setWin w r).pinchOf w' = s.pinchOf w' := rfl
@[simp] theorem State.setRefs_pinchOf (s : State) (w : Window) (r : RefState) (w' : Window) : (s.setRefs w r).pinchOf w' = s.pinchOf w' := rfl
@[simp] theorem State.setChan_pinchOf (s : State) (ch : Channel) (r : ChannelRec) (w' : Window) : (s.setChan ch r).pinchOf w' = s.pinchOf w' := rfl
@[simp] theorem State.setRing_pinchOf (s : State) (w : Window) (l : List Sample) (w' : Window) : (s.setRing w l).pinchOf w' = s.pinchOf w' := rfl
@[simp] theorem State.setBuffer_pinchOf (s : State) (i : Fin 8) (b : Buffer) (w' : Window) : (s.setBuffer i b).pinchOf w' = s.pinchOf w' := rfl
@[simp] theorem State.setPort_pinchOf (s : State) (p : Port) (e : PortEngine) (w' : Window) : (s.setPort p e).pinchOf w' = s.pinchOf w' := rfl
@[simp] theorem State.setNotices_pinchOf (s : State) (p : Port) (n : NoticeSet) (w' : Window) : (s.setNotices p n).pinchOf w' = s.pinchOf w' := rfl
@[simp] theorem State.onAll_pinchOf (s : State) (f : NoticeSet → NoticeSet) (w' : Window) : (s.onAll f).pinchOf w' = s.pinchOf w' := rfl
@[simp] theorem State.onBD_pinchOf (s : State) (f : NoticeSet → NoticeSet) (w' : Window) : (s.onBD f).pinchOf w' = s.pinchOf w' := rfl
@[simp] theorem State.onPort_pinchOf (s : State) (p : Port) (f : NoticeSet → NoticeSet) (w' : Window) : (s.onPort p f).pinchOf w' = s.pinchOf w' := rfl
@[simp] theorem State.setFlags_pinchOf (s : State) (f : StickyFlags → StickyFlags) (w' : Window) : (s.setFlags f).pinchOf w' = s.pinchOf w' := rfl
@[simp] theorem State.setDetector_pinchOf (s : State) (d : Detector) (t : Option Nat) (w' : Window) : (s.setDetector d t).pinchOf w' = s.pinchOf w' := rfl
@[simp] theorem State.setSensing_pinchOf (s : State) (x : Sensing) (w' : Window) : (s.setSensing x).pinchOf w' = s.pinchOf w' := rfl
@[simp] theorem State.setStaging_pinchOf (s : State) (x : Option Staging) (w' : Window) : (s.setStaging x).pinchOf w' = s.pinchOf w' := rfl
@[simp] theorem State.setCursor_pinchOf (s : State) (c : Option Cursor) (w' : Window) : (s.setCursor c).pinchOf w' = s.pinchOf w' := rfl
@[simp] theorem State.withPending_pinchOf (s : State) (l : List Instr) (w' : Window) : (s.withPending l).pinchOf w' = s.pinchOf w' := rfl
@[simp] theorem State.reach_refsOf (s : State) (t : Nat) (w' : Window) : (s.reach t).refsOf w' = s.refsOf w' := rfl
@[simp] theorem State.setClosure_refsOf (s : State) (c : Closure) (r : ClosureRec) (w' : Window) : (s.setClosure c r).refsOf w' = s.refsOf w' := rfl
@[simp] theorem State.setChild_refsOf (s : State) (r : Rear) (v : ChildRec) (w' : Window) : (s.setChild r v).refsOf w' = s.refsOf w' := rfl
@[simp] theorem State.setQueue_refsOf (s : State) (q : List Entry) (w' : Window) : (s.setQueue q).refsOf w' = s.refsOf w' := rfl
@[simp] theorem State.setOp_refsOf (s : State) (a : Actuator) (o : Option Op) (w' : Window) : (s.setOp a o).refsOf w' = s.refsOf w' := rfl
@[simp] theorem State.setRelock_refsOf (s : State) (t : Option Nat) (w' : Window) : (s.setRelock t).refsOf w' = s.refsOf w' := rfl
@[simp] theorem State.setRepeat_refsOf (s : State) (r : Option Repeat) (w' : Window) : (s.setRepeat r).refsOf w' = s.refsOf w' := rfl
@[simp] theorem State.setSlot_refsOf (s : State) (i : Fin 8) (f : FobSlot) (w' : Window) : (s.setSlot i f).refsOf w' = s.refsOf w' := rfl
@[simp] theorem State.setSession_refsOf (s : State) (x : Option Session) (w' : Window) : (s.setSession x).refsOf w' = s.refsOf w' := rfl
@[simp] theorem State.setTouch_refsOf (s : State) (t : TouchSource) (e : TouchEntry) (w' : Window) : (s.setTouch t e).refsOf w' = s.refsOf w' := rfl
@[simp] theorem State.setWin_refsOf (s : State) (w : Window) (r : WindowRec) (w' : Window) : (s.setWin w r).refsOf w' = s.refsOf w' := rfl
@[simp] theorem State.setPinch_refsOf (s : State) (w : Window) (p : PinchState) (w' : Window) : (s.setPinch w p).refsOf w' = s.refsOf w' := rfl
@[simp] theorem State.setChan_refsOf (s : State) (ch : Channel) (r : ChannelRec) (w' : Window) : (s.setChan ch r).refsOf w' = s.refsOf w' := rfl
@[simp] theorem State.setRing_refsOf (s : State) (w : Window) (l : List Sample) (w' : Window) : (s.setRing w l).refsOf w' = s.refsOf w' := rfl
@[simp] theorem State.setBuffer_refsOf (s : State) (i : Fin 8) (b : Buffer) (w' : Window) : (s.setBuffer i b).refsOf w' = s.refsOf w' := rfl
@[simp] theorem State.setPort_refsOf (s : State) (p : Port) (e : PortEngine) (w' : Window) : (s.setPort p e).refsOf w' = s.refsOf w' := rfl
@[simp] theorem State.setNotices_refsOf (s : State) (p : Port) (n : NoticeSet) (w' : Window) : (s.setNotices p n).refsOf w' = s.refsOf w' := rfl
@[simp] theorem State.onAll_refsOf (s : State) (f : NoticeSet → NoticeSet) (w' : Window) : (s.onAll f).refsOf w' = s.refsOf w' := rfl
@[simp] theorem State.onBD_refsOf (s : State) (f : NoticeSet → NoticeSet) (w' : Window) : (s.onBD f).refsOf w' = s.refsOf w' := rfl
@[simp] theorem State.onPort_refsOf (s : State) (p : Port) (f : NoticeSet → NoticeSet) (w' : Window) : (s.onPort p f).refsOf w' = s.refsOf w' := rfl
@[simp] theorem State.setFlags_refsOf (s : State) (f : StickyFlags → StickyFlags) (w' : Window) : (s.setFlags f).refsOf w' = s.refsOf w' := rfl
@[simp] theorem State.setDetector_refsOf (s : State) (d : Detector) (t : Option Nat) (w' : Window) : (s.setDetector d t).refsOf w' = s.refsOf w' := rfl
@[simp] theorem State.setSensing_refsOf (s : State) (x : Sensing) (w' : Window) : (s.setSensing x).refsOf w' = s.refsOf w' := rfl
@[simp] theorem State.setStaging_refsOf (s : State) (x : Option Staging) (w' : Window) : (s.setStaging x).refsOf w' = s.refsOf w' := rfl
@[simp] theorem State.setCursor_refsOf (s : State) (c : Option Cursor) (w' : Window) : (s.setCursor c).refsOf w' = s.refsOf w' := rfl
@[simp] theorem State.withPending_refsOf (s : State) (l : List Instr) (w' : Window) : (s.withPending l).refsOf w' = s.refsOf w' := rfl
@[simp] theorem State.reach_chan (s : State) (t : Nat) (ch' : Channel) : (s.reach t).chan ch' = s.chan ch' := rfl
@[simp] theorem State.setClosure_chan (s : State) (c : Closure) (r : ClosureRec) (ch' : Channel) : (s.setClosure c r).chan ch' = s.chan ch' := rfl
@[simp] theorem State.setChild_chan (s : State) (r : Rear) (v : ChildRec) (ch' : Channel) : (s.setChild r v).chan ch' = s.chan ch' := rfl
@[simp] theorem State.setQueue_chan (s : State) (q : List Entry) (ch' : Channel) : (s.setQueue q).chan ch' = s.chan ch' := rfl
@[simp] theorem State.setOp_chan (s : State) (a : Actuator) (o : Option Op) (ch' : Channel) : (s.setOp a o).chan ch' = s.chan ch' := rfl
@[simp] theorem State.setRelock_chan (s : State) (t : Option Nat) (ch' : Channel) : (s.setRelock t).chan ch' = s.chan ch' := rfl
@[simp] theorem State.setRepeat_chan (s : State) (r : Option Repeat) (ch' : Channel) : (s.setRepeat r).chan ch' = s.chan ch' := rfl
@[simp] theorem State.setSlot_chan (s : State) (i : Fin 8) (f : FobSlot) (ch' : Channel) : (s.setSlot i f).chan ch' = s.chan ch' := rfl
@[simp] theorem State.setSession_chan (s : State) (x : Option Session) (ch' : Channel) : (s.setSession x).chan ch' = s.chan ch' := rfl
@[simp] theorem State.setTouch_chan (s : State) (t : TouchSource) (e : TouchEntry) (ch' : Channel) : (s.setTouch t e).chan ch' = s.chan ch' := rfl
@[simp] theorem State.setWin_chan (s : State) (w : Window) (r : WindowRec) (ch' : Channel) : (s.setWin w r).chan ch' = s.chan ch' := rfl
@[simp] theorem State.setPinch_chan (s : State) (w : Window) (p : PinchState) (ch' : Channel) : (s.setPinch w p).chan ch' = s.chan ch' := rfl
@[simp] theorem State.setRefs_chan (s : State) (w : Window) (r : RefState) (ch' : Channel) : (s.setRefs w r).chan ch' = s.chan ch' := rfl
@[simp] theorem State.setRing_chan (s : State) (w : Window) (l : List Sample) (ch' : Channel) : (s.setRing w l).chan ch' = s.chan ch' := rfl
@[simp] theorem State.setBuffer_chan (s : State) (i : Fin 8) (b : Buffer) (ch' : Channel) : (s.setBuffer i b).chan ch' = s.chan ch' := rfl
@[simp] theorem State.setPort_chan (s : State) (p : Port) (e : PortEngine) (ch' : Channel) : (s.setPort p e).chan ch' = s.chan ch' := rfl
@[simp] theorem State.setNotices_chan (s : State) (p : Port) (n : NoticeSet) (ch' : Channel) : (s.setNotices p n).chan ch' = s.chan ch' := rfl
@[simp] theorem State.onAll_chan (s : State) (f : NoticeSet → NoticeSet) (ch' : Channel) : (s.onAll f).chan ch' = s.chan ch' := rfl
@[simp] theorem State.onBD_chan (s : State) (f : NoticeSet → NoticeSet) (ch' : Channel) : (s.onBD f).chan ch' = s.chan ch' := rfl
@[simp] theorem State.onPort_chan (s : State) (p : Port) (f : NoticeSet → NoticeSet) (ch' : Channel) : (s.onPort p f).chan ch' = s.chan ch' := rfl
@[simp] theorem State.setFlags_chan (s : State) (f : StickyFlags → StickyFlags) (ch' : Channel) : (s.setFlags f).chan ch' = s.chan ch' := rfl
@[simp] theorem State.setDetector_chan (s : State) (d : Detector) (t : Option Nat) (ch' : Channel) : (s.setDetector d t).chan ch' = s.chan ch' := rfl
@[simp] theorem State.setSensing_chan (s : State) (x : Sensing) (ch' : Channel) : (s.setSensing x).chan ch' = s.chan ch' := rfl
@[simp] theorem State.setStaging_chan (s : State) (x : Option Staging) (ch' : Channel) : (s.setStaging x).chan ch' = s.chan ch' := rfl
@[simp] theorem State.setCursor_chan (s : State) (c : Option Cursor) (ch' : Channel) : (s.setCursor c).chan ch' = s.chan ch' := rfl
@[simp] theorem State.withPending_chan (s : State) (l : List Instr) (ch' : Channel) : (s.withPending l).chan ch' = s.chan ch' := rfl
@[simp] theorem State.reach_slotAt (s : State) (t : Nat) (i' : Fin 8) : (s.reach t).slotAt i' = s.slotAt i' := rfl
@[simp] theorem State.setClosure_slotAt (s : State) (c : Closure) (r : ClosureRec) (i' : Fin 8) : (s.setClosure c r).slotAt i' = s.slotAt i' := rfl
@[simp] theorem State.setChild_slotAt (s : State) (r : Rear) (v : ChildRec) (i' : Fin 8) : (s.setChild r v).slotAt i' = s.slotAt i' := rfl
@[simp] theorem State.setQueue_slotAt (s : State) (q : List Entry) (i' : Fin 8) : (s.setQueue q).slotAt i' = s.slotAt i' := rfl
@[simp] theorem State.setOp_slotAt (s : State) (a : Actuator) (o : Option Op) (i' : Fin 8) : (s.setOp a o).slotAt i' = s.slotAt i' := rfl
@[simp] theorem State.setRelock_slotAt (s : State) (t : Option Nat) (i' : Fin 8) : (s.setRelock t).slotAt i' = s.slotAt i' := rfl
@[simp] theorem State.setRepeat_slotAt (s : State) (r : Option Repeat) (i' : Fin 8) : (s.setRepeat r).slotAt i' = s.slotAt i' := rfl
@[simp] theorem State.setSession_slotAt (s : State) (x : Option Session) (i' : Fin 8) : (s.setSession x).slotAt i' = s.slotAt i' := rfl
@[simp] theorem State.setTouch_slotAt (s : State) (t : TouchSource) (e : TouchEntry) (i' : Fin 8) : (s.setTouch t e).slotAt i' = s.slotAt i' := rfl
@[simp] theorem State.setWin_slotAt (s : State) (w : Window) (r : WindowRec) (i' : Fin 8) : (s.setWin w r).slotAt i' = s.slotAt i' := rfl
@[simp] theorem State.setPinch_slotAt (s : State) (w : Window) (p : PinchState) (i' : Fin 8) : (s.setPinch w p).slotAt i' = s.slotAt i' := rfl
@[simp] theorem State.setRefs_slotAt (s : State) (w : Window) (r : RefState) (i' : Fin 8) : (s.setRefs w r).slotAt i' = s.slotAt i' := rfl
@[simp] theorem State.setChan_slotAt (s : State) (ch : Channel) (r : ChannelRec) (i' : Fin 8) : (s.setChan ch r).slotAt i' = s.slotAt i' := rfl
@[simp] theorem State.setRing_slotAt (s : State) (w : Window) (l : List Sample) (i' : Fin 8) : (s.setRing w l).slotAt i' = s.slotAt i' := rfl
@[simp] theorem State.setBuffer_slotAt (s : State) (i : Fin 8) (b : Buffer) (i' : Fin 8) : (s.setBuffer i b).slotAt i' = s.slotAt i' := rfl
@[simp] theorem State.setPort_slotAt (s : State) (p : Port) (e : PortEngine) (i' : Fin 8) : (s.setPort p e).slotAt i' = s.slotAt i' := rfl
@[simp] theorem State.setNotices_slotAt (s : State) (p : Port) (n : NoticeSet) (i' : Fin 8) : (s.setNotices p n).slotAt i' = s.slotAt i' := rfl
@[simp] theorem State.onAll_slotAt (s : State) (f : NoticeSet → NoticeSet) (i' : Fin 8) : (s.onAll f).slotAt i' = s.slotAt i' := rfl
@[simp] theorem State.onBD_slotAt (s : State) (f : NoticeSet → NoticeSet) (i' : Fin 8) : (s.onBD f).slotAt i' = s.slotAt i' := rfl
@[simp] theorem State.onPort_slotAt (s : State) (p : Port) (f : NoticeSet → NoticeSet) (i' : Fin 8) : (s.onPort p f).slotAt i' = s.slotAt i' := rfl
@[simp] theorem State.setFlags_slotAt (s : State) (f : StickyFlags → StickyFlags) (i' : Fin 8) : (s.setFlags f).slotAt i' = s.slotAt i' := rfl
@[simp] theorem State.setDetector_slotAt (s : State) (d : Detector) (t : Option Nat) (i' : Fin 8) : (s.setDetector d t).slotAt i' = s.slotAt i' := rfl
@[simp] theorem State.setSensing_slotAt (s : State) (x : Sensing) (i' : Fin 8) : (s.setSensing x).slotAt i' = s.slotAt i' := rfl
@[simp] theorem State.setStaging_slotAt (s : State) (x : Option Staging) (i' : Fin 8) : (s.setStaging x).slotAt i' = s.slotAt i' := rfl
@[simp] theorem State.setCursor_slotAt (s : State) (c : Option Cursor) (i' : Fin 8) : (s.setCursor c).slotAt i' = s.slotAt i' := rfl
@[simp] theorem State.withPending_slotAt (s : State) (l : List Instr) (i' : Fin 8) : (s.withPending l).slotAt i' = s.slotAt i' := rfl
@[simp] theorem State.reach_bufferAt (s : State) (t : Nat) (i' : Fin 8) : (s.reach t).bufferAt i' = s.bufferAt i' := rfl
@[simp] theorem State.setClosure_bufferAt (s : State) (c : Closure) (r : ClosureRec) (i' : Fin 8) : (s.setClosure c r).bufferAt i' = s.bufferAt i' := rfl
@[simp] theorem State.setChild_bufferAt (s : State) (r : Rear) (v : ChildRec) (i' : Fin 8) : (s.setChild r v).bufferAt i' = s.bufferAt i' := rfl
@[simp] theorem State.setQueue_bufferAt (s : State) (q : List Entry) (i' : Fin 8) : (s.setQueue q).bufferAt i' = s.bufferAt i' := rfl
@[simp] theorem State.setOp_bufferAt (s : State) (a : Actuator) (o : Option Op) (i' : Fin 8) : (s.setOp a o).bufferAt i' = s.bufferAt i' := rfl
@[simp] theorem State.setRelock_bufferAt (s : State) (t : Option Nat) (i' : Fin 8) : (s.setRelock t).bufferAt i' = s.bufferAt i' := rfl
@[simp] theorem State.setRepeat_bufferAt (s : State) (r : Option Repeat) (i' : Fin 8) : (s.setRepeat r).bufferAt i' = s.bufferAt i' := rfl
@[simp] theorem State.setSlot_bufferAt (s : State) (i : Fin 8) (f : FobSlot) (i' : Fin 8) : (s.setSlot i f).bufferAt i' = s.bufferAt i' := rfl
@[simp] theorem State.setSession_bufferAt (s : State) (x : Option Session) (i' : Fin 8) : (s.setSession x).bufferAt i' = s.bufferAt i' := rfl
@[simp] theorem State.setTouch_bufferAt (s : State) (t : TouchSource) (e : TouchEntry) (i' : Fin 8) : (s.setTouch t e).bufferAt i' = s.bufferAt i' := rfl
@[simp] theorem State.setWin_bufferAt (s : State) (w : Window) (r : WindowRec) (i' : Fin 8) : (s.setWin w r).bufferAt i' = s.bufferAt i' := rfl
@[simp] theorem State.setPinch_bufferAt (s : State) (w : Window) (p : PinchState) (i' : Fin 8) : (s.setPinch w p).bufferAt i' = s.bufferAt i' := rfl
@[simp] theorem State.setRefs_bufferAt (s : State) (w : Window) (r : RefState) (i' : Fin 8) : (s.setRefs w r).bufferAt i' = s.bufferAt i' := rfl
@[simp] theorem State.setChan_bufferAt (s : State) (ch : Channel) (r : ChannelRec) (i' : Fin 8) : (s.setChan ch r).bufferAt i' = s.bufferAt i' := rfl
@[simp] theorem State.setRing_bufferAt (s : State) (w : Window) (l : List Sample) (i' : Fin 8) : (s.setRing w l).bufferAt i' = s.bufferAt i' := rfl
@[simp] theorem State.setPort_bufferAt (s : State) (p : Port) (e : PortEngine) (i' : Fin 8) : (s.setPort p e).bufferAt i' = s.bufferAt i' := rfl
@[simp] theorem State.setNotices_bufferAt (s : State) (p : Port) (n : NoticeSet) (i' : Fin 8) : (s.setNotices p n).bufferAt i' = s.bufferAt i' := rfl
@[simp] theorem State.onAll_bufferAt (s : State) (f : NoticeSet → NoticeSet) (i' : Fin 8) : (s.onAll f).bufferAt i' = s.bufferAt i' := rfl
@[simp] theorem State.onBD_bufferAt (s : State) (f : NoticeSet → NoticeSet) (i' : Fin 8) : (s.onBD f).bufferAt i' = s.bufferAt i' := rfl
@[simp] theorem State.onPort_bufferAt (s : State) (p : Port) (f : NoticeSet → NoticeSet) (i' : Fin 8) : (s.onPort p f).bufferAt i' = s.bufferAt i' := rfl
@[simp] theorem State.setFlags_bufferAt (s : State) (f : StickyFlags → StickyFlags) (i' : Fin 8) : (s.setFlags f).bufferAt i' = s.bufferAt i' := rfl
@[simp] theorem State.setDetector_bufferAt (s : State) (d : Detector) (t : Option Nat) (i' : Fin 8) : (s.setDetector d t).bufferAt i' = s.bufferAt i' := rfl
@[simp] theorem State.setSensing_bufferAt (s : State) (x : Sensing) (i' : Fin 8) : (s.setSensing x).bufferAt i' = s.bufferAt i' := rfl
@[simp] theorem State.setStaging_bufferAt (s : State) (x : Option Staging) (i' : Fin 8) : (s.setStaging x).bufferAt i' = s.bufferAt i' := rfl
@[simp] theorem State.setCursor_bufferAt (s : State) (c : Option Cursor) (i' : Fin 8) : (s.setCursor c).bufferAt i' = s.bufferAt i' := rfl
@[simp] theorem State.withPending_bufferAt (s : State) (l : List Instr) (i' : Fin 8) : (s.withPending l).bufferAt i' = s.bufferAt i' := rfl
@[simp] theorem State.reach_calOf (s : State) (t : Nat) (w' : Window) : (s.reach t).calOf w' = s.calOf w' := rfl
@[simp] theorem State.setClosure_calOf (s : State) (c : Closure) (r : ClosureRec) (w' : Window) : (s.setClosure c r).calOf w' = s.calOf w' := rfl
@[simp] theorem State.setChild_calOf (s : State) (r : Rear) (v : ChildRec) (w' : Window) : (s.setChild r v).calOf w' = s.calOf w' := rfl
@[simp] theorem State.setQueue_calOf (s : State) (q : List Entry) (w' : Window) : (s.setQueue q).calOf w' = s.calOf w' := rfl
@[simp] theorem State.setOp_calOf (s : State) (a : Actuator) (o : Option Op) (w' : Window) : (s.setOp a o).calOf w' = s.calOf w' := rfl
@[simp] theorem State.setRelock_calOf (s : State) (t : Option Nat) (w' : Window) : (s.setRelock t).calOf w' = s.calOf w' := rfl
@[simp] theorem State.setRepeat_calOf (s : State) (r : Option Repeat) (w' : Window) : (s.setRepeat r).calOf w' = s.calOf w' := rfl
@[simp] theorem State.setSlot_calOf (s : State) (i : Fin 8) (f : FobSlot) (w' : Window) : (s.setSlot i f).calOf w' = s.calOf w' := rfl
@[simp] theorem State.setSession_calOf (s : State) (x : Option Session) (w' : Window) : (s.setSession x).calOf w' = s.calOf w' := rfl
@[simp] theorem State.setTouch_calOf (s : State) (t : TouchSource) (e : TouchEntry) (w' : Window) : (s.setTouch t e).calOf w' = s.calOf w' := rfl
@[simp] theorem State.setWin_calOf (s : State) (w : Window) (r : WindowRec) (w' : Window) : (s.setWin w r).calOf w' = s.calOf w' := rfl
@[simp] theorem State.setPinch_calOf (s : State) (w : Window) (p : PinchState) (w' : Window) : (s.setPinch w p).calOf w' = s.calOf w' := rfl
@[simp] theorem State.setRefs_calOf (s : State) (w : Window) (r : RefState) (w' : Window) : (s.setRefs w r).calOf w' = s.calOf w' := rfl
@[simp] theorem State.setChan_calOf (s : State) (ch : Channel) (r : ChannelRec) (w' : Window) : (s.setChan ch r).calOf w' = s.calOf w' := rfl
@[simp] theorem State.setRing_calOf (s : State) (w : Window) (l : List Sample) (w' : Window) : (s.setRing w l).calOf w' = s.calOf w' := rfl
@[simp] theorem State.setBuffer_calOf (s : State) (i : Fin 8) (b : Buffer) (w' : Window) : (s.setBuffer i b).calOf w' = s.calOf w' := rfl
@[simp] theorem State.setPort_calOf (s : State) (p : Port) (e : PortEngine) (w' : Window) : (s.setPort p e).calOf w' = s.calOf w' := rfl
@[simp] theorem State.setNotices_calOf (s : State) (p : Port) (n : NoticeSet) (w' : Window) : (s.setNotices p n).calOf w' = s.calOf w' := rfl
@[simp] theorem State.onAll_calOf (s : State) (f : NoticeSet → NoticeSet) (w' : Window) : (s.onAll f).calOf w' = s.calOf w' := rfl
@[simp] theorem State.onBD_calOf (s : State) (f : NoticeSet → NoticeSet) (w' : Window) : (s.onBD f).calOf w' = s.calOf w' := rfl
@[simp] theorem State.onPort_calOf (s : State) (p : Port) (f : NoticeSet → NoticeSet) (w' : Window) : (s.onPort p f).calOf w' = s.calOf w' := rfl
@[simp] theorem State.setFlags_calOf (s : State) (f : StickyFlags → StickyFlags) (w' : Window) : (s.setFlags f).calOf w' = s.calOf w' := rfl
@[simp] theorem State.setDetector_calOf (s : State) (d : Detector) (t : Option Nat) (w' : Window) : (s.setDetector d t).calOf w' = s.calOf w' := rfl
@[simp] theorem State.setSensing_calOf (s : State) (x : Sensing) (w' : Window) : (s.setSensing x).calOf w' = s.calOf w' := rfl
@[simp] theorem State.setStaging_calOf (s : State) (x : Option Staging) (w' : Window) : (s.setStaging x).calOf w' = s.calOf w' := rfl
@[simp] theorem State.setCursor_calOf (s : State) (c : Option Cursor) (w' : Window) : (s.setCursor c).calOf w' = s.calOf w' := rfl
@[simp] theorem State.withPending_calOf (s : State) (l : List Instr) (w' : Window) : (s.withPending l).calOf w' = s.calOf w' := rfl

theorem State.setClosure_closure (s : State) (c : Closure) (r : ClosureRec) (c' : Closure) : (s.setClosure c r).closure c' = if c' = c then r else s.closure c' := Closures.get_set ..
theorem State.setChild_childOf (s : State) (r : Rear) (v : ChildRec) (r' : Rear) : (s.setChild r v).childOf r' = if r' = r then v else s.childOf r' := Rears.get_set ..
theorem State.setOp_opAt (s : State) (a : Actuator) (o : Option Op) (a' : Actuator) : (s.setOp a o).opAt a' = if a' = a then o else s.opAt a' := Actuators.get_set ..
theorem State.setWin_winRec (s : State) (w : Window) (r : WindowRec) (w' : Window) : (s.setWin w r).winRec w' = if w' = w then r else s.winRec w' := Windows.get_set ..
theorem State.setPinch_pinchOf (s : State) (w : Window) (p : PinchState) (w' : Window) : (s.setPinch w p).pinchOf w' = if w' = w then p else s.pinchOf w' := Windows.get_set ..
theorem State.setRefs_refsOf (s : State) (w : Window) (r : RefState) (w' : Window) : (s.setRefs w r).refsOf w' = if w' = w then r else s.refsOf w' := Windows.get_set ..
theorem State.setChan_chan (s : State) (ch : Channel) (r : ChannelRec) (ch' : Channel) : (s.setChan ch r).chan ch' = if ch' = ch then r else s.chan ch' := Channels.get_set ..
theorem State.setSlot_slotAt (s : State) (i : Fin 8) (f : FobSlot) (j : Fin 8) : (s.setSlot i f).slotAt j = if j = i then f else s.slotAt j := by
  simp only [State.slotAt, State.setSlot, Fin.getElem_fin, Vector.getElem_set]
  by_cases h : i = j
  · subst h; simp
  · rw [if_neg (fun e => h (Fin.ext e)), if_neg (fun e => h e.symm)]
theorem State.setBuffer_bufferAt (s : State) (i : Fin 8) (b : Buffer) (j : Fin 8) : (s.setBuffer i b).bufferAt j = if j = i then b else s.bufferAt j := by
  simp only [State.bufferAt, State.setBuffer, Fin.getElem_fin, Vector.getElem_set]
  by_cases h : i = j
  · subst h; simp
  · rw [if_neg (fun e => h (Fin.ext e)), if_neg (fun e => h e.symm)]
theorem State.setPort_get (s : State) (p : Port) (e : PortEngine) (p' : Port) : (s.setPort p e).ports.get p' = if p' = p then e else s.ports.get p' := Ports.get_set ..

end Sys2Proof.Machine
end

