-- ==== Sys2Proof/WellFormed.lean ====
section
/-! DEFINITION. The commands that the outside can really produce: measured codes within their scales (00_scope.md 6.3,
R161), payloads within the frame's 0 to 48 bytes (R163), and an UNKNOWN_KIND_REQUEST whose kind byte the table of R167
does not list. `exec` gives every command a meaning, well formed or not. -/

namespace Sys2Proof

/-- A measurement code of 0 to 1,023 (6.3). -/
def codeOk (n : Nat) : Bool := decide (n ≤ 1023)

/-- A die temperature of −40 to 200 °C (R161). -/
def tempOk (t : Int) : Bool := decide (-40 ≤ t) && decide (t ≤ 200)

/-- A payload that a frame can carry (R163). -/
def payloadOk (payload : List Byte) : Bool := decide (payload.length ≤ 48)

/-- A kind byte of the table of R167. -/
def kindKnown (kind : Byte) : Bool := decide (1 ≤ kind.toNat) && decide (kind.toNat ≤ 32)

/-- The command is one that the lines, timers, measurements and links can produce. -/
def Instr.wf : Instr → Bool
  | .powerOn t v | .resetLineRelease t v => tempOk t && codeOk v
  | .windowSample _ i v => codeOk i && codeOk v
  | .actuatorCurrentMeasurement _ code => codeOk code
  | .temperatureMeasurement t => tempOk t
  | .supplyMeasurement v => codeOk v
  | .unknownKindRequest _ _ kind payload => !kindKnown kind && payloadOk payload
  | .lock _ _ q | .centralToggle _ _ q | .childSet _ _ q | .credential _ _ q | .passiveClaim _ _ q
  | .windowSwitch _ _ q | .rearLockout _ _ q | .comfort _ _ q | .vehicleMode _ _ q | .crashClear _ _ q
  | .windowRestore _ _ q | .windowForget _ _ q | .windowContextRead _ _ q | .traceTrigger _ _ q | .traceRead _ _ q
  | .traceRewind _ _ q | .traceClear _ _ q | .timeTagReset _ _ q | .traceStatus _ _ q | .clearFault _ _ q
  | .clearStatus _ _ q | .diagStatus _ _ q | .configWrite _ _ q | .configRead _ _ q | .configFreeze _ _ q
  | .fobWrite _ _ q | .fobRead _ _ q | .softReset _ _ q | .closureStatus _ _ q | .windowStatus _ _ q
  | .readNotices _ _ q | .ackNotices _ _ q => payloadOk q
  | .rawLineChange _ | .debounceExpiry _ | .crashLineChange _ | .crashDetectorTimer | .crashPulseEnd _
  | .crashSettleEnd _ | .resetLineAssert | .frameDiscarded _ | .interByteTimeout _ | .responseSent _
  | .commandStart | .slotGrant | .pulseEnd _ | .settleEnd _ | .heatTick | .relockTimerExpiry | .candidateExpiry _
  | .keepAliveExpiry | .touchWindowExpiry _ | .touchHoldExpiry _ | .ripplePulse _ | .startWindowEnd _
  | .stallTimerExpiry _ | .dwellEnd _ | .brakeEnd _ | .panelRefreshExpiry _ | .retainedPowerExpiry
  | .openLoadJudgement _ | .offStateTick _ | .linkByteReceived _ _ => true

end Sys2Proof
end

