-- ==== Sys2Proof/Tests/Slice0.lean ====
section
/-! SUPPORT. Tests: the well-formedness smoke, worked examples of spec/ on single steps, and for each statement a state
that meets its hypotheses. -/

open Sys2Proof Sys2Proof.Machine

namespace Sys2Proof.Tests

/-! ### States -/

/-- A state 0.1 s after reset. -/
def base : State := { State.reset with now := 1000 }

/-- `base` with the supply of a running window: a normalised window in an up-run of PANEL. -/
def upRun : RunRec := { dir := .up, kind := .auto, target := 0, holder := .panel }

/-- A record in RUN at a position. -/
def runAt (k : RunRec) (p : Int) : WindowRec :=
  { WindowRec.reset with motion := .run k, position := some p, normalised := true, stall := some 900, lastDirection := some k.dir }

/-- `base` with the front driver window in a run, its bridge driven and the calibration kept. -/
def running (k : RunRec) (p : Int) : State :=
  ((base.setWin .wfd (runAt k p)).driveChan (.w .wfd) k.dir.drive).setPinch .wfd
    { PinchState.reset with cal := some Cal.default }

/-- `base` with another entry queue. -/
def queued (q : List Entry) : State := base.setQueue q

/-- An operation that waits. -/
def waitingOp : Op := created (.lock .locked) 2

/-- A closure with its feedback adopted. -/
def sensed (v : LockPos) : ClosureRec :=
  { latch := .closed, lockSensed := v.sensed, lockGoal := v, confirmed := true, lastSource := .knob }

/-- A settled touch, latch or contact line: its timer runs. -/
def stageAt (level : Option Bool) (raw : Bool) : Stage Bool := { raw, level, timer := some 900 }

/-! ### Laws of small states -/

theorem base_opLaw : ∀ a, OpLaw base a := by
  intro a; rcases a with c | c | _ <;> (try cases c) <;> exact rfl

theorem base_noOps : ∀ a, base.opAt a = none := by
  intro a; rcases a with c | c | _ <;> (try cases c) <;> exact rfl

theorem base_lockLaw : LockLaw base := by
  refine ⟨⟨by decide, by decide, ?_⟩, fun h => absurd h (by decide)⟩
  intro i e f h; simp [base, State.reset, Sequencer.reset] at h

theorem base_slotLaw : SlotLaw base := by
  refine ⟨by decide, base_opLaw, ?_⟩
  intro a o h; rw [base_noOps a] at h; cases h

theorem base_windowLaw : WindowLaw base := by
  intro w
  cases w <;>
    exact ⟨trivial, ⟨rfl, trivial, by decide, by decide⟩, ⟨by decide, rfl, by decide, by decide, rfl⟩, by decide, .inl rfl⟩

theorem base_free : ∀ i, base.bufferAt i = .free := by decide

theorem base_traceLaw : TraceLaw base := by
  refine ⟨fun w => by cases w <;> decide, by decide, by decide, ?_, ?_, ?_, ?_⟩
  · intro i r h; rw [base_free i] at h; cases h
  · intro i j r r' h; rw [base_free i] at h; cases h
  · intro i r x h; rw [base_free i] at h; cases h
  · intro c h; cases h

theorem base_rangeLaw : RangeLaw base := by
  refine ⟨fun w => by cases w <;> (unfold CalLaw; decide), by decide, fun w => ?_⟩
  have hz : ∀ z : Fin 32, (base.refsOf w).zones[z] = none := by cases w <;> decide
  refine ⟨?_, ?_, ?_, ?_, ?_, ?_, ?_⟩
  · intro c h; cases w <;> cases h
  · intro f h; cases w <;> cases h
  · cases w <;> decide
  · cases w <;> decide
  · intro z x h; rw [hz z] at h; cases h
  · cases w <;> decide
  · intro k h; cases w <;> cases h

/-! ### Well-formedness: an ill-formed term for each check -/

theorem smoke_temperature : (Instr.temperatureMeasurement 201).wf = false ∧ (Instr.powerOn (-41) 600).wf = false := by decide
theorem smoke_supply : (Instr.supplyMeasurement 1024).wf = false ∧ (Instr.resetLineRelease 25 1024).wf = false := by decide
theorem smoke_sample : (Instr.windowSample .wfd 1024 600).wf = false ∧ (Instr.windowSample .wfd 5 1024).wf = false := by decide
theorem smoke_current : (Instr.actuatorCurrentMeasurement .t1 1024).wf = false := by decide
theorem smoke_payload : (Instr.lock .b 1 (List.replicate 49 0)).wf = false := by decide
theorem smoke_kind : (Instr.unknownKindRequest .b 1 0x20 []).wf = false ∧
    (Instr.unknownKindRequest .b 1 0x21 (List.replicate 49 0)).wf = false := by decide
theorem smoke_accepts : (Instr.windowSample .wrp 1023 1023).wf = true ∧ (Instr.temperatureMeasurement (-40)).wf = true ∧
    (Instr.unknownKindRequest .b 1 0x21 []).wf = true := by decide

/-- No word spells a command: the table gives no bits. -/
theorem test_decodes_nothing : decodeTableWord 8 1 = none ∧ State.reset.withFetchWord 8 1 = State.reset := by decide

/-! ### Witnesses: states that meet the hypotheses of the statements, clause by clause -/

/-- Requests can be taken on the idle ports of `base`. -/
theorem take {s : State} (h : s.resetLine = false) (hp : s.ports = base.ports) (p : Port) : s.canTake p :=
  ⟨h, by rw [hp]; cases p <;> decide⟩

/-- `base` held in reset. -/
def held : State := { base with resetLine := true }

/-- `base` with port B answering and a soft reset due. -/
def softDue (s : State) : State := { s with softResetDue := true, ports := s.ports.set .b (answered 1 .ok []) }

/-- The state after a command. -/
def after (c : Instr) (s : State) : State :=
  match exec c s with
  | .next t => t
  | .fault _ | .refused _ => s

/-- `base` with its crash line asserted for 2 ms. -/
def crashing : State := { base with crash := { line := true, detector := .asserting, timer := some 1000, latch := false } }

/-- `base` with the crash latch set, every window inhibited by it and a crash operation in DRIVE on FD. -/
def crashed : State :=
  (({ base with
      crash := { line := true, detector := .asserted, timer := none, latch := true }
      win := { base.win with recs := .all { WindowRec.reset with motion := .inhibited, causes := ⟨true, false, false, false⟩ } } } :
      State).setOp (.l .fd) (some (crashPulse 4 1000))).driveChan (.act (.l .fd)) .onSecond

theorem crashed_opLaw : ∀ a, OpLaw crashed a := by
  intro a
  rcases a with c | c | _
  · cases c
    · exact ⟨by decide, fun _ => ⟨rfl, by decide, .fd, rfl⟩, fun h => absurd h (by decide)⟩
    all_goals exact rfl
  · cases c <;> exact rfl
  · exact rfl

theorem crashed_lockLaw : LockLaw crashed := by
  refine ⟨⟨by decide, by decide, ?_⟩, fun _ => ⟨fun c => by cases c <;> rfl, by decide⟩⟩
  intro i e f h; simp [crashed, base, State.reset, Sequencer.reset, State.driveChan, State.setChan, State.setOp] at h

theorem crashed_windowLaw : WindowLaw crashed := by
  intro w
  cases w <;>
    exact ⟨trivial, ⟨rfl, trivial, by decide, by decide⟩, ⟨by decide, rfl, by decide, by decide, rfl⟩, by decide, rfl⟩

theorem traceLaw_of {s : State} (h : s.trace = base.trace) : TraceLaw s := by
  have hb : ∀ i, s.bufferAt i = .free := fun i => by unfold State.bufferAt; rw [h]; exact base_free i
  refine ⟨fun w => by rw [h]; cases w <;> decide, by rw [h]; decide, ?_, ?_, ?_, ?_, ?_⟩
  · intro i
    have hf : s.isFree i = true := by unfold State.isFree; rw [hb i]
    rw [hf, h]; exact ⟨fun x => (nomatch x), fun x => (nomatch x)⟩
  · intro i r x; rw [hb i] at x; cases x
  · intro i j r r' x; rw [hb i] at x; cases x
  · intro i r c x; rw [hb i] at x; cases x
  · intro c x; rw [h] at x; cases x

theorem running_windowLaw : WindowLaw (running upRun 500) := by
  intro w
  cases w
  · exact ⟨fun _ _ => ⟨rfl, rfl⟩, ⟨⟨rfl, by decide, by decide⟩, trivial, by decide, by decide⟩,
      ⟨by decide, rfl, by decide, by decide, rfl⟩, by decide, rfl⟩
  all_goals
    exact ⟨trivial, ⟨rfl, trivial, by decide, by decide⟩, ⟨by decide, rfl, by decide, by decide, rfl⟩, by decide, .inl rfl⟩

theorem witness_StepTakesFront :
    { base with pending := [.heatTick, .slotGrant] }.pending = .heatTick :: [.slotGrant] := rfl

theorem witness_StepOnEmptyQueue :
    base.pending = [] ∧ { State.reset with now := 200 }.due = some (.debounceExpiry (.latch .fd)) ∧
    { State.reset with now := 199 }.due = none ∧ base.resetLine = false ∧
    (queued [innerEntry .lockAll .key]).due = some .commandStart ∧ held.resetLine = true := by decide

theorem witness_FullReset_ResetLineHolds :
    base.resetLine = false ∧ held.resetLine = true ∧ held.due = none ∧
    (∀ r, Instr.heatTick ≠ .rawLineChange r) ∧ (∀ b, Instr.heatTick ≠ .crashLineChange b) ∧ Instr.heatTick ≠ .resetLineAssert ∧
    (∀ deg v, Instr.heatTick ≠ .powerOn deg v) ∧ (∀ deg v, Instr.heatTick ≠ .resetLineRelease deg v) :=
  ⟨rfl, rfl, rfl, by intros; simp, by intros; simp, by simp, by intros; simp, by intros; simp⟩

theorem witness_ResponseSentAndSoftResetRequest :
    (softDue base).resetLine = false ∧ ((softDue base).ports.get .b).engine = .answering ∧
    ((base.setPort .k (answered 1 .ok [])).ports.get .k).engine = .answering ∧
    ((base.setPort .b (answered 1 .ok [])).ports.get .b).engine = .answering ∧
    (base.setPort .b (answered 1 .ok [])).softResetDue = false ∧ base.canTake .b :=
  ⟨rfl, rfl, rfl, rfl, rfl, take rfl rfl _⟩

theorem witness_SoftReset :
    (softDue base).softResetDue = true ∧ (∀ a, OpLaw (softDue base) a) ∧ WindowLaw (softDue base) ∧ TraceLaw (softDue base) :=
  ⟨rfl, base_opLaw, base_windowLaw, traceLaw_of rfl⟩

theorem witness_SoftReset_running :
    (∀ a, OpLaw (softDue (running upRun 500)) a) ∧ WindowLaw (softDue (running upRun 500)) ∧
    TraceLaw (softDue (running upRun 500)) ∧ ((softDue (running upRun 500)).winRec .wfd).motion.running = true :=
  ⟨base_opLaw, running_windowLaw, traceLaw_of rfl, rfl⟩

/-- A soft reset that finds notices standing. -/
def softNoticed : State :=
  softDue { base with notices := base.notices.set .b { NoticeSet.empty with
    lockChanged := some (Closures.all true), childChanged := some ⟨false, true⟩, traceReady := true } }

theorem witness_SoftReset_notices :
    (∀ a, OpLaw softNoticed a) ∧ WindowLaw softNoticed ∧ TraceLaw softNoticed ∧
    (softNoticed.notices.get .b).lockChanged.any (fun d => d.get .tg) = true ∧
    (softNoticed.notices.get .b).childChanged.any (fun d => d.get .rp) = true ∧
    (softNoticed.notices.get .b).traceReady = true :=
  ⟨base_opLaw, base_windowLaw, traceLaw_of rfl, rfl, rfl, rfl⟩

theorem witness_SoftReset_crash :
    (softDue crashed).crash.latch = true ∧ (∀ a, OpLaw (softDue crashed) a) ∧ WindowLaw (softDue crashed) ∧
    TraceLaw (softDue crashed) ∧ ((softDue crashed).opAt (.l .fd)).any (·.crash) = true ∧
    ((softDue crashed).closure .fd).lockSensed ≠ .unlocked :=
  ⟨rfl, crashed_opLaw, crashed_windowLaw, traceLaw_of rfl, by decide, by decide⟩

/-! #### Ports -/

theorem witness_DecoderRefusals :
    base.canTake .d ∧ ([] : List Byte).length < (Kind.length .lock).1 ∧ (Kind.length .lock).2 < [(0 : Byte), 0].length ∧
    (Kind.length .lock).1 ≤ [(0 : Byte)].length ∧ [(0 : Byte)].length ≤ (Kind.length .lock).2 ∧
    Kind.allows .lock .d = false ∧ Kind.allows .lock .b = true ∧
    (groups[byteOf [3, 0, 0, 0, 0] 0]?).any (Frozen.mk false false false true false).has = true ∧
    (groups[byteOf [4, 0, 0, 0, 0] 0]?).any (Frozen.mk false false false false true).has = true :=
  ⟨take rfl rfl _, by decide, by decide, by decide, by decide, by decide, by decide, by decide, by decide⟩

theorem witness_RangeRefusals :
    (∀ p, base.canTake p) ∧ base.config.frozen.fobTable = false ∧
    Kind.allows .lock .b = true ∧ [(6 : Byte)].length = (Kind.length .lock).1 ∧ 6 ≤ byteOf [6] 0 ∧
    Kind.allows .passiveClaim .k = true ∧ [(0 : Byte), 0, 0, 0, 0, 3, 0].length = (Kind.length .passiveClaim).1 ∧
    3 ≤ byteOf [0, 0, 0, 0, 0, 3, 0] 5 ∧ 2 ≤ byteOf [0, 0, 0, 0, 0, 0, 255] 6 ∧ 17 ≤ byteOf [17] 0 ∧
    Kind.allows .readNotices .d = true :=
  ⟨take rfl rfl, by decide⟩

theorem witness_AnsweringPortAndUnknownKind :
    ((base.setPort .k (answered 1 .ok [])).ports.get .k).engine = .answering ∧ base.canTake .k ∧
    ((0x00 : Byte).toNat = 0 ∨ 32 < (0x00 : Byte).toNat) ∧ ((0x21 : Byte).toNat = 0 ∨ 32 < (0x21 : Byte).toNat) :=
  ⟨rfl, take rfl rfl _, by decide, by decide⟩

/-- `base` with port B receiving a frame. -/
def receiving (q : List Byte) : State :=
  base.setPort .b { engine := .receiving, buffer := q, timer := some 1010, response := none }

theorem witness_LinkBytes :
    (base.ports.get .b).engine = .idle ∧ (0x5D : Byte) ≠ 0x5C ∧
    ((receiving []).ports.get .b).buffer = [] ∧ ((1 : Byte).toNat < 2 ∨ 50 < (1 : Byte).toNat) ∧ 50 < (51 : Byte).toNat ∧
    2 ≤ (2 : Byte).toNat ∧ (50 : Byte).toNat ≤ 50 ∧
    ((receiving [2, 1]).ports.get .b).buffer.length ≠ byteOf ((receiving [2, 1]).ports.get .b).buffer 0 + 1 ∧
    ((receiving [2, 1, 2]).ports.get .b).buffer.length = byteOf ((receiving [2, 1, 2]).ports.get .b).buffer 0 + 1 ∧
    byteSum (((receiving [2, 1, 2]).ports.get .b).buffer ++ [0]) ≠ 0 ∧
    ((receiving []).ports.get .b).timer = some 1010 ∧ (receiving []).resetLine = false := by decide

theorem witness_FrameBytesAreTheRequest :
    base.resetLine = false ∧ (base.ports.get .b).engine = .idle ∧ ([] : List Byte).length ≤ 48 ∧
    (List.replicate 48 (0 : Byte)).length ≤ 48 ∧ (0x01 : Byte) = Kind.code .lock ∧ (0x20 : Byte) = Kind.code .ackNotices ∧
    ((0x00 : Byte).toNat = 0 ∨ 32 < (0x00 : Byte).toNat) ∧ ((0x21 : Byte).toNat = 0 ∨ 32 < (0x21 : Byte).toNat) := by decide

theorem witness_ReadsChangeNothing_StatusContent_AckNotices :
    (∀ p, base.canTake p) ∧ (2 : Byte).toNat < 3 ∧ (16 : Byte).toNat ≤ 16 ∧ (3 : Byte).toNat < 4 ∧ (7 : Byte).toNat < 8 ∧
    (15 : Byte).toNat < 16 ∧ (base.notices.get .b).present.getD 1 false = false ∧
    (base.notices.get .b).present.getD 16 false = false :=
  ⟨take rfl rfl, by decide⟩

/-- RD with a source of its own. -/
theorem witness_StatusContent_sources :
    (crashed.setClosure .rd { crashed.closure .rd with lastSource := .kFob 7 }).canTake .k ∧
    ((crashed.setClosure .rd { crashed.closure .rd with lastSource := .kFob 7 }).closure .rd).lastSource = .kFob 7 ∧
    ((crashed.setClosure .fd { crashed.closure .fd with lastSource := .crash }).closure .fd).lastSource = .crash :=
  ⟨take rfl rfl _, rfl, rfl⟩

/-! #### Configuration -/

theorem witness_ConfigWriteAndFreeze :
    base.canTake .b ∧ base.config.frozen.has .policy = false ∧
    itemValid base.config .policy 4 0 0 ∧ itemValid base.config .policy 4 0 15 ∧ itemValid base.config .policy 4 0 120 ∧
    itemValid base.config .windowCal 0 3 900 ∧ itemValid base.config .windowCal 1 0 1600 ∧
    itemValid base.config .windowCal 4 0 65535 ∧ itemValid base.config .supplyGain 0 15 32767 ∧
    itemValid base.config .diagMask 0 11 15 ∧ itemValid base.config .diagMask 1 0 0 := by
  refine ⟨take rfl rfl _, rfl, ?_, ?_, ?_, ⟨.wrp, rfl, ?_⟩, ⟨.wfd, rfl, ?_⟩, ⟨.wfd, rfl, ?_⟩, ?_, ?_, ?_⟩ <;>
    first | (unfold itemValid; decide) | decide

theorem witness_ConfigWriteAndFreeze_refused :
    ¬ itemValid base.config .policy 4 0 14 ∧ ¬ itemValid base.config .policy 5 0 0 ∧ ¬ itemValid base.config .policy 0 0 2 ∧
    ¬ itemValid base.config .windowCal 1 0 1601 ∧ ¬ itemValid base.config .windowCal 0 4 1600 ∧
    ¬ itemValid base.config .fobTable 0 0 0 := by
  refine ⟨?_, ?_, ?_, ?_, ?_, ?_⟩
  · unfold itemValid; decide
  · unfold itemValid; decide
  · unfold itemValid; decide
  · rintro ⟨w, hw, h⟩; cases hw; revert h; decide
  · rintro ⟨w, hw, h⟩; cases hw
  · exact id

/-- Every group frozen. -/
def frozenAll : State := { base with config := { base.config with frozen := ⟨true, true, true, true, true⟩ } }

theorem witness_ConfigWriteAndFreeze_whole :
    frozenAll.canTake .b ∧ (∀ g, frozenAll.config.frozen.has g = true) ∧ [(9 : Byte), 0, 0, 0].length = 4 ∧
    itemExists .policy 4 0 ∧ ¬ itemExists .policy 5 0 ∧ itemExists .windowCal 8 3 ∧ ¬ itemExists .windowCal 0 4 ∧
    itemExists .supplyGain 0 15 ∧ ¬ itemExists .supplyGain 1 0 ∧ itemExists .diagMask 0 11 ∧ itemExists .diagMask 1 0 ∧
    ¬ itemExists .diagMask 1 1 ∧ base.resetLine = false ∧ held.resetLine = true ∧ (softDue frozenAll).softResetDue = true ∧
    ((softDue frozenAll).ports.get .b).engine = .answering ∧ (softDue frozenAll).resetLine = false :=
  ⟨take rfl rfl _, by intro g; cases g <;> rfl, by unfold itemExists; decide⟩

/-- A LOCAL run of a rear window whose child goal is ENGAGED, with the policy item off. -/
def childRun : State :=
  { ((base.setWin .wrd (runAt { dir := .up, kind := .manual, target := 0, holder := .localSw } 500)).driveChan (.w .wrd)
      .onFirst).setChild .rd { goal := .engaged, sensed := .engaged, confirmed := true } with
    config := { base.config with childLockout := false } }

theorem witness_PolicyWritesActAtOnce :
    childRun.canTake .b ∧ childRun.config.frozen.policy = false ∧ childRun.config.frozen.diagMask = false ∧
    childRun.config.childLockout = false ∧ (childRun.childOf .rd).goal = .engaged ∧
    (childRun.winRec (rearWindow .rd)).motion.heldRun.any (·.holder = .localSw) = true ∧
    (∀ k, (childRun.winRec .wfd).motion.heldRun = some k → k.holder ≠ .localSw) :=
  ⟨take rfl rfl _, rfl, rfl, rfl, rfl, by decide, by intro k h; cases h⟩

theorem witness_ZoneShiftWrite :
    base.canTake .b ∧ base.config.frozen.windowCal = false ∧ (7 : Byte).toNat ≤ 7 ∧ (6 : Byte).toNat = (base.calOf .wfd).zs ∧
    (7 : Byte).toNat ≠ (base.calOf .wfd).zs ∧
    ((base.setRefs .wfd { RefState.reset with pendingForget := some 5 }).refsOf .wfd).pendingForget = some (5 : Byte).toNat ∧
    (base.refsOf .wfd).pendingForget ≠ some (7 : Byte).toNat ∧ (base.winRec .wfd).motion.running = false ∧
    ((running upRun 500).winRec .wfd).motion.running = true ∧ ((running upRun 500).refsOf .wfd).pendingForget = none ∧
    ((running upRun 500).pinchOf .wfd).cal = some Cal.default ∧
    (((running upRun 500).setRefs .wfd { RefState.reset with pendingForget := some 5 }).refsOf .wfd).pendingForget ≠
      some (7 : Byte).toNat :=
  ⟨take rfl rfl _, by decide⟩

/-! #### Fobs and touches -/

/-- An ACTIVE slot at counter 1,000 with every right. -/
def fob : FobSlot :=
  { status := .active, counter := 1000, rights := ⟨true, true, true, true⟩, candidate := some ⟨5000, 50000⟩, streak := 0,
    lastAccepted := some ⟨900, .lock⟩ }

/-- `base` with that fob in slot 0. -/
def fobbed (f : FobSlot) : State := base.setSlot 0 f

/-- A comfort session of slot 0. -/
def comforting : State := (fobbed fob).setSession (some ⟨0, .close, 2000⟩)

/-- A comfort session of a slot, the front driver window in its run. -/
def comfortRun (k : Fin 8) : State :=
  ((running { upRun with kind := .comfort, holder := .comfortK k } 500).setSlot 0 fob).setSession (some ⟨k, .close, 2000⟩)

theorem witness_FobWriteRead :
    base.canTake .b ∧ base.config.frozen.fobTable = false ∧ base.softResetDue = false ∧ base.fobs.session = none ∧
    16777215 < 16777216 ∧ 15 < 16 ∧ (comfortRun 0).canTake .b ∧ (comfortRun 0).config.frozen.fobTable = false ∧
    (∀ x, (comfortRun 0).fobs.session = some x → x.slot ≠ 1) ∧
    (comfortRun 0).fobs.session = some ⟨0, .close, 2000⟩ ∧
    ((comfortRun 0).winRec .wfd).motion.heldRun.any (fun k => k.holder = .comfortK 0) = true :=
  ⟨take rfl rfl _, rfl, rfl, rfl, by decide, by decide, take rfl rfl _, rfl, by intro x h; cases h; decide, rfl, by decide⟩

theorem fob_notConfirmed {c : Nat} (h1 : c ≠ 5001) (h2 : c ≠ 5002) : ¬ fob.confirmedBy c := by
  rintro ⟨k, h, x⟩; cases h; exact x.elim h1 h2

theorem witness_CredentialJudged :
    (fobbed fob).canTake .k ∧ ((fobbed { fob with status := .empty }).slotAt 0).status = .empty ∧
    ((fobbed { fob with status := .suspended }).slotAt 0).status = .suspended ∧ ((fobbed fob).slotAt 0).status = .active ∧
    ahead 1000 fob.counter = 0 ∧ fob.repeatedBy 10900 .lock ∧ ¬ fob.repeatedBy 10901 .lock ∧ ¬ fob.repeatedBy 1000 .unlock :=
  ⟨take rfl rfl _, rfl, rfl, rfl, by decide, ⟨_, rfl, by decide, rfl⟩, by rintro ⟨l, h, x, -⟩; cases h; exact absurd x (by decide),
    by rintro ⟨l, h, -, x⟩; cases h; cases x⟩

theorem witness_CredentialJudged_counters :
    fob.accepts 1001 ∧ fob.accepts 1256 ∧ fob.accepts 5001 ∧ fob.accepts 5002 ∧
    (256 < ahead 1257 fob.counter ∧ ¬ fob.confirmedBy 1257 ∧ fob.streak < 8) ∧
    (ahead 33768 fob.counter ≤ 32768 ∧ ¬ fob.confirmedBy 33768) ∧ 32768 < ahead 33769 fob.counter ∧
    32768 < ahead 999 fob.counter ∧ 8 ≤ { fob with streak := 8 }.streak :=
  ⟨⟨by decide, .inl (by decide)⟩, ⟨by decide, .inl (by decide)⟩, ⟨by decide, .inr ⟨by decide, _, rfl, by decide⟩⟩,
    ⟨by decide, .inr ⟨by decide, _, rfl, by decide⟩⟩, ⟨by decide, fob_notConfirmed (by decide) (by decide), by decide⟩,
    ⟨by decide, fob_notConfirmed (by decide) (by decide)⟩, by decide, by decide, by decide⟩

theorem witness_CredentialJudged_right : ¬ FobAction.admitted .lock Rights.none ∧
    ¬ FobAction.admitted .tailgate Rights.none ∧ ¬ FobAction.admitted .comfortStop Rights.none := by
  unfold FobAction.admitted; decide

theorem witness_CredentialHandsOver :
    (fobbed fob).canTake .k ∧ ((fobbed fob).slotAt 0).status = .active ∧ ((fobbed fob).slotAt 0).accepts 1001 ∧
    ((fobbed fob).slotAt 0).rights.doors = true ∧ ((fobbed fob).slotAt 0).rights.tailgate = true ∧
    (fobbed fob).seq.queue = [] ∧ (fobbed fob).crash.latch = false ∧ (fobbed fob).closures.fd.latch ≠ .ajar :=
  ⟨take rfl rfl _, rfl, ⟨by decide, .inl (by decide)⟩, rfl, rfl, rfl, rfl, by decide⟩

theorem witness_ComfortSession :
    comforting.canTake .k ∧ (comforting.slotAt 0).status = .active ∧ (comforting.slotAt 0).accepts 1001 ∧
    (comforting.slotAt 0).rights.comfort = true ∧ comforting.fobs.session = some ⟨0, .close, 2000⟩ ∧
    (fobbed fob).fobs.session = none ∧ (fobbed fob).seq.queue = [] ∧ (fobbed fob).crash.latch = false ∧
    (fobbed fob).closures.fd.latch ≠ .ajar ∧ comforting.resetLine = false :=
  ⟨take rfl rfl _, rfl, ⟨by decide, .inl (by decide)⟩, rfl, rfl, rfl, rfl, rfl, by decide, rfl⟩

/-- A new start of slot 0 over slot 3's session, whose run on a limited window it stops; and with the crash latch set, and
with FD AJAR. -/
theorem witness_ComfortSession_replaced :
    (∀ x, (comfortRun 3).fobs.session = some x → x.slot = 0 → x.dir ≠ .close) ∧
    (∀ x, comforting.fobs.session = some x → x.slot = 0 → x.dir ≠ .opening) ∧ (comfortRun 3).canTake .k ∧
    ((comfortRun 3).slotAt 0).accepts 1001 ∧ (comfortRun 3).seq.queue = [] ∧ comfortByte (comfortRun 3) .wfd = 0x00 ∧
    comfortByte ((comfortRun 3).setWin .wfd { (comfortRun 3).winRec .wfd with limited := true, pinchCount := 3 }) .wfd = 0x01 ∧
    (comfortRun 3).fobs.session.any (fun x => x.slot ≠ 0 && ((comfortRun 3).winRec .wfd).motion.heldRun.any (fun k =>
      k.holder = .comfortK x.slot)) = true ∧
    { comforting with crash := crashed.crash }.crash.latch = true ∧
    (comforting.setClosure .fd { sensed .locked with latch := .ajar }).closures.fd.latch = .ajar :=
  ⟨(by intro x h e; cases h; cases e), (by intro x h e; cases h; decide), take rfl rfl _, ⟨by decide, .inl (by decide)⟩, rfl,
    by decide, by decide, by decide, rfl, rfl⟩

theorem witness_CounterMovesForward :
    writesFobs base .heatTick = false ∧ exec .heatTick base = .next (after .heatTick base) ∧
    writesFobs (receiving [2, 1, 0x1A]) (.linkByteReceived .k 0) = false ∧
    writesFobs (receiving [2, 1, 0x1A]) (.linkByteReceived .b 0) = true ∧
    writesFobs (receiving [2, 1, 0x04]) (.linkByteReceived .b 0) = false ∧
    writesFobs (receiving [2, 1]) (.linkByteReceived .b 0x1A) = false ∧
    writesFobs base (.unknownKindRequest .k 1 0x1A []) = false ∧ writesFobs base (.fobWrite .k 1 []) = false ∧
    ((after (.credential .k 1 (credentialBytes 0 1256 .lock)) (fobbed fob)).slotAt 0).counter = 1256 ∧
    ahead 1256 1000 = 256 :=
  ⟨rfl, rfl, by decide⟩

theorem witness_KeylessTimers :
    base.resetLine = false ∧ (base.setTouch .fpLock (.waiting 900)).touch.get .fpLock = .waiting 900 ∧
    (base.setTouch .fpLock (.expired 900)).touch.get .fpLock = .expired 900 ∧
    ((fobbed fob).slotAt 0).candidate = some ⟨5000, 50000⟩ := by decide

theorem witness_ClaimWindow :
    (fobbed fob).canTake .k ∧ (fobbed fob).touch.get .fdOpen = .idle ∧
    ((fobbed fob).setTouch .fdOpen (.expired 900)).touch.get .fdOpen = .expired 900 ∧
    ((fobbed { fob with status := .empty }).setTouch .fdOpen (.waiting 900)).canTake .k ∧
    ((fobbed { fob with status := .empty }).setTouch .fdOpen (.waiting 900)).touch.get .fdOpen = .waiting 900 ∧
    (((fobbed { fob with rights := .none }).setTouch .fdOpen (.waiting 900)).slotAt 0).rights.passive = false ∧
    (((fobbed { fob with status := .suspended }).setTouch .fdOpen (.waiting 900)).slotAt 0).status = .suspended :=
  ⟨take rfl rfl _, rfl, rfl, take rfl rfl _, rfl, rfl, rfl⟩

theorem witness_ClaimServed :
    ((fobbed fob).setTouch .fpLock (.waiting 900)).canTake .k ∧
    (∃ d, ((fobbed fob).setTouch .fpLock (.waiting 900)).touch.get .fpLock = .waiting d) ∧
    fob.status = .active ∧ fob.rights.passive = true ∧ ahead 1000 fob.counter = 0 ∧ fob.accepts 1256 ∧
    ((fobbed fob).setTouch .fpLock (.waiting 900)).seq.queue = [] ∧
    ((fobbed fob).setTouch .fpLock (.waiting 900)).closures.fd.latch ≠ .ajar :=
  ⟨take rfl rfl _, ⟨_, rfl⟩, rfl, rfl, by decide, ⟨by decide, .inl (by decide)⟩, rfl, by decide⟩

/-- A touch line with its raw level HIGH and its timer run. -/
def touched (x : TouchSource) (level : Option Bool) : State :=
  { base with sensing := { base.sensing with touch := base.sensing.touch.set x (stageAt level true) } }

theorem witness_DebouncedTouch :
    (touched .fdOpen (some false)).resetLine = false ∧
    ((touched .fdOpen (some false)).sensing.touch.get .fdOpen).timer = some 900 ∧
    ((touched .fdOpen (some false)).sensing.touch.get .fdOpen).level = some false ∧
    ((touched .fdOpen none).sensing.touch.get .fdOpen).level ≠ some false ∧
    (touched .fdOpen (some false)).config.passive = true ∧
    { touched .fdOpen (some false) with config := { base.config with passive := false } }.config.passive = false ∧
    (touched .tgButton (some false)).closures.tg.lockSensed ≠ .unlocked ∧
    ((touched .tgButton (some false)).setClosure .tg
      { latch := .closed, lockSensed := .unlocked, lockGoal := .unlocked, confirmed := true, lastSource := .knob }).closures.tg.lockSensed =
        .unlocked ∧
    (∀ e, (touched .fdOpen (some false)).touch.get .fdOpen ≠ .waiting e) :=
  ⟨rfl, rfl, rfl, by decide, rfl, rfl, by decide, rfl, by intro e h; cases h⟩

theorem witness_ClaimWindow_touch :
    ((touched .fdOpen (some false)).setTouch .fdOpen (.waiting 900)).canTake .k ∧
    ((touched .fdOpen (some false)).setTouch .fdOpen (.waiting 900)).touch.get .fdOpen = .waiting 900 ∧
    touchEvent ((touched .fdOpen (some false)).setTouch .fdOpen (.waiting 900)) .fdOpen ∧
    touchEvent ((touched .tgButton (some false)).setTouch .tgButton (.waiting 900)) .tgButton ∧
    ((touched .fdOpen (some false)).setTouch .fdOpen (.waiting 900)).config.passive = true ∧
    (((fobbed fob).setTouch .fdOpen (.waiting 900)).slotAt 0).rights.passive = true :=
  ⟨take rfl rfl _, rfl, by unfold touchEvent; decide, by unfold touchEvent; decide, rfl, rfl⟩

/-! #### Closure lines -/

/-- `base` with other lines. -/
def lined (f : Sensing → Sensing) : State := { base with sensing := f base.sensing }

/-- A settled feed: its timer runs. -/
def feedAt (raw : α) (read : Bool) : Feed α := { raw, read, timer := some 900 }

theorem witness_RawLineChange :
    (some 1200 : Option Nat) = (if base.resetLine then none else some (base.now + 200)) ∧
    (none : Option Nat) = (if held.resetLine then none else some (held.now + 200)) := by decide

/-- FD's latch line has settled AJAR; the five goals are SUPERLOCKED (TG LOCKED). -/
def openedDoor : State :=
  { lined (fun x => { x with latch := x.latch.set .fd (feedAt .ajar true) }) with
    closures := ⟨sensed .superlocked, sensed .superlocked, sensed .superlocked, sensed .superlocked, sensed .locked⟩ }

theorem witness_LatchReading :
    openedDoor.resetLine = false ∧ (openedDoor.sensing.latch.get .fd).timer = some 900 ∧
    (openedDoor.sensing.latch.get .fd).read = true ∧ (openedDoor.closure .fd).latch ≠ .ajar ∧ openedDoor.mode = .superlocked ∧
    openedDoor.seq.queue = [] ∧ (base.sensing.latch.get .fd).read = false ∧ base.mode ≠ .superlocked ∧
    ((lined (fun x => { x with latch := x.latch.set .tg (feedAt .closed true) })).closure .tg).latch ≠ .closed ∧
    (openedDoor.setClosure .fd { sensed .locked with latch := .ajar } |>.closure .fd).latch =
      latchOf (openedDoor.sensing.latch.get .fd).raw := by decide

/-- FP's feedback has settled. -/
def feedback (pins : LockPins) (read : Bool) (r : ClosureRec) : State :=
  (lined (fun x => { x with feedback := x.feedback.set .fp (feedAt pins read) })).setClosure .fp r

theorem witness_LockFeedback :
    ((feedback ⟨true, false⟩ false .reset).sensing.feedback.get .fp).timer = some 900 ∧
    ((feedback ⟨true, false⟩ false .reset).sensing.feedback.get .fp).read = false ∧
    (feedback ⟨true, false⟩ false .reset).opAt (.l .fp) = none ∧ (feedback ⟨true, false⟩ false .reset).crash.latch = false ∧
    ((feedback ⟨true, false⟩ false .reset).setOp (.l .fp) (some waitingOp)).opAt (.l .fp) ≠ none ∧
    ((feedback ⟨true, true⟩ true (sensed .locked)).sensing.feedback.get .fp).read = true ∧
    ((feedback ⟨true, true⟩ true (sensed .locked)).closure .fp).lockSensed ≠ feedbackReading .fp ⟨true, true⟩ ∧
    { feedback ⟨true, true⟩ true (sensed .locked) with crash := crashed.crash }.crash.latch = true ∧
    ((feedback ⟨true, false⟩ true (sensed .locked)).closure .fp).lockSensed = feedbackReading .fp ⟨true, false⟩ := by decide

/-- RD's child line has settled ENGAGED. -/
def childLine (read : Bool) : State := lined (fun x => { x with child := x.child.set .rd (feedAt .engaged read) })

theorem witness_ChildFeedback :
    ((childLine false).sensing.child.get .rd).timer = some 900 ∧ ((childLine false).sensing.child.get .rd).read = false ∧
    (childLine false).opAt (.c .rd) = none ∧ ((childLine true).sensing.child.get .rd).read = true ∧
    ((childLine true).sensing.child.get .rd).raw ≠ ((childLine true).childOf .rd).sensed ∧
    ((childLine true).setOp (.c .rd) (some (created (.child .released) 2))).opAt (.c .rd) ≠ none := by decide

/-- A side closure's handle has been pulled. -/
def pulled (a : Side) : State := lined (fun x => { x with handle := x.handle.set a (stageAt (some false) true) })

theorem witness_HandlePull :
    ((pulled .fd).sensing.handle.get .fd).timer = some 900 ∧ ((pulled .fd).sensing.handle.get .fd).level = some false ∧
    ((pulled .fd).sensing.handle.get .fd).raw = true ∧ ((pulled .fd).closure .fd).lockSensed ≠ .superlocked ∧
    (pulled .fd).crash.latch = false ∧ (pulled .fd).seq.queue = [] ∧ ((pulled .fd).closure .fd).confirmed = false ∧
    (pulled .rd).childs.rd.goal ≠ .engaged ∧ (pulled .rp).childs.rp.goal ≠ .engaged ∧
    ((pulled .fp).setClosure .fp (sensed .superlocked) |>.closure .fp).lockSensed = .superlocked ∧
    ((pulled .fp).setClosure .fp (sensed .unlocked) |>.closure .fp).confirmed = true ∧
    ((pulled .rd).setChild .rd { goal := .engaged, sensed := .engaged, confirmed := true }).childs.rd.goal = .engaged := by
  decide

theorem witness_HandlePull_allUnlocked :
    ∀ c, ({ pulled .fd with closures := .all (sensed .unlocked) }.closure c).lockGoal = .unlocked ∧
      ({ pulled .fd with closures := .all (sensed .unlocked) }.closure c).confirmed = true := by
  intro c; cases c <;> exact ⟨rfl, rfl⟩

/-- A key contact has closed, with the other contact's level. -/
def keyed (other : Option Bool) : State :=
  lined (fun x => { x with keyLock := stageAt (some false) true, keyUnlock := stageAt other true })

theorem witness_KeyContacts :
    (keyed (some false)).sensing.keyLock.timer = some 900 ∧ (keyed (some false)).sensing.keyLock.level = some false ∧
    (keyed (some false)).sensing.keyLock.raw = true ∧ (keyed (some false)).sensing.keyUnlock.level ≠ some true ∧
    (keyed (some false)).crash.latch = false ∧ (keyed (some false)).closures.fd.latch ≠ .ajar ∧
    (keyed (some false)).seq.queue = [] ∧ (keyed (some true)).sensing.keyUnlock.level = some true ∧
    (keyed (some false)).sensing.keyUnlock.timer = some 900 ∧ (keyed (some false)).sensing.keyUnlock.level = some false ∧
    (keyed (some false)).sensing.keyLock.level ≠ some true := by decide

/-- A key lock within 3 s of the last one, and one that is not. -/
theorem witness_KeyContacts_repeat :
    ∃ r, ((keyed (some false)).setRepeat (some ⟨.key, .lock, 1000⟩)).seq.repeatRec = some r ∧ r.origin = .key ∧
      r.action = .lock ∧ 31000 ≤ r.time + 30000 ∧ ¬ 31001 ≤ r.time + 30000 :=
  ⟨_, rfl, rfl, rfl, by decide, by decide⟩

/-! #### Lock sequencer and crash response -/

/-- The adjacency clause of the queue law, checked. -/
def adjacent (q : List Entry) : Bool :=
  (List.range q.length).all (fun i => match q[i]?, q[i + 1]? with
    | some e, some f => e.running || f.running || decide (e.kind ≠ f.kind)
    | _, _ => true)

theorem queueLaw_of {q : List Entry} (h : q.length ≤ 4) (ht : ∀ e ∈ q.tail, e.running = false) (ha : adjacent q = true) :
    QueueLaw q := by
  refine ⟨h, ht, fun i e f he hf hr hr' => ?_⟩
  have hi : i < q.length := (List.getElem?_eq_some_iff.mp he).1
  have := List.all_eq_true.mp ha i (List.mem_range.mpr hi)
  rw [he, hf] at this
  simpa [hr, hr'] using this

/-- An entry of port B. -/
def entryB (k : CmdKind) (running : Bool) : Entry := { portEntry k .b .b 7 false with running }

/-- A full queue with its head RUNNING. -/
def fullQueue : List Entry :=
  [entryB .unlockAll true, entryB (.childSet .rd .engaged) false, entryB .lockAll false, entryB .superlockAll false]

theorem lockLaw_of {q : List Entry} (h : QueueLaw q) : LockLaw (queued q) := ⟨h, fun x => nomatch x⟩

theorem witness_LockRequests :
    base.canTake .b ∧ base.canTake .d ∧ base.seq.queue = [] ∧ crashed.canTake .b ∧ crashed.crash.latch = true ∧
    base.mode = .allOpen ∧ openedDoor.mode = .superlocked ∧
    { base with closures := .all (sensed .locked) }.mode = .locked :=
  ⟨take rfl rfl _, take rfl rfl _, rfl, take rfl rfl _, rfl, by decide, by decide, by decide⟩

theorem witness_QueuePlacement :
    (queued fullQueue).canTake .b ∧ (queued fullQueue).crash.latch = false ∧ LockLaw (queued fullQueue) ∧
    (∀ e ∈ (queued fullQueue).seq.queue, e.running = false → e.kind.cls ≠ .unlock) ∧ fullQueue.length = 4 ∧
    (∃ e ∈ (queued fullQueue).seq.queue, e.running = false ∧ e.kind.cls = .lock) ∧
    QueueLaw (fullQueue.filter (fun e => e.running || e.kind.cls ≠ .lock)) :=
  ⟨take rfl rfl _, rfl, lockLaw_of (queueLaw_of (by decide) (by decide) (by decide)), by decide, rfl,
    ⟨entryB .lockAll false, by decide, rfl, rfl⟩, queueLaw_of (by decide) (by decide) (by decide)⟩

theorem witness_CommandStart :
    (queued [entryB .unlockAll false]).seq.queue.head? = some (entryB .unlockAll false) ∧
    (queued [entryB .unlockAll false]).resetLine = false ∧ (queued [entryB .unlockAll false]).mon.temp ≠ .hot ∧
    (∀ a, (queued [entryB .unlockAll false]).opAt a = none) ∧ (entryB .unlockAll false).running = false ∧
    (entryB .superlockAll false).kind.lockClass = true ∧ (entryB .superlockAll false).kind ≠ .releaseTailgate ∧
    (entryB .superlockAll false).source ≠ .tgButton ∧ (∃ c, (crashed.opAt (.l c)).any (·.crash) = true) :=
  ⟨rfl, rfl, by decide, base_noOps, rfl, rfl, by decide, by decide, .fd, rfl⟩

/-- The conditions of a SUPERLOCK_ALL, and of a RELEASE_TAILGATE, met and failed. -/
theorem witness_CommandStart_conditions :
    (¬ ∃ c ∈ Closure.list, (openedDoor.closure c).latch ≠ .closed) ∧ openedDoor.win.mode = .parked ∧
    (∃ c ∈ Closure.list, (base.closure c).latch ≠ .closed) ∧ (base.setClosure .tg (sensed .unlocked)).closures.tg.lockGoal = .unlocked ∧
    (base.setClosure .tg (sensed .unlocked)).closures.tg.lockSensed = .unlocked ∧
    (base.setClosure .tg (sensed .unlocked)).closures.tg.latch ≠ .ajar ∧
    (base.setClosure .tg (sensed .locked)).closures.tg.lockGoal ≠ .unlocked ∧ openedDoor.seq.queue = [] := by decide

/-- An operation with a heat count of FD's channel. -/
def waitingFd (heat : Nat) : State :=
  { (queued [entryB .lockAll true]).setOp (.l .fd) (some waitingOp) with
    seq := { ((queued [entryB .lockAll true]).setOp (.l .fd) (some waitingOp)).seq with heatL := base.seq.heatL.set .fd heat } }

theorem witness_SlotGrant :
    (waitingFd 159).heldSlots < 3 ∧
    Actuator.list.find? (fun a => ((waitingFd 159).opAt a).any Op.waiting) = some (.l .fd) ∧
    (waitingFd 159).opAt (.l .fd) = some waitingOp ∧ ((waitingFd 159).chan (.act (.l .fd))).withdrawn = false ∧
    decide ((if (waitingFd 159).mon.temp = .normal then 160 else 96) ≤ (waitingFd 159).seq.heatL.get .fd) = false ∧
    decide ((if (waitingFd 160).mon.temp = .normal then 160 else 96) ≤ (waitingFd 160).seq.heatL.get .fd) = true ∧
    (waitingFd 159).mon.supply ≠ .cut ∧
    3 ≤ ((((base.setOp (.l .fd) (some { waitingOp with slot := true })).setOp (.l .fp) (some { waitingOp with slot := true })).setOp
      (.l .rd) (some { waitingOp with slot := true })).heldSlots) := by decide

theorem witness_SlotGrant_none : ∀ a, (base.opAt a).any Op.waiting = false := by
  intro a; rw [base_noOps a]; rfl

/-- FD's operation in a phase. -/
def operating (ph : OpPhase) (retries : Nat) (r : ClosureRec) : State :=
  ((queued [entryB .lockAll true]).setOp (.l .fd)
    (some { waitingOp with phase := ph, slot := true, retriesLeft := retries, timer := some 900 })).setClosure .fd r

theorem witness_PulseAndSettle :
    (operating .drive 2 .reset).opAt (.l .fd) =
      some { waitingOp with phase := .drive, slot := true, retriesLeft := 2, timer := some 900 } ∧
    waitingOp.crash = false ∧ (operating .drive 2 .reset).resetLine = false ∧
    sensedIs (operating .settle 0 (sensed .locked)) (.l .fd) (.lock .locked) = true ∧
    sensedIs (operating .settle 2 (sensed .unlocked)) (.l .fd) (.lock .locked) = false ∧
    sensedIs (operating .settle 0 (sensed .unlocked)) (.l .fd) (.lock .locked) = false ∧
    (base.setOp .t1 (some { created .release 0 with phase := .drive, slot := true, timer := some 900 })).opAt .t1 =
      some { created .release 0 with phase := .drive, slot := true, timer := some 900 } := by decide

theorem witness_HeatAndRelock :
    base.resetLine = false ∧ (base.setRelock (some 900)).seq.relock = some 900 ∧ crashed.crash.latch = true ∧
    ((queued fullQueue).setRelock (some 900)).seq.queue.length = 4 ∧
    (∀ e ∈ fullQueue, e.running = false → e.kind.cls ≠ .unlock) ∧
    (∀ e, fullQueue.getLast? = some e → e.running = true ∨ e.kind ≠ .lockAll) ∧
    (base.setRelock (some 900)).seq.queue.length < 4 ∧ (base.setRelock (some 900)).closures.fd.latch ≠ .ajar ∧
    (∀ e ∈ (base.setRelock (some 900)).seq.queue, e.running = false → e.kind.cls ≠ .unlock) ∧
    (∀ e, (base.setRelock (some 900)).seq.queue.getLast? = some e → e.running = true ∨ e.kind ≠ .lockAll) :=
  ⟨rfl, rfl, rfl, rfl, by decide, by intro e h; cases h; exact .inr (by decide), by decide, by decide, by decide,
    by intro e h; cases h⟩

/-- FD's crash operation in SETTLE. -/
def crashSettling (retries : Nat) (r : ClosureRec) : State :=
  (crashed.setOp (.l .fd) (some { crashPulse retries 1000 with phase := .settle })).setClosure .fd r

theorem witness_CrashDetectorAndOperations :
    base.resetLine = false ∧ held.resetLine = true ∧
    { base with crash := { crashed.crash with detector := .releasing, timer := some 1020 } }.crash.detector = .releasing ∧
    crashed.opAt (.l .fd) = some (crashPulse 4 1000) ∧ (crashPulse 4 1000).crash = true ∧
    (crashPulse 4 1000).phase = .drive ∧ (crashPulse 4 1000).timer = some 4000 ∧
    ((crashSettling 4 (sensed .unlocked)).closure .fd).lockSensed = .unlocked ∧
    ((crashSettling 4 (sensed .locked)).closure .fd).lockSensed ≠ .unlocked ∧
    ((crashSettling 0 (sensed .locked)).opAt (.l .fd)).map (·.retriesLeft) = some 0 := by decide

theorem slotLaw_of {s : State} (h : s.heldSlots ≤ 3) (ho : ∀ a, OpLaw s a)
    (hc : ∀ a, (s.opAt a).all (·.crash) = true) : SlotLaw s := by
  refine ⟨h, ho, fun a o h h' => ?_⟩
  have := hc a; rw [h] at this; simp [h'] at this

theorem witness_CrashEvents :
    crashing.resetLine = false ∧ crashing.crash.detector = .asserting ∧ crashing.crash.timer = some 1000 ∧
    SlotLaw crashing ∧ WindowLaw crashing ∧ crashing.crash.latch = false ∧ QueueLaw crashing.seq.queue ∧
    QueueLaw (childEntries crashing.seq.queue) :=
  ⟨rfl, rfl, rfl, slotLaw_of (by decide) base_opLaw (by intro a; rcases a with c | c | _ <;> (try cases c) <;> rfl),
    base_windowLaw, rfl, base_lockLaw.1, base_lockLaw.1⟩

/-- A second crash event, with FD's crash operation in flight. -/
def crashingAgain : State := { crashed with crash := { crashed.crash with detector := .asserting, timer := some 1000 } }

theorem witness_CrashEvents_again :
    crashingAgain.crash.detector = .asserting ∧ crashingAgain.crash.latch = true ∧ SlotLaw crashingAgain ∧
    WindowLaw crashingAgain ∧ LockLaw crashingAgain ∧ crashingAgain.opAt (.l .fp) = none ∧
    (crashingAgain.closure .fp).lockSensed ≠ .unlocked ∧ QueueLaw (childEntries crashingAgain.seq.queue) :=
  ⟨rfl, rfl, slotLaw_of (by decide) crashed_opLaw (by intro a; rcases a with c | c | _ <;> (try cases c) <;> rfl),
    crashed_windowLaw, crashed_lockLaw, rfl, by decide, base_lockLaw.1⟩

theorem witness_CrashEvents_clear :
    base.canTake .b ∧ base.crash.detector = .released ∧ crashed.canTake .b ∧ crashed.crash.detector ≠ .released ∧
    { crashed with crash := { base.crash with latch := true } }.canTake .b ∧
    { crashed with crash := { base.crash with latch := true } }.crash.latch = true :=
  ⟨take rfl rfl _, rfl, take rfl rfl _, by decide, take rfl rfl _, rfl⟩

/-- The first crash event on a queue with lock-class commands of port B. -/
theorem witness_CrashEvents_queue :
    SlotLaw (crashing.setQueue fullQueue) ∧ QueueLaw (crashing.setQueue fullQueue).seq.queue ∧
    QueueLaw (childEntries (crashing.setQueue fullQueue).seq.queue) ∧
    (∃ e ∈ (crashing.setQueue fullQueue).seq.queue, e.running = false ∧ e.kind.lockClass = true ∧ e.port = some .b) ∧
    WindowLaw (crashing.setQueue fullQueue) ∧ (crashing.setQueue fullQueue).crash.latch = false :=
  ⟨slotLaw_of (by decide) base_opLaw (by intro a; rcases a with c | c | _ <;> (try cases c) <;> rfl),
    queueLaw_of (by decide) (by decide) (by decide), queueLaw_of (by decide) (by decide) (by decide),
    ⟨entryB .lockAll false, by decide, rfl, rfl, rfl⟩, base_windowLaw, rfl⟩

/-! #### Windows -/

/-- A MANUAL and an AUTO run of PANEL, and a run that LOCAL holds. -/
def manualUp : RunRec := { dir := .up, kind := .manual, target := 0, holder := .panel }
def autoDown : RunRec := { dir := .down, kind := .auto, target := 1600, holder := .panel }
def localUp : RunRec := { dir := .up, kind := .manual, target := 0, holder := .localSw }

/-- The front driver window in a motion, with window power. -/
def moving (m : Motion) (p : Int) : State :=
  { running upRun p with
    win := { (running upRun p).win with
      mode := .run, recs := (running upRun p).win.recs.set .wfd { runAt upRun p with motion := m } } }

theorem witness_WindowSwitch :
    base.canTake .d ∧ (SwitchPos.up ≠ .neutral) ∧ crashed.crash.latch = true ∧ (crashed.winRec .wfd).motion = .inhibited ∧
    (base.win.mode = .parked ∧ base.win.retained = none) ∧ (moving .idle 500).canTake .d ∧
    (moving .idle 500).win.mode ≠ .parked ∧ ((moving .idle 500).winRec .wfd).awaitPanel = false ∧
    ((moving .idle 500).winRec .wfd).panelPosition ≠ .up ∧
    ((moving (.reverse 900) 500).winRec .wfd).motion.holder = some .reversal ∧
    ((moving .idle 500).winRec .wfd).motion = .idle ∧ startsAtBottom (moving .idle 500) .wfd (posDir .down) = false ∧
    startsAtBottom (moving .idle 1600) .wfd (posDir .down) = true ∧ startsAtBottom (moving .idle 1599) .wfd (posDir .down) = false :=
  ⟨take rfl rfl _, by decide, rfl, rfl, ⟨rfl, rfl⟩, take rfl rfl _, by decide⟩

theorem witness_WindowSwitch_runs :
    ((moving (.run manualUp) 500).winRec .wfd).motion = .run manualUp ∧ manualUp.kind = .manual ∧
    manualUp.dir = posDir .upAuto ∧ manualUp.dir ≠ posDir .down ∧
    ((moving (.dwell (.run manualUp)) 500).winRec .wfd).motion.heldRun = some manualUp ∧
    ((moving (.dwell (.run manualUp)) 500).winRec .wfd).motion ≠ .run manualUp ∧
    ((moving (.run autoDown) 500).winRec .wfd).motion.heldRun = some autoDown ∧ autoDown.kind ≠ .manual ∧
    autoDown.holder = .panel ∧ autoDown.dir = posDir .down ∧ SwitchPos.downAuto ≠ .neutral ∧ posDir .downAuto = posDir .down ∧
    ((moving (.run manualUp) 500).winRec .wfd).motion.heldRun.any (fun k => k.kind = .manual && k.holder = .panel) = true := by
  decide

theorem witness_WindowSwitch_refresh :
    base.resetLine = false ∧
    ((base.setWin .wfd { runAt manualUp 500 with panelTimer := some 900 }).winRec .wfd).panelTimer = some 900 := by decide

/-- A local switch that has settled in a position, on a window with power. -/
def switched (o : OtherSide) (level : Option SwitchPos) (raw : SwitchPos) : State :=
  { moving .idle 500 with sensing := { base.sensing with
      switch := base.sensing.switch.set o { raw, level, timer := some 900 } } }

theorem witness_LocalSwitchAndLockout :
    (switched .fp (some .neutral) .up).resetLine = false ∧
    ((switched .fp (some .neutral) .up).sensing.switch.get .fp).timer = some 900 ∧
    ((switched .fp (some .neutral) .up).sensing.switch.get .fp).level = some .neutral ∧
    ((switched .fp (some .neutral) .up).sensing.switch.get .fp).raw ≠ .neutral ∧
    (switched .fp (some .neutral) .up).crash.latch = false ∧ (switched .fp (some .neutral) .up).win.mode ≠ .parked ∧
    ((switched .fp (some .neutral) .up).winRec .wfp).motion = .idle ∧
    ((switched .fp none .up).sensing.switch.get .fp).level = none ∧
    ((switched .fp (some .up) .neutral).sensing.switch.get .fp).raw = .neutral ∧
    { switched .rd (some .neutral) .up with
      win := { (moving .idle 500).win with rearLockout := true } }.win.rearLockout = true ∧
    (base.setChild .rd { goal := .engaged, sensed := .engaged, confirmed := true }).childs.rd.goal = .engaged := by decide

theorem witness_LocalSwitchAndLockout_lockout :
    childRun.canTake .d ∧ (childRun.winRec .wrd).motion.heldRun.any (·.holder = .localSw) = true :=
  ⟨take rfl rfl _, by decide⟩

theorem witness_VehicleModeAndRetainedPower :
    (moving (.run manualUp) 500).canTake .b ∧ (moving (.run manualUp) 500).win.mode = .run ∧
    { moving (.run manualUp) 500 with
      win := { (moving (.run manualUp) 500).win with mode := .parked, retained := some 900 } }.win.retained = some 900 ∧
    { moving (.run manualUp) 500 with
      win := { (moving (.run manualUp) 500).win with mode := .accessory, retained := some 900 } }.win.mode ≠ .parked ∧
    ((moving (.run manualUp) 500).winRec .wfd).motion.heldRun.any (fun k => k.holder = .panel || k.holder = .localSw) = true :=
  ⟨take rfl rfl _, rfl, rfl, by decide, by decide⟩

theorem witness_Comfort :
    (moving .idle 500).canTake .b ∧ comfortByte (moving .idle 500) .wfd = 0x00 ∧ comfortByte base .wfd = 0x01 ∧
    comfortByte crashed .wfd = 0x08 ∧ comfortByte (moving (.run manualUp) 500) .wfd = 0x0D ∧
    ((moving .idle 500).winRec .wfd).motion = .idle ∧ startsAtBottom (moving .idle 1600) .wfd .down = true ∧
    comfortByte (moving (.run { upRun with holder := .comfortB }) 500) .wfd = 0x00 ∧
    ((moving (.run { upRun with holder := .comfortB }) 500).winRec .wfd).motion.heldRun = some { upRun with holder := .comfortB } ∧
    comfortByte (moving (.dwell (.run { upRun with holder := .comfortB })) 500) .wfd = 0x00 :=
  ⟨take rfl rfl _, by decide⟩

theorem witness_RipplePulse :
    (running upRun (-64)).resetLine = false ∧ ((running upRun (-64)).winRec .wfd).normalised = true ∧
    ((running upRun (-64)).winRec .wfd).position = some (-64) ∧ ((running upRun (-63)).winRec .wfd).position = some (-63) ∧
    ((running upRun (-64)).winRec .wfd).motion.drivenDir = some .up ∧
    ((running autoDown 1599).winRec .wfd).motion = .run autoDown ∧ ((keptCal (running autoDown 1599) .wfd).l : Int) ≤ min 4095 (1599 + 1) ∧
    ¬ ((keptCal (running autoDown 1598) .wfd).l : Int) ≤ min 4095 (1598 + 1) ∧
    ((moving (.reverse 900) 899).winRec .wfd).motion = .reverse 900 ∧ (base.winRec .wfd).normalised = false ∧
    ((moving .idle 4095).winRec .wfd).position = some 4095 := by decide

theorem witness_Stalls :
    ((running upRun 8).winRec .wfd).stall = some 900 ∧ ((running upRun 8).winRec .wfd).startWindow = none ∧
    ((running upRun 8).winRec .wfd).motion.drivenDir = some .up ∧ (keptCal (running upRun 8) .wfd).pz = 900 ∧
    (8 : Int) ≤ 8 ∧ ((running upRun 9).winRec .wfd).position = some 9 ∧ ((running upRun 900).winRec .wfd).position = some 900 ∧
    ((running upRun 901).winRec .wfd).position = some 901 ∧ (keptCal (running autoDown 1584) .wfd).l ≤ (1584 : Int) + 16 ∧
    (1583 : Int) + 16 < (keptCal (running autoDown 1583) .wfd).l ∧ ((moving .idle 500).winRec .wfd).motion.drivenDir = none ∧
    ((base.setWin .wfd { WindowRec.reset with motion := .run manualUp, stall := some 900 }).winRec .wfd).normalised = false ∧
    ((base.setWin .wfd { runAt upRun 8 with startWindow := some 900, stallReached := true }).winRec .wfd).startWindow = some 900 ∧
    ((base.setWin .wfd { runAt upRun 8 with startWindow := some 900, stallReached := true }).winRec .wfd).stallReached = true := by
  decide

/-- The front driver window in a DWELL. -/
def dwelling (p : Pending) (limited : Bool) : State :=
  base.setWin .wfd { runAt upRun 500 with motion := .dwell p, dwell := some 900, limited, pinchCount := if limited then 3 else 0 }

theorem witness_DwellAndBrake :
    (dwelling (.run upRun) true).resetLine = false ∧ ((dwelling (.run upRun) true).winRec .wfd).dwell = some 900 ∧
    ((dwelling (.run upRun) true).winRec .wfd).motion = .dwell (.run upRun) ∧ upRun.kind ≠ .comfort ∧
    ((dwelling (.run { upRun with kind := .comfort }) true).winRec .wfd).limited = true ∧
    ((dwelling (.run { upRun with kind := .comfort }) false).winRec .wfd).limited = false ∧
    ((dwelling (.reverse 820) false).winRec .wfd).motion = .dwell (.reverse 820) ∧
    ((base.setWin .wfd { runAt upRun 500 with motion := .idle, brake := some 900 }).winRec .wfd).brake = some 900 ∧
    startsAtBottom (dwelling (.run autoDown) false) .wfd .down = false := by decide

/-! #### Samples: the worked case 7.11.1 -/

/-- The run copy of 7.11.1. -/
def caseCal : Cal := { Cal.default with l := 1000, pz := 700, zs := 5, s := 2, t := 240, d := 10, coincidence := .effortAndSpeed }

/-- The state of 7.11.1, with the overcurrent count and the last interval given. -/
def caseState (count last : Nat) : State :=
  (((base.setWin .wrp (runAt localUp 612)).setChan (.w .wrp)
      { ChannelRec.reset with drive := .onFirst, driveStart := some 500, ocCount := count }).setPinch .wrp
    { filter := some 6400, acc := 230, lastInterval := last, pulseBase := 970, cal := some caseCal, lastTeff := none }).setRefs .wrp
    { RefState.reset with zones := RefState.reset.zones.set 19 (some ⟨380, 40⟩) } |> fun s =>
  { s with config := { s.config with gain := s.config.gain.set 10 16890 } }

/-- 7.11.1: the sample's values. -/
theorem test_7_11_1_values :
    sampleOf (caseState 0 52) .wrp 412 655 =
      { ic := 425, effort := 406, acc := 246, position := some 612, speed := true, phase := .run } ∧
    filtered (some 6400) 425 2 = 6500 ∧ pinchDeclared (caseState 0 52) .wrp (sampleOf (caseState 0 52) .wrp 412 655) = true := by
  decide

/-- 7.11.1: the pinch is taken with the reverse target 932 and PINCH is raised; 7.11.2: with last_interval 48 it is not. -/
theorem test_WINDOW_SAMPLE_pinch :
    ((after (.windowSample .wrp 412 655) (caseState 0 52)).winRec .wrp).motion = .dwell (.reverse 932) ∧
    ((after (.windowSample .wrp 412 655) (caseState 0 52)).trace.rings.get .wrp).map (fun x => (x.ic, x.effort, x.acc, x.speed)) =
      [(425, 406, 246, true)] ∧
    ((after (.windowSample .wrp 412 655) (caseState 0 48)).winRec .wrp).motion = .run localUp ∧
    ((after (.windowSample .wrp 412 655) (caseState 0 48)).pinchOf .wrp).acc = 246 := by decide

/-- 7.11.3, samples 1, 2, 3 and 11, and the rise from 6,400. -/
theorem test_7_11_3_filter :
    filtered (some 6437) 400 2 = 6428 ∧ filtered (some 6428) 400 2 = 6421 ∧ filtered (some 6421) 400 2 = 6416 ∧
    filtered (some 6402) 400 2 = 6402 ∧ filtered (some 6500) 425 2 = 6575 := by decide

theorem caseState_rangeLaw : RangeLaw (caseState 0 52) := by
  have hz : ∀ w, ∀ z : Fin 32, ((caseState 0 52).refsOf w).zones[z].all (· = ⟨380, 40⟩) = true := by
    intro w; cases w <;> decide
  refine ⟨fun w => by cases w <;> (unfold CalLaw; decide), by decide, fun w => ⟨?_, ?_, ?_, ?_, ?_, ?_, ?_⟩⟩
  · intro c h; cases w <;> cases h; unfold CalLaw; decide
  · intro f h; cases w <;> cases h; decide
  · cases w <;> decide
  · cases w <;> decide
  · intro z x hx
    have := hz w z; rw [hx] at this
    have hx : x = ⟨380, 40⟩ := by simpa using this
    rw [hx]; unfold ZoneLaw; decide
  · cases w <;> decide
  · intro k h; cases w <;> cases h

theorem witness_WindowSample :
    ((caseState 0 52).winRec .wrp).motion.drivenDir ≠ none ∧ RangeLaw (caseState 0 52) ∧
    ((caseState 0 52).winRec .wfd).motion.drivenDir = none ∧
    pinchDeclared (caseState 0 52) .wrp (sampleOf (caseState 0 52) .wrp 412 655) = true ∧
    pinchDeclared (caseState 0 48) .wrp (sampleOf (caseState 0 48) .wrp 412 655) = false ∧ (caseState 0 52).resetLine = false := by
  refine ⟨by decide, caseState_rangeLaw, by decide, by decide, by decide, by decide⟩

/-- The fifth clamped sample (R122), which also declares a pinch, and one that declares none. -/
theorem witness_WindowSample_jam :
    RangeLaw (caseState 4 52) ∧ (ocEnabled (caseState 4 52) (.w .wrp) && decide (5 ≤ countAfter 4 (1023 ≤ 1023))) = true ∧
    ((caseState 4 52).chan (.w .wrp)).withdrawn = false ∧
    pinchDeclared (caseState 4 52) .wrp (sampleOf (caseState 4 52) .wrp 1023 655) = true ∧
    pinchDeclared (caseState 4 0) .wrp (sampleOf (caseState 4 0) .wrp 1023 655) = false ∧
    countAfter 3 (1023 ≤ 1023) = 4 ∧ countAfter 4 (1023 ≤ 1022) = 0 :=
  ⟨caseState_rangeLaw, by decide, by decide, by decide, by decide, by decide, by decide⟩

/-! #### Window context and trace store -/

theorem witness_WindowRestoreAndForget :
    base.canTake .b ∧ 0 < 4160 ∧ 4159 < 4160 ∧ (base.winRec .wfd).motion = .idle ∧ (base.winRec .wfd).normalised = false ∧
    ((moving .idle 500).winRec .wfd).normalised = true ∧ ((moving (.run upRun) 500).winRec .wfd).motion.running = true ∧
    1 ≤ [(0 : Byte)].length ∧ (List.replicate 44 (0 : Byte)).length ≤ 44 ∧ base.staging = none ∧
    { base with staging := some ⟨3, 1, [0]⟩ }.staging = some ⟨3, 1, [0]⟩ ∧
    { base with staging := some ⟨3, 2, [0]⟩ }.staging = some ⟨3, 2, [0]⟩ :=
  ⟨take rfl rfl _, by decide⟩

/-- Zones of a restore: zones 0 and 5. -/
def someZones : Vector (Option ZoneRef) 32 := (RefState.reset.zones.set 0 (some ⟨2047, 1⟩)).set 5 (some ⟨530, 60⟩)

/-- A restore in one segment, and in two of which the first is staged. -/
theorem witness_WindowRestoreAndForget_zones :
    (∀ (z : Fin 32) x, someZones[z] = some x → ZoneLaw x) ∧
    ([] ++ ([(0 : Byte), 0, 0, 12] ++ zonesShown RefState.reset.zones) =
      [BitVec.ofNat 8 (Window.list.idxOf Window.wfd)] ++ i16 (((64 : Nat) : Int) - 64) ++ [12] ++ zonesShown RefState.reset.zones) ∧
    ([(0 : Byte), 0, 0, 12] ++ zonesShown RefState.reset.zones).length ≤ 44 ∧
    ([(0 : Byte), 1, 2] ++ ([(12 : Byte)] ++ zonesShown someZones) =
      [BitVec.ofNat 8 (Window.list.idxOf Window.wfd)] ++ i16 (((322 : Nat) : Int) - 64) ++ [12] ++ zonesShown someZones) ∧
    1 ≤ ([(12 : Byte)] ++ zonesShown someZones).length ∧ ([(12 : Byte)] ++ zonesShown someZones).length ≤ 44 ∧
    { base with staging := some ⟨2, 1, [0, 1, 2]⟩ }.staging = some ⟨2, 2 - 1, [0, 1, 2]⟩ := by
  refine ⟨fun z x h => ?_, by decide, by decide, by decide, by decide, by decide, rfl⟩
  have hz : ∀ z : Fin 32, someZones[z].all (fun x => x = ⟨2047, 1⟩ ∨ x = ⟨530, 60⟩) = true := by decide
  have := hz z; rw [h] at this
  rcases (by simpa using this : x = ⟨2047, 1⟩ ∨ x = ⟨530, 60⟩) with rfl | rfl <;> (unfold ZoneLaw; decide)

/-- A record of the front driver window. -/
def record (sequence : Nat) : TraceRec :=
  { sequence, kind := .requested, window := .wfd, timeTag := 5, position := some 500, teff := 400
    pre := [{ ic := 425, effort := 406, acc := 246, position := some 612, speed := true, phase := .run }], post := [] }

/-- A running window with a FILLING record in buffer 1 and a COMPLETE one in buffer 0, under read from part 1. -/
def traced : State :=
  { running upRun 500 with
    trace := { TraceStore.reset with
      buffers := (TraceStore.reset.buffers.set 0 (.complete (record 6) .eight)).set 1 (.filling (record 7))
      captures := [0, 1], sequence := 8, cursor := some ⟨0, 1⟩ } }

theorem traced_traceLaw : TraceLaw traced := by
  have h0 : traced.bufferAt 0 = .complete (record 6) .eight := by decide
  have h1 : traced.bufferAt 1 = .filling (record 7) := by decide
  have hr : ∀ i, i ≠ 0 → i ≠ 1 → traced.bufferAt i = .free := by decide
  have hf : ∀ i r, traced.bufferAt i = .filling r → i = 1 ∧ r = record 7 := by
    intro i r h
    by_cases a : i = 0
    · rw [a, h0] at h; cases h
    by_cases b : i = 1
    · rw [b, h1] at h; cases h; exact ⟨b, rfl⟩
    · rw [hr i a b] at h; cases h
  refine ⟨fun w => by cases w <;> decide, by decide, by decide, ?_, ?_, ?_, ?_⟩
  · intro i r h; obtain ⟨rfl, rfl⟩ := hf i r h; decide
  · intro i j r r' h h' _; rw [(hf i r h).1, (hf j r' h').1]
  · intro i r x h
    by_cases a : i = 0
    · rw [a, h0] at h; cases h; decide
    by_cases b : i = 1
    · rw [b, h1] at h; cases h
    · rw [hr i a b] at h; cases h
  · intro c h; cases h; decide

theorem witness_TraceRequests :
    traced.canTake .b ∧ TraceLaw traced ∧ (traced.winRec .wfd).motion.drivenDir ≠ none ∧
    (base.winRec .wfd).motion.drivenDir = none ∧
    (List.finRange 8).any (fun i => match traced.bufferAt i with | .filling r => r.window = .wfd | _ => false) = true ∧
    traced.config.overlapAccept = false ∧ traced.trace.cursor = some ⟨0, 1⟩ ∧
    traced.bufferAt 0 = .complete (record 6) .eight ∧ 1 + ((record 6).pre.length + (record 6).post.length + 3) / 4 = 2 ∧
    TraceLaw { traced with trace := { traced.trace with cursor := none } } ∧
    { traced with trace := { traced.trace with cursor := none } }.canTake .b ∧
    ({ traced with trace := { traced.trace with cursor := none } }.trace.captures.find? (fun i =>
      match traced.bufferAt i with | .complete _ _ => true | _ => false)).map (·, 0) = some ((0 : Fin 8), 0) :=
  ⟨take rfl rfl _, traced_traceLaw, by decide, by decide, by decide, rfl, rfl, by decide, rfl,
    ⟨traced_traceLaw.1, traced_traceLaw.2.1, traced_traceLaw.2.2.1, traced_traceLaw.2.2.2.1, traced_traceLaw.2.2.2.2.1,
      traced_traceLaw.2.2.2.2.2.1, fun c h => nomatch h⟩, take rfl rfl _, by decide⟩

theorem witness_TraceRequests_free :
    TraceLaw (running upRun 500) ∧ (running upRun 500).canTake .b ∧ ((running upRun 500).winRec .wfd).motion.drivenDir ≠ none ∧
    (List.finRange 8).any (fun i => match (running upRun 500).bufferAt i with | .filling r => r.window = .wfd | _ => false) = false ∧
    (List.finRange 8).find? (fun i => decide ((running upRun 500).bufferAt i = .free)) = some 0 ∧
    (running upRun 500).trace.cursor = none ∧
    ((running upRun 500).trace.captures.find? (fun i => match (running upRun 500).bufferAt i with
      | .complete _ _ => true | _ => false)).map (·, 0) = (none : Option (Fin 8 × Nat)) :=
  ⟨traceLaw_of rfl, take rfl rfl _, by decide, by decide, by decide, rfl, by decide⟩

/-! #### Diagnostics, temperature and supply -/

/-- FD's channel driven, with an overcurrent count. -/
def drivenFd (count : Nat) : State :=
  ((queued [entryB .lockAll true]).setOp (.l .fd) (some { waitingOp with phase := .drive, slot := true, timer := some 2000 })).setChan
    (.act (.l .fd)) { ChannelRec.reset with drive := .onFirst, driveStart := some 800, ocCount := count }

theorem witness_Diagnostics :
    (drivenFd 2).resetLine = false ∧ ((drivenFd 2).chan (.act (.l .fd))).drive = .onFirst ∧ ocEnabled (drivenFd 2) (.act (.l .fd)) = true ∧
    countAfter 2 (400 < 401) = 3 ∧ countAfter 2 (400 < 400) = 0 ∧ countAfter 1 (400 < 401) = 2 ∧
    OpLaw (drivenFd 2) (.l .fd) ∧ (drivenFd 2).opAt (.l .fd) = some { waitingOp with phase := .drive, slot := true, timer := some 2000 } ∧
    (base.chan (.act .t1)).drive = .off ∧ ((drivenFd 2).chan (.act (.l .fd))).driveStart = some 800 ∧
    ((drivenFd 2).chan (.act (.l .fd))).judged = false ∧ (base.chan (.w .wfd)).driveStart = none :=
  ⟨by decide, by decide, by decide, by decide, by decide, by decide, ⟨by decide, (fun h => nomatch h), fun _ => by decide⟩, by decide⟩

theorem witness_Diagnostics_openLoad :
    openFound ((drivenFd 0).setChan (.act (.l .fd)) { (drivenFd 0).chan (.act (.l .fd)) with current := some 9 }) (.act (.l .fd)) = some true ∧
    openFound ((drivenFd 0).setChan (.act (.l .fd)) { (drivenFd 0).chan (.act (.l .fd)) with current := some 10 }) (.act (.l .fd)) = some false ∧
    openFound (drivenFd 0) (.act (.l .fd)) = none := by decide

theorem witness_Diagnostics_offState :
    WindowLaw base ∧ testedOff base (.w .wfd) = true ∧ testedOff (running upRun 500) (.w .wfd) = false ∧
    shortFound base (.w .wfd) ⟨true, false⟩ = true ∧ (base.chan (.w .wfd)).withdrawn = false ∧
    kindEnabled base (.w .wfd) (·.shortSupply) = true ∧ (base.chan (.w .wfd)).shortSupply ≠ .fault ∧ base.canTake .b ∧
    crashOn crashed (.act (.l .fd)) = true ∧ crashed.canTake .b ∧
    (∀ a, Channel.act .t1 = .act a → (crashed.opAt a).any (·.crash) = false) :=
  ⟨base_windowLaw, by decide, by decide, by decide, by decide, by decide, by decide, take rfl rfl _, by decide, take rfl rfl _,
    by intro a h; cases h; rfl⟩

/-- `base` with its windows inhibited by HOT or by CUT. -/
def inhibited (c : Causes) (temp : TempState) (supply : SupplyState) : State :=
  { base with
    win := { base.win with recs := .all { WindowRec.reset with motion := .inhibited, causes := c } }
    mon := { base.mon with temp, supply } }

theorem hot_windowLaw : WindowLaw (inhibited ⟨false, true, false, false⟩ .hot .normal) := by
  intro w
  cases w <;>
    exact ⟨trivial, ⟨rfl, trivial, by decide, by decide⟩, ⟨by decide, rfl, by decide, by decide, rfl⟩, by decide, rfl⟩

theorem cut_windowLaw : WindowLaw (inhibited ⟨false, false, true, false⟩ .normal .cut) := by
  intro w
  cases w <;>
    exact ⟨trivial, ⟨rfl, trivial, by decide, by decide⟩, ⟨by decide, rfl, by decide, by decide, rfl⟩, by decide, rfl⟩

theorem witness_TemperatureAndSupply :
    base.resetLine = false ∧ WindowLaw base ∧ SlotLaw base ∧ base.mon.temp ≠ .hot ∧ base.mon.supply ≠ .cut ∧
    WindowLaw (inhibited ⟨false, true, false, false⟩ .hot .normal) ∧ WindowLaw (inhibited ⟨false, false, true, false⟩ .normal .cut) ∧
    (inhibited ⟨false, true, false, false⟩ .hot .normal).mon.temp = .hot ∧
    (inhibited ⟨false, false, true, false⟩ .normal .cut).mon.supply = .cut ∧ WindowLaw (running upRun 500) ∧
    Op.heldByCut { waitingOp with slot := true } = true ∧
    ((base.setOp (.l .fd) (some { waitingOp with slot := true })).opAt (.l .fd)) = some { waitingOp with slot := true } :=
  ⟨rfl, base_windowLaw, base_slotLaw, by decide, by decide, hot_windowLaw, cut_windowLaw, rfl, rfl, running_windowLaw, rfl, rfl⟩

/-! #### Laws -/

theorem witness_LawsKept :
    LockLaw (queued fullQueue) ∧ SlotLaw crashing ∧ WindowLaw (running upRun 500) ∧ TraceLaw traced ∧ RangeLaw (caseState 0 52) ∧
    (∃ t, step { base with pending := [.heatTick] } = .next t) :=
  ⟨lockLaw_of (queueLaw_of (by decide) (by decide) (by decide)),
    slotLaw_of (by decide) base_opLaw (by intro a; rcases a with c | c | _ <;> (try cases c) <;> rfl), running_windowLaw,
    traced_traceLaw, caseState_rangeLaw, _, rfl⟩

/-! ### Worked cases of the specification, single steps -/

/-- A slot of 4.7.1 after a CREDENTIAL with action LOCK: counter, candidate value, streak; and the answer's code. -/
def judged (counter : Nat) (candidate : Option Nat) (streak c : Nat) : Nat × Option Nat × Nat × Option Code :=
  let t := after (.credential .k 1 (credentialBytes 0 c .lock))
    (fobbed { fob with rights := ⟨true, false, false, false⟩, counter, candidate := candidate.map (⟨·, 50000⟩), streak, lastAccepted := none })
  ((t.slotAt 0).counter, (t.slotAt 0).candidate.map (·.value), (t.slotAt 0).streak, ((t.ports.get .k).response).map (·.code))

/-- 4.7.1, the first four lines. -/
theorem test_4_7_1_near :
    judged 16777200 none 0 20 = (20, none, 0, some .ok) ∧ judged 1000 none 0 1500 = (1000, some 1500, 1, some .resyncNeeded) ∧
    judged 1000 (some 1500) 1 1501 = (1501, none, 0, some .ok) ∧
    judged 1000 (some 1500) 1 1500 = (1000, some 1500, 2, some .resyncNeeded) := by decide

/-- 4.7.1, the last four lines. -/
theorem test_4_7_1_far :
    judged 100 (some 32867) 1 32868 = (32868, none, 0, some .ok) ∧
    judged 100 (some 32867) 1 32869 = (100, some 32867, 2, some .stale) ∧
    judged 16777000 (some 16777100) 1 16777102 = (16777102, none, 0, some .ok) ∧
    judged 5000 none 0 4990 = (5000, none, 1, some .stale) := by decide

/-- The queue of 2.11.2. -/
def mergeQueue : State :=
  queued [{ portEntry .unlockAll .b .b 0x11 false with running := true }, portEntry .lockAll .dButton .d 0x20 false]

/-- 2.11.2, first row: UNLOCK_DRIVER cancels the LOCK_ALL of port D. -/
theorem test_LOCK_cancels :
    ((after (.lock .b 0x12 [3]) mergeQueue).seq.queue.map (fun e => (e.kind, e.running))) =
      [(.unlockAll, true), (.unlockDriver, false)] ∧
    (after (.lock .b 0x12 [3]) mergeQueue).notices.d.commandCancelled = some ⟨[(0x20, .lockAll)], 1⟩ ∧
    ((after (.lock .b 0x12 [3]) mergeQueue).ports.b.response).map (·.code) = some .ok := by decide

/-- 2.11.2, third and fourth row: an identical CHILD_SET merges, the opposite one cancels it. -/
theorem test_CHILD_SET_merges :
    ((after (.childSet .d 0x22 [0, 0]) (queued [portEntry (.childSet .rd .engaged) .dButton .d 0x21 false])).ports.d.response).map
      (·.code) = some .merged ∧
    ((after (.childSet .b 0x13 [0, 1]) (queued [portEntry (.childSet .rd .engaged) .dButton .d 0x21 false])).seq.queue.map
      (·.kind)) = [.childSet .rd .released] := by decide

/-- 2.11.3: the grant at 154 starts a pulse of 150 ms and gives 162; the grant at 162 ends the operation HOT_WITHHELD. -/
theorem test_SLOT_GRANT_heat :
    (after .slotGrant (waitingFd 154)).seq.heatL.fd = 162 ∧
    ((after .slotGrant (waitingFd 154)).opAt (.l .fd)).map (fun o => (o.phase, o.retriesLeft, o.pulse, o.timer)) =
      some (.drive, 2, some 150, some 2500) ∧
    (after .slotGrant (waitingFd 162)).opAt (.l .fd) = none ∧
    ((after .slotGrant (waitingFd 162)).notices.b.actuationFailed).map (·.fd) = some (some .hotWithheld) := by decide

/-- The stroke of 8.8.1 at the top stop. -/
def learning : State :=
  (running { upRun with target := 0 } 3).setRefs .wfd
    { RefState.reset with
      zones := (((RefState.reset.zones.set 0 (some ⟨520, 60⟩)).set 9 (some ⟨380, 40⟩)).set 21 (some ⟨350, 41⟩))
      stroke := some
        { startPosition := some 1400, pz := 900, zs := 6, marks := Marks.none
          samples := (((((Vector.replicate 32 none).set 0 (some ⟨560, 61⟩)).set 9 (some ⟨406, 52⟩)).set 14
            (some ⟨371, 44⟩)).set 15 (some ⟨368, 44⟩)).set 21 (some ⟨349, 41⟩) } }

/-- 8.8.1: what the stroke teaches when the stall of the top stop is taken. -/
theorem test_STALL_TIMER_EXPIRY_teaches :
    (let r := (after (.stallTimerExpiry .wfd) learning).refsOf .wfd
     (r.zones[0], r.zones[9], r.zones[14], r.zones[15], r.zones[21], r.learned)) =
      (some ⟨530, 60⟩, some ⟨387, 43⟩, some ⟨371, 44⟩, none, some ⟨350, 41⟩, 1) ∧
    ((after (.stallTimerExpiry .wfd) learning).winRec .wfd).position = some 0 ∧
    ((after (.stallTimerExpiry .wfd) learning).notices.b.contextChanged).map (·.wfd) = some true := by decide

/-- 8.8.3: a restore normalises the window at 0; its repeat is answered STATE. -/
theorem test_WINDOW_RESTORE_repeated :
    (let q := [(0 : Byte), 1, 2, 0, 0, 12] ++ List.replicate 32 0
     let t := after (.windowRestore .b 1 q) base
     ((t.winRec .wrd).position, (t.refsOf .wrd).learned,
       ((after (.windowRestore .b 2 q) (t.setPort .b PortEngine.reset)).ports.b.response).map (·.code))) =
      (some 0, 12, some .state) := by decide

/-- 11.6: the first byte of a frame is awaited in IDLE; other bytes are passed over. -/
theorem test_LINK_BYTE_RECEIVED_sync :
    ((after (.linkByteReceived .d 0x5C) base).ports.get .d).engine = .receiving ∧
    after (.linkByteReceived .d 0xC5) base = base := by decide

/-- R16 and R20: a CENTRAL_TOGGLE in LOCKED queues UNLOCK_ALL, otherwise LOCK_ALL. -/
theorem test_CENTRAL_TOGGLE_mode :
    ((after (.centralToggle .d 1 []) base).seq.queue.map (·.kind)) = [.lockAll] ∧
    ((after (.centralToggle .d 1 []) { base with closures := .all (sensed .locked) }).seq.queue.map (·.kind)) = [.unlockAll] := by
  decide

/-- R44: a 2 ms assertion gives the crash event, which drives the five closures at once (R48). -/
theorem test_CRASH_DETECTOR_TIMER_event :
    (after .crashDetectorTimer crashing).crash.latch = true ∧
    (Closure.list.map (fun c => ((after .crashDetectorTimer crashing).chan (.act (.l c))).drive)) = List.replicate 5 .onSecond ∧
    (after .crashDetectorTimer crashing).opAt (.l .tg) = some (crashPulse 4 1000) := by decide

/-- R155, R165: the detail of FAULT lists the channel first named first: L2 withdrawn by a short to ground at the off-state
tick (10.8.1), then W1 with an open load. -/
theorem test_READ_NOTICES_fault :
    let s := (base.testOff (.act (.l .fp)) ⟨false, true⟩).faultFound (.w .wfd) .openLoad
    s.noticeDetail s.notices.b 13 = [2, 5, 4, 1, 0, 1, 0] := by decide

/-- R75, R165: the touch that came first is listed first, each with its time left: FP_LOCK at 10 ms, FD_OPEN at 20 ms, read
at 30 ms. -/
theorem test_READ_NOTICES_touch :
    let s : State := { base with now := 300, touch := (base.touch.set .fpLock (.waiting 100)).set .fdOpen (.waiting 200) }
    (s.raiseHandleTouch).noticeDetail s.raiseHandleTouch.notices.k 8 = [2, 3, 0, 0, 1, 124, 0, 0, 0, 1, 134] := by decide

/-- R105, R165: the first window of WINDOW_STATUS: RUN, a run UP AUTO to 0, holder PANEL, no cause, position 500. -/
theorem test_WINDOW_STATUS_run :
    ((after (.windowStatus .d 1 [0]) (running upRun 500)).payloadAt .d).take 21 =
      [0, 3, 1, 1, 0, 1, 0, 0, 1, 0, 0, 0, 0x01, 0xF4, 1, 0, 0, 0, 0, 0, 0] := by decide

/-- R123, R144: part 1 of record 6: its sample, with its index 0 behind sequence, part and parts. -/
theorem test_TRACE_READ_sample :
    (after (.traceRead .b 1 []) traced).payloadAt .b =
      [0, 6, 1, 2, 0, 0x01, 0xA9, 0x01, 0x96, 0x00, 0xF6, 0x02, 0x64, 1, 1] := by decide

/-- R160: 399 is CUT and inhibits the windows; 400 is LOW. -/
theorem test_SUPPLY_MEASUREMENT_bounds :
    (after (.supplyMeasurement 399) base).mon.supply = .cut ∧
    ((after (.supplyMeasurement 399) base).winRec .wrp).motion = .inhibited ∧
    (after (.supplyMeasurement 400) base).mon.supply = .low ∧ (after (.supplyMeasurement 800) base).mon.supply = .normal ∧
    (after (.supplyMeasurement 801) base).mon.supply = .cut := by decide

/-- R158: the limits of WARM and HOT with their hysteresis. -/
theorem test_TEMPERATURE_MEASUREMENT_bounds :
    (after (.temperatureMeasurement 124) base).mon.temp = .normal ∧ (after (.temperatureMeasurement 125) base).mon.temp = .warm ∧
    (after (.temperatureMeasurement 150) base).mon.temp = .hot ∧
    (after (.temperatureMeasurement 140) (inhibited ⟨false, true, false, false⟩ .hot .normal)).mon.temp = .hot ∧
    (after (.temperatureMeasurement 139) (inhibited ⟨false, true, false, false⟩ .hot .normal)).mon.temp = .warm := by decide

end Sys2Proof.Tests
end

section
/-! Passive claims and touch windows (R73, R74, R76 to R82): what a claim, a touch and the timers of a touch window do to a
state, and from these the statement on claims and touch windows. -/

namespace Sys2Proof.Machine
open Sys2Proof

/-! ### The fields of a PASSIVE_CLAIM (R76) -/

section Fields
variable (x : TouchSource) (i : Fin 8) (c : Nat) (z : KeyZone) (clear : Bool)

theorem pick_source_claimBytes : pick TouchSource.list (claimBytes x i c z clear) 0 = some x := by
  cases x <;> rfl

theorem slotField_claimBytes : slotField (claimBytes x i c z clear) 1 = some i := by
  match i with
  | 0 | 1 | 2 | 3 | 4 | 5 | 6 | 7 => rfl

theorem pick_zone_claimBytes : pick keyZones (claimBytes x i c z clear) 5 = some z := by
  cases z <;> rfl

theorem flagAt_claimBytes : flagAt (claimBytes x i c z clear) 6 = some clear := by
  cases clear <;> rfl

theorem ofBytes_u24 {n : Nat} (h : n < 16777216) : ofBytes (u24 n) = n := by
  simp only [ofBytes, u24, u16, List.foldl, BitVec.toNat_ofNat]
  omega

theorem fieldAt_claimBytes {c : Nat} (h : c < 16777216) : fieldAt (claimBytes x i c z clear) 2 3 = c :=
  ofBytes_u24 h

/-- The bytes of a claim spell it: the owner judges the claim that the sender meant. -/
theorem ownPassiveClaim_claimBytes (s : State) (tag : Byte) {c : Nat} (h : c < 16777216) :
    State.ownPassiveClaim tag (claimBytes x i c z clear) s = s.claim x i c z clear tag := by
  simp only [State.ownPassiveClaim, pick_source_claimBytes, slotField_claimBytes, pick_zone_claimBytes,
    flagAt_claimBytes, fieldAt_claimBytes x i z clear h]

end Fields

/-! ### A request that is taken (R163, R167) -/

/-- A request that the decoder passes, on a port that is not answering, is answered with its owner's reply. -/
theorem State.request_passed {s : State} {p : Port} (hk : s.canTake p) {k : Kind} {q : List Byte}
    (hd : s.decoderRefusal k p q = none) (owner : List Byte → State → Reply) (tag : Byte) :
    s.request k owner p tag q = State.answer p tag (owner q s) := by
  obtain ⟨-, hfree⟩ := hk
  simp [State.request, State.answering, State.judge, hd, hfree]

theorem exec_passiveClaim {s : State} (hk : s.canTake .k) (tag : Byte) (x : TouchSource) (i : Fin 8) {c : Nat}
    (hc : c < 16777216) (z : KeyZone) (clear : Bool) :
    exec (.passiveClaim .k tag (claimBytes x i c z clear)) s =
      .next (State.answer .k tag (s.claim x i c z clear tag)) := by
  have hlive : exec (.passiveClaim .k tag (claimBytes x i c z clear)) s =
      .next (s.request .passiveClaim (State.ownPassiveClaim tag) .k tag (claimBytes x i c z clear)) := by
    show Host.Outcome.next (s.live _) = _
    simp [State.live, hk.1]
  rw [hlive, State.request_passed hk rfl, ownPassiveClaim_claimBytes x i z clear s tag hc]

/-! ### The three entries that a claim can find (R77) -/

section Entries
variable {s : State} (hk : s.canTake .k) (tag : Byte) {x : TouchSource} (i : Fin 8) {c : Nat} (hc : c < 16777216)
  (z : KeyZone) (clear : Bool)
include hk hc

theorem exec_passiveClaim_idle (h : s.touch.get x = .idle) :
    exec (.passiveClaim .k tag (claimBytes x i c z clear)) s = .next { s with
      ports := s.ports.set .k (answered tag .noTouch (claimAnswer x i (s.slotAt i).counter)) } := by
  rw [exec_passiveClaim hk tag x i hc, State.claim, h]
  rfl

theorem exec_passiveClaim_expired {d : Nat} (h : s.touch.get x = .expired d) :
    exec (.passiveClaim .k tag (claimBytes x i c z clear)) s = .next { s with
      ports := s.ports.set .k (answered tag .tooLate (claimAnswer x i (s.slotAt i).counter)) } := by
  rw [exec_passiveClaim hk tag x i hc, State.claim, h]
  rfl

theorem exec_passiveClaim_waiting {d : Nat} (h : s.touch.get x = .waiting d) :
    exec (.passiveClaim .k tag (claimBytes x i c z clear)) s =
      .next (State.answer .k tag ((s.setTouch x .idle).claimSlot x i c z clear tag)) := by
  rw [exec_passiveClaim hk tag x i hc, State.claim, h]

end Entries

/-! ### Slot and right of a claim (R78) -/

section Slot
variable {s : State} (x : TouchSource) {i : Fin 8} (c : Nat) (z : KeyZone) (clear : Bool) (tag : Byte)

theorem State.claimSlot_empty (h : (s.slotAt i).status = .empty) :
    s.claimSlot x i c z clear tag = s.claimReply x i .emptySlot := by
  rw [State.claimSlot, h]

theorem State.claimSlot_suspended (h : (s.slotAt i).status = .suspended) :
    s.claimSlot x i c z clear tag = s.claimReply x i .suspended := by
  rw [State.claimSlot, h]

theorem State.claimSlot_noRight (h : (s.slotAt i).status = .active) (hr : (s.slotAt i).rights.passive = false) :
    s.claimSlot x i c z clear tag = s.claimReply x i .noRight := by
  simp [State.claimSlot, h, hr]

theorem State.claimSlot_admitted (h : (s.slotAt i).status = .active) (hr : (s.slotAt i).rights.passive = true) :
    s.claimSlot x i c z clear tag = s.claimCounter x i c z clear tag := by
  simp [State.claimSlot, h, hr]

end Slot

/-- A claim that the slot or the right ends has consumed its window and is answered, and that is all. -/
theorem exec_passiveClaim_refused {s : State} (hk : s.canTake .k) (tag : Byte) {x : TouchSource} {i : Fin 8} {c : Nat}
    (hc : c < 16777216) {z : KeyZone} {clear : Bool} {d : Nat} (hw : s.touch.get x = .waiting d) {code : Code}
    (h : (s.setTouch x .idle).claimSlot x i c z clear tag = (s.setTouch x .idle).claimReply x i code) :
    exec (.passiveClaim .k tag (claimBytes x i c z clear)) s = .next { s with
      touch := s.touch.set x .idle
      ports := s.ports.set .k (answered tag code (claimAnswer x i (s.slotAt i).counter)) } := by
  rw [exec_passiveClaim_waiting hk tag i hc z clear hw, h]
  rfl

/-! ### The codes of a claim that has passed the slot and right checks (R79 to R81) -/

/-- The codes that the first three steps of a claim end it with (R77, R78). -/
def earlyClaimCodes : List Code := [.noTouch, .tooLate, .emptySlot, .suspended, .noRight]

theorem State.acceptance_not_early (s : State) (k : Command) {code : Code} (h : s.acceptance k = some code) :
    code ∉ earlyClaimCodes := by
  unfold State.acceptance at h
  repeat' split at h
  all_goals cases h
  all_goals decide

theorem State.placement_not_early (s : State) (k : Command) : s.placement k ∉ earlyClaimCodes := by
  unfold State.placement
  dsimp only
  repeat' split
  all_goals decide

theorem State.offerCode_not_early (s : State) (k : Command) : s.offerCode k ∉ earlyClaimCodes := by
  unfold State.offerCode
  cases h : s.acceptance k with
  | none => exact s.placement_not_early k
  | some code => exact s.acceptance_not_early k h

/-- The answer formed from several outcomes is one of them, MERGED or OK. -/
theorem formAnswer_mem (cmds wins : List Code) (runs : Bool) :
    formAnswer cmds wins runs ∈ cmds ++ wins ∨ formAnswer cmds wins runs ∈ [Code.merged, .ok] := by
  unfold formAnswer
  split
  next code h => exact .inl (List.mem_of_find?_eq_some h)
  next => split <;> exact .inr (by decide)

theorem formAnswer_not_early {cmds : List Code} (h : ∀ k ∈ cmds, k ∉ earlyClaimCodes) (runs : Bool) :
    formAnswer cmds [] runs ∉ earlyClaimCodes := by
  rcases formAnswer_mem cmds [] runs with hm | hm
  · exact h _ (by simpa using hm)
  · have hdisjoint : ∀ k ∈ [Code.merged, .ok], k ∉ earlyClaimCodes := by decide
    exact hdisjoint _ hm

theorem State.claimCommand_not_early (s : State) (x : TouchSource) (i : Fin 8) (k : CmdKind) (tag : Byte) :
    (s.claimCommand x i k tag).code ∉ earlyClaimCodes :=
  formAnswer_not_early (by simpa using s.offerCode_not_early _) false

theorem State.tailgatePair_not_early (s : State) (src : CmdSource) (tag : Byte) :
    ∀ k ∈ (s.tailgatePair src tag).2, k ∉ earlyClaimCodes := by
  simp [State.tailgatePair, State.offerCode_not_early]

theorem State.claimAction_not_early (s : State) (x : TouchSource) (i : Fin 8) (tag : Byte) :
    (s.claimAction x i tag).code ∉ earlyClaimCodes := by
  cases x with
  | tgButton => exact formAnswer_not_early (s.tailgatePair_not_early _ tag) false
  | fdOpen | fdLock | fpOpen | fpLock => exact s.claimCommand_not_early _ i _ tag

theorem zoneRefusal_not_early {x : TouchSource} {z : KeyZone} {clear : Bool} {code : Code}
    (h : State.zoneRefusal x z clear = some code) : code ∉ earlyClaimCodes := by
  unfold State.zoneRefusal at h
  repeat' split at h
  all_goals cases h <;> decide

theorem State.claimCounter_not_early (s : State) (x : TouchSource) (i : Fin 8) (c : Nat) (z : KeyZone) (clear : Bool)
    (tag : Byte) : (s.claimCounter x i c z clear tag).code ∉ earlyClaimCodes := by
  unfold State.claimCounter
  dsimp only
  split
  case h_1 | h_2 | h_3 => simp [State.claimReply, earlyClaimCodes]
  case h_4 =>
    split
    next code h => exact zoneRefusal_not_early h
    next => exact State.claimAction_not_early _ x i tag

/-! ### The timers of a touch window (R74) -/

section Timers
variable {s : State} {x : TouchSource}

theorem exec_touchWindowExpiry_idle (h : s.touch.get x = .idle) : exec (.touchWindowExpiry x) s = .next s := by
  show Host.Outcome.next (s.live _) = _
  simp [State.live, State.touchWindowEnd, h]

theorem exec_touchWindowExpiry_waiting (hl : s.resetLine = false) {d : Nat} (h : s.touch.get x = .waiting d) :
    exec (.touchWindowExpiry x) s = .next ((s.reach (d + Config.touchWindow)).setTouch x
      (.expired (s.reach (d + Config.touchWindow)).now)) := by
  show Host.Outcome.next (s.live _) = _
  simp [State.live, hl, State.touchWindowEnd, h]

theorem exec_touchHoldExpiry_expired (hl : s.resetLine = false) {d : Nat} (h : s.touch.get x = .expired d) :
    exec (.touchHoldExpiry x) s = .next ((s.reach (d + Config.touchHold)).setTouch x .idle) := by
  show Host.Outcome.next (s.live _) = _
  simp [State.live, hl, State.touchHoldEnd, h]

end Timers

/-! ### A touch (R71, R73, R82) -/

section Touch
variable {s : State} {x : TouchSource}

theorem State.touchEvent_waiting {d : Nat} (h : s.touch.get x = .waiting d) : s.touchEvent x = s := by
  unfold State.touchEvent
  cases s.config.passive <;> simp [h]

theorem State.touchEvent_idle (hp : s.config.passive = true) (h : s.touch.get x = .idle) :
    s.touchEvent x = (s.setTouch x (.waiting s.now)).raiseHandleTouch := by
  simp [State.touchEvent, hp, h]

/-- R82: a press of the tailgate button while TG does not stand UNLOCKED is a touch like that of a handle. -/
theorem State.tailgatePress_of_not_unlocked
    (h : s.closures.tg.lockGoal ≠ .unlocked ∨ s.closures.tg.lockSensed ≠ .unlocked) :
    s.tailgatePress = s.touchEvent .tgButton := by
  refine if_neg fun hunlocked => ?_
  obtain ⟨hgoal, hsensed⟩ := Bool.and_eq_true_iff.mp hunlocked
  exact h.elim (· (of_decide_eq_true hgoal)) (· (of_decide_eq_true hsensed))

theorem State.touched_eq_touchEvent
    (h : x ≠ .tgButton ∨ s.closures.tg.lockGoal ≠ .unlocked ∨ s.closures.tg.lockSensed ≠ .unlocked) :
    s.touched x = s.touchEvent x := by
  cases x with
  | tgButton => exact State.tailgatePress_of_not_unlocked (h.resolve_left (· rfl))
  | fdOpen | fdLock | fpOpen | fpLock => rfl

/-- A touch event rests on the source's line and, for the tailgate button, on closure TG alone. -/
theorem touchEvent_congr {t : State} (hsensing : t.sensing = s.sensing) (hclosures : t.closures = s.closures)
    (h : Machine.touchEvent s x) : Machine.touchEvent t x := by
  unfold Machine.touchEvent at *
  rwa [hsensing, hclosures]

/-- R71, R82: at a touch event the source's line settles and the event reaches the touch window table. -/
theorem exec_debounceExpiry_touch (hl : s.resetLine = false) (h : Machine.touchEvent s x) :
    ∃ s', Only [.now, .sensing] s s' ∧ exec (.debounceExpiry (.touch x)) s = .next (s'.touchEvent x) := by
  obtain ⟨htimer, hlevel, hraw, htg⟩ := h
  obtain ⟨d, hd⟩ := Option.isSome_iff_exists.mp htimer
  refine ⟨(s.reach d).setSensing
    { s.sensing with touch := s.sensing.touch.set x (State.settled (s.sensing.touch.get x)) },
    Only.after (Only.sensing _ _) (by decide) (Only.mono (State.reach_only s d) (by decide)), ?_⟩
  rw [← State.touched_eq_touchEvent (by simpa using htg)]
  show Host.Outcome.next (s.live _) = _
  simp [State.live, hl, State.debounce, hd, State.contactEvent, hlevel, hraw]

/-- R73: a touch on a WAITING entry is ignored: beside the time, only the line has settled. -/
theorem exec_debounceExpiry_touch_waiting (hl : s.resetLine = false) (h : Machine.touchEvent s x) {d : Nat}
    (hw : s.touch.get x = .waiting d) :
    ∃ u, Only [.now, .sensing] s u ∧ exec (.debounceExpiry (.touch x)) s = .next u := by
  obtain ⟨s', hframe, hexec⟩ := exec_debounceExpiry_touch hl h
  have htouch : s'.touch = s.touch := hframe.same .touch (by decide)
  rw [State.touchEvent_waiting (htouch ▸ hw)] at hexec
  exact ⟨s', hframe, hexec⟩

/-- R73: with the passive policy on, a touch on an IDLE entry opens a window and raises HANDLE_TOUCH to port K. -/
theorem exec_debounceExpiry_touch_opens (hl : s.resetLine = false) (h : Machine.touchEvent s x)
    (hp : s.config.passive = true) (hi : s.touch.get x = .idle) :
    ∃ u e, exec (.debounceExpiry (.touch x)) s = .next u ∧ u.touch = s.touch.set x (.waiting e) ∧
      u.notices.k.handleTouch = true := by
  obtain ⟨s', hframe, hexec⟩ := exec_debounceExpiry_touch hl h
  have htouch : s'.touch = s.touch := hframe.same .touch (by decide)
  have hconfig : s'.config = s.config := hframe.same .config (by decide)
  rw [State.touchEvent_idle (hconfig ▸ hp) (htouch ▸ hi)] at hexec
  refine ⟨_, s'.now, hexec, ?_, rfl⟩
  show s'.touch.set x (.waiting s'.now) = _
  rw [htouch]

end Touch

/-! ### After a claim has consumed its window (R77) -/

/-- R163: port K has sent its response: its engine is idle, and nothing else has changed. -/
theorem exec_responseSent_k {t : State} (hl : t.resetLine = false) (ha : (t.ports.get .k).engine = .answering) :
    exec (.responseSent .k) t = .next (t.idlePort .k) := by
  show Host.Outcome.next (t.live _) = _
  simp [State.live, hl, State.responseSent, State.answering, ha]

theorem State.canTake_idlePort {t : State} (hl : t.resetLine = false) (p : Port) : (t.idlePort p).canTake p := by
  refine ⟨hl, ?_⟩
  simp [State.idlePort, State.setPort, PortEngine.reset]

theorem State.canTake_congr {s t : State} {p : Port} (hreset : t.resetLine = s.resetLine) (hports : t.ports = s.ports)
    (h : s.canTake p) : t.canTake p := by
  unfold State.canTake at *
  rwa [hreset, hports]

/-- R77: whatever its later steps decide, a claim for a WAITING entry leaves the entry IDLE and answers port K; it changes
no other entry, and besides the table and the port only the sequencer, the fob table and the notices. -/
theorem exec_passiveClaim_consumes {s : State} (hk : s.canTake .k) (tag : Byte) {x : TouchSource} (i : Fin 8) {c : Nat}
    (hc : c < 16777216) (z : KeyZone) (clear : Bool) {d : Nat} (hw : s.touch.get x = .waiting d) :
    ∃ t code q, exec (.passiveClaim .k tag (claimBytes x i c z clear)) s = .next t ∧
      Only [.seq, .fobs, .touch, .notices, .ports] s t ∧ t.touch = s.touch.set x .idle ∧
      t.ports = s.ports.set .k (answered tag code q) ∧
      ((s.slotAt i).status = .active → (s.slotAt i).rights.passive = true → code ∉ earlyClaimCodes) := by
  have hclaim := (s.setTouch x .idle).claimSlot_only x i c z clear tag
  have hports : ((s.setTouch x .idle).claimSlot x i c z clear tag).state.ports = s.ports :=
    hclaim.same .ports (by decide)
  refine ⟨_, _, _, exec_passiveClaim_waiting hk tag i hc z clear hw, ?frame, hclaim.same .touch (by decide),
    congrArg (Ports.set · .k _) hports, ?codes⟩
  case frame =>
    have hconsumed : Only [.seq, .fobs, .touch, .notices] s _ :=
      hclaim.after (by decide) ((s.setTouch_only x .idle).mono (by decide))
    exact (State.setPort_only _ .k _).after (by decide) (hconsumed.mono (by decide))
  case codes =>
    intro hactive hright
    rw [State.claimSlot_admitted x c z clear tag (s := s.setTouch x .idle) hactive hright]
    exact State.claimCounter_not_early _ x i c z clear tag

/-- R77: with the entry IDLE, once the answer is sent, a further claim for the source is answered NO_TOUCH, whatever its
slot, counter and zone. -/
theorem claim_after_response_noTouch {t : State} (hl : t.resetLine = false)
    (ha : (t.ports.get .k).engine = .answering) {x : TouchSource} (hi : t.touch.get x = .idle) :
    ∃ u, exec (.responseSent .k) t = .next u ∧ ∀ (tag : Byte) (j : Fin 8) (c : Nat) (z : KeyZone) (clear : Bool),
      c < 16777216 → exec (.passiveClaim .k tag (claimBytes x j c z clear)) u = .next { u with
        ports := u.ports.set .k (answered tag .noTouch (claimAnswer x j (u.slotAt j).counter)) } :=
  ⟨t.idlePort .k, exec_responseSent_k hl ha, fun tag j _ z clear hc =>
    exec_passiveClaim_idle (State.canTake_idlePort hl .k) tag j hc z clear hi⟩

/-! ### The statement -/

/-- Settles O27: a claim's step is computed for each of the three entries it can find; what follows a consumed window rests
on the frame of a claim's later steps, which leave the touch window table and the lines alone. -/
theorem claimWindow : Obligations.ClaimWindow := by
  intro s tag x i c z clear hk hc
  have hl : s.resetLine = false := hk.1
  refine ⟨exec_passiveClaim_idle hk tag i hc z clear, fun d hexp => ⟨?claimThenHold, ?holdThenClaim⟩, fun d hwait =>
    ⟨fun hempty => exec_passiveClaim_refused hk tag hc hwait (State.claimSlot_empty x c z clear tag hempty),
      fun hsusp => exec_passiveClaim_refused hk tag hc hwait (State.claimSlot_suspended x c z clear tag hsusp),
      fun hactive hright =>
        exec_passiveClaim_refused hk tag hc hwait (State.claimSlot_noRight x c z clear tag hactive hright),
      ?consumed, ?windowThenClaim, ?touchThenClaim⟩⟩
  case claimThenHold =>
    exact ⟨_, exec_passiveClaim_expired hk tag i hc z clear hexp, rfl, _,
      exec_touchHoldExpiry_expired (by exact hl) (by exact hexp), rfl⟩
  case holdThenClaim =>
    exact ⟨_, exec_touchHoldExpiry_expired hl hexp, rfl,
      exec_passiveClaim_idle (by exact hk) tag i hc z clear (by exact Touches.get_set_self ..)⟩
  case consumed =>
    obtain ⟨t, code, q, hexec, hframe, htable, hports, hcodes⟩ :=
      exec_passiveClaim_consumes hk tag i hc z clear hwait
    have hreset : t.resetLine = s.resetLine := hframe.same .resetLine (by decide)
    rw [hl] at hreset
    have hidle : t.touch.get x = .idle := by simp [htable]
    have hanswering : (t.ports.get .k).engine = .answering := by simp [hports, answered]
    refine ⟨t, code, q, hexec, htable, hports, hcodes, exec_touchWindowExpiry_idle hidle,
      claim_after_response_noTouch hreset hanswering hidle, fun htouch hpassive => ?_⟩
    have hconfig : t.config = s.config := hframe.same .config (by decide)
    have htouch' : touchEvent t x :=
      touchEvent_congr (hframe.same .sensing (by decide)) (hframe.same .closures (by decide)) htouch
    obtain ⟨u, e, hopen, hwaiting, hnotice⟩ :=
      exec_debounceExpiry_touch_opens hreset htouch' (hconfig ▸ hpassive) hidle
    exact ⟨u, e, hopen, by simpa [htable] using hwaiting, hnotice⟩
  case windowThenClaim =>
    exact ⟨_, _, exec_touchWindowExpiry_waiting hl hwait, rfl,
      exec_passiveClaim_expired (by exact hk) tag i hc z clear (by exact Touches.get_set_self ..)⟩
  case touchThenClaim =>
    intro htouch
    obtain ⟨u, hframe, hexec⟩ := exec_debounceExpiry_touch_waiting hl htouch hwait
    have hsame : u.touch = s.touch := hframe.same .touch (by decide)
    have hku : u.canTake .k :=
      State.canTake_congr (hframe.same .resetLine (by decide)) (hframe.same .ports (by decide)) hk
    obtain ⟨t, -, -, hclaim, -, htable, -⟩ := exec_passiveClaim_consumes hku tag i hc z clear (hsame ▸ hwait)
    exact ⟨u, hexec, hsame, t, hclaim, hsame ▸ htable⟩

end Sys2Proof.Machine
end

section
/-! The configuration store (R170, R171): its items as cells that CONFIG_WRITE replaces one at a time, its freezes, and
what the resets leave of both; from these the statement on writes, freezes, reads and resets. -/

namespace Sys2Proof.Machine
open Sys2Proof

/-! ### A value within a range -/

section Ranged
variable {α : Type} {lo hi v : Nat} {x y : α}

theorem ranged_eq_some_iff : ranged lo hi v x = some y ↔ (lo ≤ v ∧ v ≤ hi) ∧ x = y := by
  simp [ranged]

theorem isSome_ranged : (ranged lo hi v x).isSome = true ↔ lo ≤ v ∧ v ≤ hi := by
  simp [ranged]

end Ranged

/-! ### The items of a window's calibration (R170) -/

theorem Cal.isSome_withItem (c : Cal) (item v : Nat) : (c.withItem item v).isSome = true ↔
    item = 0 ∧ 200 ≤ v ∧ v ≤ 4000 ∧ c.pz ≤ v ∨ item = 1 ∧ 16 ≤ v ∧ v ≤ c.l ∨
      item = 2 ∧ v ≤ 7 ∨ item = 3 ∧ 1 ≤ v ∧ v ≤ 4 ∨ item = 4 ∧ 1 ≤ v ∧ v ≤ 65535 ∨ item = 5 ∧ v ≤ 255 ∨
      item = 6 ∧ v ≤ 1 ∨ item = 7 ∧ v ≤ 2047 ∨ item = 8 ∧ 50 ≤ v ∧ v ≤ 1000 := by
  match item with
  | 0 => by_cases hp : c.pz ≤ v <;> simp [Cal.withItem, isSome_ranged, hp]
  | 1 | 2 | 3 | 4 | 5 | 6 | 7 | 8 => simp [Cal.withItem, isSome_ranged]
  | n + 9 => simp [Cal.withItem]

theorem Cal.isSome_item (c : Cal) (i : Nat) : (c.item i).isSome = true ↔ i < 9 := by
  match i with
  | 0 | 1 | 2 | 3 | 4 | 5 | 6 | 7 | 8 => simp [Cal.item]
  | n + 9 => simp [Cal.item]

theorem bit_eq_of_le_one {v : Nat} (h : v ≤ 1) : bit (decide (v = 1)) = v :=
  match v, h with
  | 0, _ | 1, _ => rfl

theorem bit_coincidence_of_le_one {v : Nat} (h : v ≤ 1) :
    bit ((if v = 0 then Coincidence.effortOnly else .effortAndSpeed) = .effortAndSpeed) = v :=
  match v, h with
  | 0, _ | 1, _ => rfl

theorem kindSetNumber_kindSetOf {v : Nat} (h : v ≤ 15) : kindSetNumber (kindSetOf v) = v := by
  have hall : ∀ n : Fin 16, kindSetNumber (kindSetOf n.val) = n.val := by decide
  exact hall ⟨v, Nat.lt_succ_of_le h⟩

/-- Read over write: the written item holds the value, every other one what it held. -/
theorem Cal.item_withItem {c c' : Cal} {item v : Nat} (h : c.withItem item v = some c') (i : Nat) :
    c'.item i = if i = item then some v else c.item i := by
  match item with
  | 0 =>
    obtain ⟨-, -, rfl⟩ : c.pz ≤ v ∧ _ ∧ _ := by simpa [Cal.withItem, ranged_eq_some_iff] using h
    unfold Cal.item
    split <;> simp_all
  | 1 | 2 | 3 | 4 | 5 | 7 | 8 =>
    obtain ⟨-, rfl⟩ := ranged_eq_some_iff.mp h
    unfold Cal.item
    split <;> simp_all
  | 6 =>
    obtain ⟨⟨-, hv⟩, rfl⟩ := ranged_eq_some_iff.mp h
    unfold Cal.item
    split
    case h_7 => exact congrArg some (bit_coincidence_of_le_one hv)
    all_goals simp_all
  | n + 9 => cases h

/-! ### The items of the store (R170) -/

/-- An entry's place in a list without repetitions is the only one. -/
theorem getElem?_eq_iff_index_eq {α : Type} {l : List α} (hl : l.Nodup) {i j : Nat} {x y : α} (hx : l[i]? = some x)
    (hy : l[j]? = some y) : y = x ↔ j = i := by
  rw [← Option.some.injEq, ← hx, ← hy]
  exact List.getElem?_inj (List.getElem?_eq_some_iff.mp hy).1 hl

/-- R170: CONFIG_WRITE accepts exactly the values of the table of items. -/
theorem Configuration.isSome_withItem (c : Configuration) (g : Group) (item index v : Nat) :
    (c.withItem g item index v).isSome = true ↔ itemValid c g item index v := by
  cases g with
  | policy =>
    by_cases hi : index = 0
    case neg => simp [Configuration.withItem, itemValid, hi]
    case pos =>
      subst hi
      match item with
      | 0 | 1 | 2 | 3 => simp [Configuration.withItem, itemValid, isSome_ranged]
      | 4 => by_cases hv : v = 0 <;> simp [Configuration.withItem, itemValid, hv, isSome_ranged]
      | n + 5 =>
        have hinvalid : ¬ (n + 5 < 4 ∧ v ≤ 1 ∨ n + 5 = 4 ∧ (v = 0 ∨ 15 ≤ v ∧ v ≤ 120)) := by omega
        exact iff_of_false Bool.false_ne_true fun h => hinvalid h.2
  | windowCal =>
    unfold Configuration.withItem itemValid
    cases hw : Window.list[index]? with
    | none => simp
    | some w => simp [Cal.isSome_withItem]
  | supplyGain =>
    unfold Configuration.withItem itemValid
    by_cases hi : index < 16 <;> by_cases h0 : item = 0 <;> simp [hi, h0, isSome_ranged]
  | diagMask =>
    match item with
    | 0 =>
      cases hc : Channel.list[index]? with
      | none =>
        have hindex : 12 ≤ index := List.getElem?_eq_none_iff.mp hc
        simp [Configuration.withItem, itemValid, hc, Nat.not_lt.mpr hindex]
      | some ch =>
        have hindex : index < 12 := (List.getElem?_eq_some_iff.mp hc).1
        simp [Configuration.withItem, itemValid, hc, hindex, isSome_ranged]
    | 1 => by_cases hi : index = 0 <;> simp [Configuration.withItem, itemValid, hi, isSome_ranged]
    | n + 2 => simp [Configuration.withItem, itemValid]
  | fobTable => simp [Configuration.withItem, itemValid]

/-- R170: the items that CONFIG_READ finds are those of the table. -/
theorem Configuration.isSome_item (c : Configuration) (g : Group) (item index : Nat) :
    (c.item g item index).isSome = true ↔ itemExists g item index := by
  cases g with
  | policy =>
    by_cases hi : index = 0
    case neg => simp [Configuration.item, itemExists, hi]
    case pos =>
      subst hi
      match item with
      | 0 | 1 | 2 | 3 | 4 => simp [Configuration.item, itemExists]
      | n + 5 => simp [Configuration.item, itemExists]
  | windowCal =>
    cases hw : Window.list[index]? with
    | none =>
      have hindex : 4 ≤ index := List.getElem?_eq_none_iff.mp hw
      simp [Configuration.item, itemExists, hw, Nat.not_lt.mpr hindex]
    | some w =>
      have hindex : index < 4 := (List.getElem?_eq_some_iff.mp hw).1
      simp [Configuration.item, itemExists, hw, hindex, Cal.isSome_item]
  | supplyGain => by_cases h0 : item = 0 <;> simp [Configuration.item, itemExists, h0]
  | diagMask =>
    match item with
    | 0 => simp [Configuration.item, itemExists, show Channel.list.length = 12 from rfl]
    | 1 => by_cases hi : index = 0 <;> simp [Configuration.item, itemExists, hi]
    | n + 2 => simp [Configuration.item, itemExists]
  | fobTable => simp [Configuration.item, itemExists]

/-- The configuration `c'` is `c` with one item holding a new value: every other item, and every freeze, is as it was. -/
def Configuration.Replaces (c c' : Configuration) (g : Group) (item index v : Nat) : Prop :=
  c'.frozen = c.frozen ∧ ∀ (g' : Group) (item' index' : Nat),
    c'.item g' item' index' = if (g', item', index') = (g, item, index) then some v else c.item g' item' index'

section Write
variable {c c' : Configuration} {item index v : Nat}

/-- A write to one item of the POLICY group leaves the fields of the other groups. -/
theorem Configuration.replaces_of_policy_items (hcal : c'.cal = c.cal) (hgain : c'.gain = c.gain)
    (hchan : c'.chanMask = c.chanMask) (hglobal : c'.globalMask = c.globalMask) (hfrozen : c'.frozen = c.frozen)
    (hitems : ∀ i, c'.item .policy i 0 = if i = item then some v else c.item .policy i 0) :
    c.Replaces c' .policy item 0 v := by
  refine ⟨hfrozen, fun g' item' index' => ?_⟩
  cases g' with
  | policy =>
    by_cases hi : index' = 0
    · simpa [hi] using hitems item'
    · simp [Configuration.item, hi]
  | windowCal | supplyGain | diagMask | fobTable => simp [Configuration.item, hcal, hgain, hchan, hglobal]

theorem Configuration.replaces_policy (h : c.withItem .policy item index v = some c') :
    c.Replaces c' .policy item index v := by
  by_cases hi : index = 0
  case neg => simp [Configuration.withItem, hi] at h
  subst hi
  match item with
  | 0 | 1 | 2 | 3 =>
    obtain ⟨⟨-, hv⟩, rfl⟩ := ranged_eq_some_iff.mp h
    have hbit := bit_eq_of_le_one hv
    refine replaces_of_policy_items rfl rfl rfl rfl rfl fun i => ?_
    simp only [Configuration.item, if_true]
    split <;> simp_all
  | 4 =>
    obtain rfl : { c with relockTime := v } = c' := by
      by_cases hv : v = 0
      · simpa [Configuration.withItem, hv] using h
      · exact (ranged_eq_some_iff.mp (by simpa [Configuration.withItem, hv] using h)).2
    refine replaces_of_policy_items rfl rfl rfl rfl rfl fun i => ?_
    simp only [Configuration.item, if_true]
    split <;> simp_all
  | n + 5 => cases h

theorem Configuration.replaces_windowCal (h : c.withItem .windowCal item index v = some c') :
    c.Replaces c' .windowCal item index v := by
  unfold Configuration.withItem at h
  cases hw : Window.list[index]? with
  | none => simp [hw] at h
  | some w =>
    obtain ⟨k, hk, rfl⟩ : ∃ k, (c.cal.get w).withItem item v = some k ∧ { c with cal := c.cal.set w k } = c' := by
      simpa [hw] using h
    refine ⟨rfl, fun g' item' index' => ?_⟩
    cases g' with
    | windowCal =>
      unfold Configuration.item
      cases hw' : Window.list[index']? with
      | none =>
        have hne : index' ≠ index := by rintro rfl; simp [hw] at hw'
        simp [hne]
      | some w' =>
        have hplace := getElem?_eq_iff_index_eq (by decide) hw hw'
        by_cases hi : index' = index
        · simp [hplace.mpr hi, hi, Cal.item_withItem hk]
        · simp [hi, Windows.get_set, hplace]
    | policy | supplyGain | diagMask | fobTable => simp [Configuration.item]

theorem Configuration.replaces_supplyGain (h : c.withItem .supplyGain item index v = some c') :
    c.Replaces c' .supplyGain item index v := by
  unfold Configuration.withItem at h
  by_cases hindex : index < 16
  case neg => simp [hindex] at h
  obtain ⟨rfl, -, rfl⟩ : item = 0 ∧ v ≤ 32767 ∧ { c with gain := c.gain.set index v hindex } = c' := by
    simpa [hindex, ranged_eq_some_iff] using h
  refine ⟨rfl, fun g' item' index' => ?_⟩
  cases g' with
  | supplyGain =>
    by_cases hi : index' = index
    · by_cases h0 : item' = 0 <;> simp [Configuration.item, hi, hindex, h0]
    · simp [Configuration.item, hi, Ne.symm hi]
  | policy | windowCal | diagMask | fobTable => simp [Configuration.item]

theorem Configuration.replaces_diagMask (h : c.withItem .diagMask item index v = some c') :
    c.Replaces c' .diagMask item index v := by
  match item with
  | 0 =>
    unfold Configuration.withItem at h
    cases hc : Channel.list[index]? with
    | none => simp [hc] at h
    | some ch =>
      obtain ⟨hv, rfl⟩ : v ≤ 15 ∧ { c with chanMask := c.chanMask.set ch (kindSetOf v) } = c' := by
        simpa [hc, ranged_eq_some_iff] using h
      refine ⟨rfl, fun g' item' index' => ?_⟩
      cases g' with
      | diagMask =>
        match item' with
        | 0 =>
          unfold Configuration.item
          cases hc' : Channel.list[index']? with
          | none =>
            have hne : index' ≠ index := by rintro rfl; simp [hc] at hc'
            simp [hne]
          | some ch' =>
            have hplace := getElem?_eq_iff_index_eq (by decide) hc hc'
            by_cases hi : index' = index
            · simp [hplace.mpr hi, hi, kindSetNumber_kindSetOf hv]
            · simp [hi, Channels.get_set, hplace]
        | 1 | n + 2 => simp [Configuration.item]
      | policy | windowCal | supplyGain | fobTable => simp [Configuration.item]
  | 1 =>
    obtain ⟨rfl, hv, rfl⟩ : index = 0 ∧ v ≤ 15 ∧ { c with globalMask := kindSetOf v } = c' := by
      simpa [Configuration.withItem, ranged_eq_some_iff] using h
    refine ⟨rfl, fun g' item' index' => ?_⟩
    cases g' with
    | diagMask =>
      simp only [Configuration.item]
      split <;> simp_all [kindSetNumber_kindSetOf hv]
    | policy | windowCal | supplyGain | fobTable => simp [Configuration.item]
  | n + 2 => cases h

/-- R170: an accepted write replaces its item's value and leaves every other item and every freeze. -/
theorem Configuration.replaces_of_withItem {g : Group} (h : c.withItem g item index v = some c') :
    c.Replaces c' g item index v := by
  cases g with
  | policy => exact replaces_policy h
  | windowCal => exact replaces_windowCal h
  | supplyGain => exact replaces_supplyGain h
  | diagMask => exact replaces_diagMask h
  | fobTable => cases h

end Write

/-! ### Freezes (R171) -/

theorem Frozen.has_add (f : Frozen) (g g' : Group) : (f.add g).has g' = (f.has g' || decide (g' = g)) := by
  cases g <;> cases g' <;> simp [Frozen.add, Frozen.has]

/-! ### The fields of a configuration request (R170) -/

theorem pick_groups (g : Group) (q : List Byte) : pick groups (BitVec.ofNat 8 (groups.idxOf g) :: q) 0 = some g := by
  cases g <;> rfl

theorem fieldAt_configValue (b item index hi lo : Byte) :
    fieldAt [b, item, index, hi, lo] 3 2 = 256 * hi.toNat + lo.toNat := by
  simp [fieldAt, ofBytes]

/-! ### The decoder and the owners (R167, R170, R171) -/

/-- R167: a request that the decoder refuses is answered so with an empty payload, and nothing else changes. -/
theorem State.request_refused {s : State} {p : Port} (hk : s.canTake p) {k : Kind} {q : List Byte} {code : Code}
    (hd : s.decoderRefusal k p q = some code) (owner : List Byte → State → Reply) (tag : Byte) :
    s.request k owner p tag q = { s with ports := s.ports.set p (answered tag code []) } := by
  obtain ⟨-, hfree⟩ := hk
  simp [State.request, State.answering, State.judge, hd, hfree]
  rfl

/-- R167, R171: the decoder passes a whole CONFIG_WRITE to a group that is not frozen. -/
theorem State.decoderRefusal_configWrite_open {s : State} {g : Group} (hf : s.config.frozen.has g = false)
    (item index hi lo : Byte) :
    s.decoderRefusal .configWrite .b [BitVec.ofNat 8 (groups.idxOf g), item, index, hi, lo] = none := by
  simp [State.decoderRefusal, Kind.length, Kind.allows, State.writesFrozen, pick_groups, hf]

theorem State.live_of_not_held {s : State} (hl : s.resetLine = false) (f : State → State) : s.live f = f s := by
  simp [State.live, hl]

section Requests
variable {s : State} (hk : s.canTake .b) (tag : Byte) (g : Group)
include hk

theorem exec_configWrite (q : List Byte) : exec (.configWrite .b tag q) s =
    .next (s.request .configWrite State.ownConfigWrite .b tag q) :=
  congrArg Host.Outcome.next (State.live_of_not_held hk.1 _)

theorem exec_configRead (q : List Byte) : exec (.configRead .b tag q) s =
    .next (s.request .configRead State.ownConfigRead .b tag q) :=
  congrArg Host.Outcome.next (State.live_of_not_held hk.1 _)

theorem exec_configFreeze (q : List Byte) : exec (.configFreeze .b tag q) s =
    .next (s.request .configFreeze State.ownConfigFreeze .b tag q) :=
  congrArg Host.Outcome.next (State.live_of_not_held hk.1 _)

theorem exec_fobWrite (q : List Byte) : exec (.fobWrite .b tag q) s =
    .next (s.request .fobWrite State.ownFobWrite .b tag q) :=
  congrArg Host.Outcome.next (State.live_of_not_held hk.1 _)

/-- R171: CONFIG_FREEZE freezes its group. -/
theorem exec_configFreeze_group : exec (.configFreeze .b tag [BitVec.ofNat 8 (groups.idxOf g)]) s = .next { s with
    config := { s.config with frozen := s.config.frozen.add g }
    ports := s.ports.set .b (answered tag .ok []) } := by
  rw [exec_configFreeze hk, State.request_passed hk rfl, State.ownConfigFreeze, pick_groups]
  rfl

/-- R167, R171: a whole CONFIG_WRITE to a frozen group is answered FROZEN. -/
theorem exec_configWrite_frozen {q : List Byte} (hq : q.length = 4) (hf : s.config.frozen.has g = true) :
    exec (.configWrite .b tag (BitVec.ofNat 8 (groups.idxOf g) :: q)) s =
      .next { s with ports := s.ports.set .b (answered tag .frozen []) } := by
  have hd : s.decoderRefusal .configWrite .b (BitVec.ofNat 8 (groups.idxOf g) :: q) = some .frozen := by
    simp [State.decoderRefusal, Kind.length, Kind.allows, State.writesFrozen, pick_groups, hq, hf]
  rw [exec_configWrite hk, State.request_refused hk hd]

/-- R167, R171: a whole FOB_WRITE is answered FROZEN while FOB_TABLE is frozen. -/
theorem exec_fobWrite_frozen {q : List Byte} (hq : q.length = 6) (hf : s.config.frozen.fobTable = true) :
    exec (.fobWrite .b tag q) s = .next { s with ports := s.ports.set .b (answered tag .frozen []) } := by
  have hd : s.decoderRefusal .fobWrite .b q = some .frozen := by
    simp [State.decoderRefusal, Kind.length, Kind.allows, State.writesFrozen, hq, hf]
  rw [exec_fobWrite hk, State.request_refused hk hd]

/-- R170: a CONFIG_WRITE of a valid item to a group that is not frozen is answered OK. -/
theorem exec_configWrite_valid (hf : s.config.frozen.has g = false) {item index hi lo : Byte} {c : Configuration}
    (h : s.config.withItem g item.toNat index.toNat (256 * hi.toNat + lo.toNat) = some c) :
    exec (.configWrite .b tag [BitVec.ofNat 8 (groups.idxOf g), item, index, hi, lo]) s =
      .next (State.answer .b tag (s.applyConfig c g).accept) := by
  rw [exec_configWrite hk, State.request_passed hk (State.decoderRefusal_configWrite_open hf ..)]
  simp [State.ownConfigWrite, pick_groups, byteAt, fieldAt_configValue, h]

/-- R170: any other CONFIG_WRITE to a group that is not frozen is answered RANGE. -/
theorem exec_configWrite_range (hf : s.config.frozen.has g = false) {item index hi lo : Byte}
    (h : s.config.withItem g item.toNat index.toNat (256 * hi.toNat + lo.toNat) = none) :
    exec (.configWrite .b tag [BitVec.ofNat 8 (groups.idxOf g), item, index, hi, lo]) s =
      .next { s with ports := s.ports.set .b (answered tag .range []) } := by
  rw [exec_configWrite hk, State.request_passed hk (State.decoderRefusal_configWrite_open hf ..)]
  simp [State.ownConfigWrite, pick_groups, byteAt, fieldAt_configValue, h]
  rfl

/-- R170: a CONFIG_READ that finds a value answers it with the freeze of its group. -/
theorem exec_configRead_value {item index : Byte} {v : Nat} (h : s.configValue g item.toNat index.toNat = some v) :
    exec (.configRead .b tag [BitVec.ofNat 8 (groups.idxOf g), item, index]) s = .next { s with
      ports := s.ports.set .b (answered tag .ok (u16 v ++ u8 (if s.config.frozen.has g then 1 else 0))) } := by
  rw [exec_configRead hk, State.request_passed hk rfl]
  simp [State.ownConfigRead, pick_groups, byteAt, h]
  rfl

/-- R170: a CONFIG_READ that finds none is answered RANGE. -/
theorem exec_configRead_range {item index : Byte} (h : s.configValue g item.toNat index.toNat = none) :
    exec (.configRead .b tag [BitVec.ofNat 8 (groups.idxOf g), item, index]) s =
      .next { s with ports := s.ports.set .b (answered tag .range []) } := by
  rw [exec_configRead hk, State.request_passed hk rfl]
  simp [State.ownConfigRead, pick_groups, byteAt, h]
  rfl

end Requests

/-! ### An accepted write (R170) -/

/-- R83, R92, R135, R151: what a write makes other blocks do leaves the written configuration as it is. -/
theorem State.applyConfig_written (s : State) (c : Configuration) (g : Group) :
    Only [.touch, .win, .refs, .trace, .mon, .notices] { s with config := c } (s.applyConfig c g) := by
  unfold State.applyConfig
  extract_lets old written touched locked shifted
  have htouch : Only [.touch] written touched := by
    unfold touched
    split
    · exact Only.touch _ _
    · exact Only.refl _ _
  have hlock : Only [.win, .refs, .trace, .mon, .notices] touched locked := by
    unfold locked
    split
    · exact Only.foldl State.lockoutByPolicy_only _ _
    · exact Only.refl _ _
  have hshift : Only [.refs, .notices] locked shifted := Only.foldl (State.shiftWritten_only old) _ _
  have hshifted : Only [.touch, .win, .refs, .trace, .mon, .notices] written shifted :=
    hshift.after (by decide) (hlock.after (by decide) (htouch.mono (by decide)))
  split
  · exact (State.clearCounts_only _).after (by decide) hshifted
  · exact hshifted

theorem State.applyConfig_config (s : State) (c : Configuration) (g : Group) : (s.applyConfig c g).config = c :=
  (s.applyConfig_written c g).same .config (by decide)

theorem State.applyConfig_ports (s : State) (c : Configuration) (g : Group) : (s.applyConfig c g).ports = s.ports :=
  (s.applyConfig_written c g).same .ports (by decide)

/-- R170: an accepted write's value stands in the store after all that the write makes happen. -/
theorem State.applyConfig_replaces (s : State) {c : Configuration} {g : Group} {item index v : Nat}
    (h : s.config.withItem g item index v = some c) :
    s.config.Replaces (s.applyConfig c g).config g item index v := by
  rw [State.applyConfig_config]
  exact Configuration.replaces_of_withItem h

/-! ### Resets (R170, R171, R172) -/

/-- The configuration store and the fob table as a full reset leaves them. -/
theorem configDefaults_of_reset {t : State} (hc : t.config = .reset) (hf : t.fobs = .reset) : ConfigDefaults t := by
  unfold ConfigDefaults State.slotAt
  rw [hc, hf]
  refine ⟨fun g => by cases g <;> rfl, by decide, by decide, by decide, by decide, rfl, by decide⟩

/-- R172: the release of a reset changes neither the configuration store nor the fob table. -/
theorem State.released_only (s : State) (cause : ResetCause) (temp : Int) (v : Nat) :
    Only [.closures, .childs, .seq, .crash, .win, .refs, .trace, .mon, .notices] s (s.released cause temp v) :=
  (State.measureSupply_only _ v).after (by decide) ((State.measureTemp_only _ temp).after (by decide)
    ((State.raiseRestarted_only _ cause).after (by decide) ((State.startDetector_only s).mono (by decide))))

theorem configDefaults_released (s : State) (cause : ResetCause) (temp : Int) (v : Nat) :
    ConfigDefaults (s.fullReset.released cause temp v) :=
  have hframe := s.fullReset.released_only cause temp v
  configDefaults_of_reset (hframe.same .config (by decide)) (hframe.same .fobs (by decide))

theorem State.softReset_config (s : State) : s.softReset.config = s.config :=
  s.softReset_only.same .config (by decide)

/-- R70, R172: a soft reset ends the comfort session and keeps every slot of the fob table. -/
theorem State.softReset_slots (s : State) : s.softReset.fobs.slots = s.fobs.slots := by
  unfold State.softReset
  extract_lets cleared stopped confirmed
  have hcleared : Only [.seq, .mon] s cleared :=
    (State.clearQueue_only _).after (by decide) (Only.foldl State.abortOrdinary_only _ s)
  have hstopped : Only [.win, .refs, .trace, .mon, .notices] cleared stopped := Only.foldl State.softStop_only _ _
  have hclosures : Only [.closures, .seq, .mon, .notices] stopped (Closure.list.foldl State.softConfirm stopped) :=
    Only.foldl State.softConfirm_only _ _
  have hchilds : Only [.childs, .notices] (Closure.list.foldl State.softConfirm stopped) confirmed :=
    Only.foldl State.softChild_only _ _
  have hbefore : Only [.closures, .childs, .seq, .win, .refs, .trace, .mon, .notices] s confirmed :=
    hchilds.after (by decide) (hclosures.after (by decide) (hstopped.after (by decide) (hcleared.mono (by decide))))
  have hafter : Only [.seq, .mon, .notices] confirmed.softIdle (confirmed.softIdle.softCrash.raiseRestarted .soft) :=
    (State.raiseRestarted_only _ _).after (by decide) ((State.softCrash_only _).mono (by decide))
  calc (confirmed.softIdle.softCrash.raiseRestarted .soft).fobs.slots
      = confirmed.softIdle.fobs.slots := congrArg Fobs.slots (hafter.same .fobs (by decide))
    _ = confirmed.fobs.slots := rfl
    _ = s.fobs.slots := congrArg Fobs.slots (hbefore.same .fobs (by decide))

/-- R172: the soft reset that port B asked for is taken when its response has been sent. -/
theorem exec_responseSent_softReset {s : State} (hl : s.resetLine = false) (ha : (s.ports.get .b).engine = .answering)
    (hd : s.softResetDue = true) : exec (.responseSent .b) s = .next (s.idlePort .b).softReset := by
  refine congrArg Host.Outcome.next ((State.live_of_not_held hl _).trans ?_)
  simp [State.responseSent, State.answering, ha, State.idlePort, hd]

/-! ### The statement -/

/-- Settles O18: the items are cells of the store (`Configuration.Replaces`), what a write makes other blocks do keeps the
written configuration, and the resets' other operations leave the store and the fob table alone. -/
theorem configWriteAndFreeze : Obligations.ConfigWriteAndFreeze := by
  refine ⟨?freeze, ?write, ?frozen, ?read, ?fullResets, ?softReset⟩
  case freeze =>
    intro s tag g hk
    have hframe : Only [.config, .ports] s _ :=
      (State.setPort_only _ .b (answered tag .ok [])).after (by decide)
        ((Only.config s { s.config with frozen := s.config.frozen.add g }).mono (by decide))
    exact ⟨_, exec_configFreeze_group hk tag g, hframe, rfl, rfl, Frozen.has_add _ g⟩
  case write =>
    intro s tag g item index hi lo hk hf
    refine ⟨fun hvalid => ?_, fun hinvalid => ?_⟩
    · obtain ⟨c, hc⟩ := Option.isSome_iff_exists.mp ((Configuration.isSome_withItem ..).mpr hvalid)
      obtain ⟨hfrozen, hitems⟩ := s.applyConfig_replaces hc
      refine ⟨_, exec_configWrite_valid hk tag g hf hc, ?ports, ?frame, ?value, ?freezes, ?others⟩
      case ports => exact congrArg (Ports.set · .b _) (s.applyConfig_ports c g)
      case frame =>
        exact (State.setPort_only _ .b _).after (by decide) ((s.applyConfig_only c g).mono (by decide))
      case value => exact (hitems ..).trans (if_pos rfl)
      case freezes => exact hfrozen
      case others => exact fun g' item' index' hne => (hitems g' item' index').trans (if_neg hne)
    · refine exec_configWrite_range hk tag g hf (Option.not_isSome_iff_eq_none.mp fun hsome => ?_)
      exact hinvalid ((Configuration.isSome_withItem ..).mp hsome)
  case frozen =>
    intro s tag g q hk hf
    refine ⟨fun hq => exec_configWrite_frozen hk tag g hq hf, ?_⟩
    rintro rfl hq
    exact exec_fobWrite_frozen hk tag hq hf
  case read =>
    intro s tag g item index hk
    refine ⟨?_, fun hexists => ?_, fun hg hmissing => ?_⟩
    · rintro rfl
      exact exec_configRead_value hk tag _ rfl
    · obtain ⟨v, hv⟩ := Option.isSome_iff_exists.mp ((Configuration.isSome_item s.config ..).mpr hexists)
      have hg : g ≠ .fobTable := by rintro rfl; exact hexists
      exact ⟨v, hv, exec_configRead_value hk tag g (by simpa [State.configValue, hg] using hv)⟩
    · have hnone : s.config.item g item.toNat index.toNat = none :=
        Option.not_isSome_iff_eq_none.mp fun hsome => hmissing ((Configuration.isSome_item ..).mp hsome)
      exact exec_configRead_range hk tag g (by simpa [State.configValue, hg] using hnone)
  case fullResets =>
    intro s deg v
    refine ⟨fun hl => ⟨_, rfl, ?_⟩, fun hl => ⟨_, rfl, ?_⟩, _, rfl, configDefaults_of_reset rfl rfl⟩
    · have hl' : s.fullReset.resetLine = false := hl
      simpa [State.powerOn, hl'] using configDefaults_released s .powerOn deg v
    · simpa [State.releaseReset, hl] using configDefaults_released _ .resetLine deg v
  case softReset =>
    intro s hl ha hd
    exact ⟨_, exec_responseSent_softReset hl ha hd, State.softReset_config _, State.softReset_slots _⟩

end Sys2Proof.Machine
end

section
/-! What a command can touch: the frame of each command as a list of parts of the state, and how a property that rests on
other parts passes over it. From these the statement on the counters of the fob table. -/

namespace Sys2Proof.Machine
open Sys2Proof

/-! ### Requests and events -/

/-- A request row is its kind's owner behind the decoder (R163, R167). -/
theorem exec_command (k : Kind) (p : Port) (tag : Byte) (q : List Byte) (s : State) :
    exec (k.command p tag q) s = .next (s.live fun s => s.request k (ownerOf k p tag) p tag q) := by
  cases k <;> rfl

/-- The commands by case: a request row of any kind, or one of the other rows. -/
theorem Instr.casesRequest {motive : Instr → Prop}
    (request : ∀ k p tag q, motive (Kind.command k p tag q))
    (rawLineChange : ∀ r, motive (.rawLineChange r))
    (debounceExpiry : ∀ l, motive (.debounceExpiry l))
    (crashLineChange : ∀ b, motive (.crashLineChange b))
    (crashDetectorTimer : motive .crashDetectorTimer)
    (crashPulseEnd : ∀ c, motive (.crashPulseEnd c))
    (crashSettleEnd : ∀ c, motive (.crashSettleEnd c))
    (powerOn : ∀ deg v, motive (.powerOn deg v))
    (resetLineAssert : motive .resetLineAssert)
    (resetLineRelease : ∀ deg v, motive (.resetLineRelease deg v))
    (frameDiscarded : ∀ p, motive (.frameDiscarded p))
    (interByteTimeout : ∀ p, motive (.interByteTimeout p))
    (responseSent : ∀ p, motive (.responseSent p))
    (commandStart : motive .commandStart)
    (slotGrant : motive .slotGrant)
    (pulseEnd : ∀ a, motive (.pulseEnd a))
    (settleEnd : ∀ a, motive (.settleEnd a))
    (heatTick : motive .heatTick)
    (relockTimerExpiry : motive .relockTimerExpiry)
    (candidateExpiry : ∀ i, motive (.candidateExpiry i))
    (keepAliveExpiry : motive .keepAliveExpiry)
    (touchWindowExpiry : ∀ x, motive (.touchWindowExpiry x))
    (touchHoldExpiry : ∀ x, motive (.touchHoldExpiry x))
    (ripplePulse : ∀ w, motive (.ripplePulse w))
    (windowSample : ∀ w i v, motive (.windowSample w i v))
    (startWindowEnd : ∀ w, motive (.startWindowEnd w))
    (stallTimerExpiry : ∀ w, motive (.stallTimerExpiry w))
    (dwellEnd : ∀ w, motive (.dwellEnd w))
    (brakeEnd : ∀ w, motive (.brakeEnd w))
    (panelRefreshExpiry : ∀ w, motive (.panelRefreshExpiry w))
    (retainedPowerExpiry : motive .retainedPowerExpiry)
    (actuatorCurrentMeasurement : ∀ a code, motive (.actuatorCurrentMeasurement a code))
    (openLoadJudgement : ∀ ch, motive (.openLoadJudgement ch))
    (offStateTick : ∀ f, motive (.offStateTick f))
    (temperatureMeasurement : ∀ deg, motive (.temperatureMeasurement deg))
    (supplyMeasurement : ∀ v, motive (.supplyMeasurement v))
    (linkByteReceived : ∀ p b, motive (.linkByteReceived p b))
    (unknownKindRequest : ∀ p tag kind q, motive (.unknownKindRequest p tag kind q)) :
    ∀ c, motive c := by
  intro c
  cases c with
  | lock p tag q => exact request .lock p tag q
  | centralToggle p tag q => exact request .centralToggle p tag q
  | childSet p tag q => exact request .childSet p tag q
  | credential p tag q => exact request .credential p tag q
  | passiveClaim p tag q => exact request .passiveClaim p tag q
  | windowSwitch p tag q => exact request .windowSwitch p tag q
  | rearLockout p tag q => exact request .rearLockout p tag q
  | comfort p tag q => exact request .comfort p tag q
  | vehicleMode p tag q => exact request .vehicleMode p tag q
  | crashClear p tag q => exact request .crashClear p tag q
  | windowRestore p tag q => exact request .windowRestore p tag q
  | windowForget p tag q => exact request .windowForget p tag q
  | windowContextRead p tag q => exact request .windowContextRead p tag q
  | traceTrigger p tag q => exact request .traceTrigger p tag q
  | traceRead p tag q => exact request .traceRead p tag q
  | traceRewind p tag q => exact request .traceRewind p tag q
  | traceClear p tag q => exact request .traceClear p tag q
  | timeTagReset p tag q => exact request .timeTagReset p tag q
  | traceStatus p tag q => exact request .traceStatus p tag q
  | clearFault p tag q => exact request .clearFault p tag q
  | clearStatus p tag q => exact request .clearStatus p tag q
  | diagStatus p tag q => exact request .diagStatus p tag q
  | configWrite p tag q => exact request .configWrite p tag q
  | configRead p tag q => exact request .configRead p tag q
  | configFreeze p tag q => exact request .configFreeze p tag q
  | fobWrite p tag q => exact request .fobWrite p tag q
  | fobRead p tag q => exact request .fobRead p tag q
  | softReset p tag q => exact request .softReset p tag q
  | closureStatus p tag q => exact request .closureStatus p tag q
  | windowStatus p tag q => exact request .windowStatus p tag q
  | readNotices p tag q => exact request .readNotices p tag q
  | ackNotices p tag q => exact request .ackNotices p tag q
  | rawLineChange r => exact rawLineChange r
  | debounceExpiry l => exact debounceExpiry l
  | crashLineChange b => exact crashLineChange b
  | crashDetectorTimer => exact crashDetectorTimer
  | crashPulseEnd c => exact crashPulseEnd c
  | crashSettleEnd c => exact crashSettleEnd c
  | powerOn deg v => exact powerOn deg v
  | resetLineAssert => exact resetLineAssert
  | resetLineRelease deg v => exact resetLineRelease deg v
  | frameDiscarded p => exact frameDiscarded p
  | interByteTimeout p => exact interByteTimeout p
  | responseSent p => exact responseSent p
  | commandStart => exact commandStart
  | slotGrant => exact slotGrant
  | pulseEnd a => exact pulseEnd a
  | settleEnd a => exact settleEnd a
  | heatTick => exact heatTick
  | relockTimerExpiry => exact relockTimerExpiry
  | candidateExpiry i => exact candidateExpiry i
  | keepAliveExpiry => exact keepAliveExpiry
  | touchWindowExpiry x => exact touchWindowExpiry x
  | touchHoldExpiry x => exact touchHoldExpiry x
  | ripplePulse w => exact ripplePulse w
  | windowSample w i v => exact windowSample w i v
  | startWindowEnd w => exact startWindowEnd w
  | stallTimerExpiry w => exact stallTimerExpiry w
  | dwellEnd w => exact dwellEnd w
  | brakeEnd w => exact brakeEnd w
  | panelRefreshExpiry w => exact panelRefreshExpiry w
  | retainedPowerExpiry => exact retainedPowerExpiry
  | actuatorCurrentMeasurement a code => exact actuatorCurrentMeasurement a code
  | openLoadJudgement ch => exact openLoadJudgement ch
  | offStateTick f => exact offStateTick f
  | temperatureMeasurement deg => exact temperatureMeasurement deg
  | supplyMeasurement v => exact supplyMeasurement v
  | linkByteReceived p b => exact linkByteReceived p b
  | unknownKindRequest p tag kind q => exact unknownKindRequest p tag kind q

/-! ### Frames of the commands -/

/-- Every part of the state. -/
def Part.list : List Part :=
  [.pending, .now, .freeCount, .resetLine, .closures, .childs, .sensing, .seq, .crash, .fobs, .touch, .win, .pinch, .refs,
    .trace, .mon, .config, .ports, .staging, .softResetDue, .notices]

theorem Only.of_all (s t : State) : Only Part.list s t :=
  ⟨fun x hx => absurd (show x ∈ Part.list by cases x <;> decide) hx⟩

/-- The parts that the owner of a kind can change. -/
def Kind.parts : Kind → List Part
  | .lock | .centralToggle | .childSet => [.seq, .notices]
  | .credential => [.seq, .fobs, .win, .pinch, .refs, .trace, .mon, .notices]
  | .passiveClaim => [.seq, .fobs, .touch, .notices]
  | .windowSwitch | .comfort => [.win, .pinch, .refs, .trace, .mon, .notices]
  | .rearLockout | .vehicleMode => [.win, .refs, .trace, .mon, .notices]
  | .crashClear => [.crash, .win]
  | .windowRestore => [.win, .refs, .staging]
  | .windowForget => [.win, .refs]
  | .traceTrigger => [.trace, .notices]
  | .traceRead | .traceRewind | .traceClear | .timeTagReset => [.trace]
  | .clearFault => [.win, .mon]
  | .clearStatus => [.mon]
  | .configWrite => [.touch, .win, .refs, .trace, .mon, .config, .notices]
  | .configFreeze => [.config]
  | .fobWrite => [.fobs, .win, .refs, .trace, .mon, .notices]
  | .softReset => [.softResetDue]
  | .ackNotices => [.notices]
  | .windowContextRead | .traceStatus | .diagStatus | .configRead | .fobRead | .closureStatus | .windowStatus
  | .readNotices => []

theorem ownerOf_only (k : Kind) (p : Port) (tag : Byte) (q : List Byte) (s : State) :
    Only k.parts s (ownerOf k p tag q s).state := by
  cases k with
  | lock => exact State.ownLock_only ..
  | centralToggle => exact State.ownCentralToggle_only p tag q s
  | childSet => exact State.ownChildSet_only ..
  | credential => exact State.ownCredential_only ..
  | passiveClaim => exact State.ownPassiveClaim_only ..
  | windowSwitch => exact State.ownWindowSwitch_only ..
  | rearLockout => exact State.ownRearLockout_only ..
  | comfort => exact State.ownComfort_only ..
  | vehicleMode => exact State.ownVehicleMode_only ..
  | crashClear => exact State.ownCrashClear_only q s
  | windowRestore => exact State.ownWindowRestore_only ..
  | windowForget => exact State.ownWindowForget_only ..
  | windowContextRead => exact State.ownWindowContextRead_only ..
  | traceTrigger => exact State.ownTraceTrigger_only ..
  | traceRead => exact State.ownTraceRead_only q s
  | traceRewind => exact State.ownTraceRewind_only q s
  | traceClear => exact State.ownTraceClear_only q s
  | timeTagReset => exact State.ownTimeTagReset_only q s
  | traceStatus => exact State.ownTraceStatus_only q s
  | clearFault => exact State.ownClearFault_only ..
  | clearStatus => exact State.ownClearStatus_only ..
  | diagStatus => exact State.ownDiagStatus_only ..
  | configWrite => exact State.ownConfigWrite_only ..
  | configRead => exact State.ownConfigRead_only ..
  | configFreeze => exact State.ownConfigFreeze_only ..
  | fobWrite => exact State.ownFobWrite_only ..
  | fobRead => exact State.ownFobRead_only ..
  | softReset => exact State.ownSoftReset_only q s
  | closureStatus => exact State.ownClosureStatus_only q s
  | windowStatus => exact State.ownWindowStatus_only ..
  | readNotices => exact State.ownReadNotices_only ..
  | ackNotices => exact State.ownAckNotices_only ..

/-- The parts that an event can change; a request, as its own row or byte by byte, is judged by its kind's owner. -/
def Instr.eventParts : Instr → List Part
  | .rawLineChange _ => [.sensing]
  | .debounceExpiry _ =>
    [.now, .closures, .childs, .sensing, .seq, .touch, .win, .pinch, .refs, .trace, .mon, .notices]
  | .crashLineChange _ => [.crash]
  | .crashDetectorTimer => [.now, .closures, .childs, .seq, .crash, .win, .refs, .trace, .mon, .notices]
  | .crashPulseEnd _ => [.now, .seq, .mon]
  | .crashSettleEnd _ => [.now, .closures, .seq, .mon, .notices]
  | .frameDiscarded _ => [.ports]
  | .interByteTimeout _ => [.now, .ports]
  | .responseSent _ =>
    [.ports, .closures, .childs, .seq, .fobs, .touch, .win, .refs, .trace, .mon, .staging, .softResetDue, .notices]
  | .commandStart => [.closures, .childs, .seq, .win, .refs, .trace, .mon, .notices]
  | .slotGrant => [.closures, .childs, .seq, .mon, .notices]
  | .pulseEnd _ | .settleEnd _ => [.now, .closures, .childs, .seq, .mon, .notices]
  | .heatTick => [.now, .seq]
  | .relockTimerExpiry => [.now, .seq, .notices]
  | .candidateExpiry _ => [.now, .fobs]
  | .keepAliveExpiry => [.now, .fobs, .win, .refs, .trace, .mon, .notices]
  | .touchWindowExpiry _ | .touchHoldExpiry _ => [.now, .touch]
  | .ripplePulse _ => [.win, .pinch, .refs, .trace, .mon, .notices]
  | .windowSample .. => [.freeCount, .closures, .childs, .seq, .win, .pinch, .refs, .trace, .mon, .notices]
  | .startWindowEnd _ | .stallTimerExpiry _ | .panelRefreshExpiry _ | .retainedPowerExpiry =>
    [.now, .win, .refs, .trace, .mon, .notices]
  | .dwellEnd _ => [.now, .win, .pinch, .refs, .trace, .mon, .notices]
  | .brakeEnd _ => [.now, .win, .mon]
  | .actuatorCurrentMeasurement .. => [.closures, .childs, .seq, .win, .refs, .trace, .mon, .notices]
  | .openLoadJudgement _ => [.now, .mon, .notices]
  | .offStateTick _ => [.now, .win, .refs, .trace, .mon, .notices]
  | .temperatureMeasurement _ | .supplyMeasurement _ =>
    [.closures, .childs, .seq, .win, .refs, .trace, .mon, .notices]
  | _ => Part.list

theorem Only.live {ps : List Part} {s : State} {f : State → State} (h : Only ps s (f s)) : Only ps s (s.live f) := by
  unfold State.live
  split
  · exact Only.refl ps s
  · exact h

theorem State.linkTimeout_only (s : State) (p : Port) : Only [.now, .ports] s (s.linkTimeout p) := by
  unfold State.linkTimeout
  split
  · exact (State.discard_only _ p).after (by decide) ((State.reach_only s _).mono (by decide))
  · exact Only.refl _ s

theorem State.responseSent_only (s : State) (p : Port) : Only [.ports, .closures, .childs, .seq, .fobs, .touch, .win,
    .refs, .trace, .mon, .staging, .softResetDue, .notices] s (s.responseSent p) := by
  unfold State.responseSent
  extract_lets idle
  have hidle : Only [.ports, .closures, .childs, .seq, .fobs, .touch, .win, .refs, .trace, .mon, .staging, .softResetDue,
      .notices] s idle := (State.idlePort_only s p).mono (by decide)
  split
  · split
    · exact (State.softReset_only idle).after (by decide) hidle
    · exact hidle
  · exact Only.refl _ s

theorem State.offTick_only (s : State) (f : Channels Finding) : Only [.now, .win, .refs, .trace, .mon, .notices] s
    (let s := s.reach s.mon.offTickAt
     let s := { s with mon := { s.mon with offTickAt := s.mon.offTickAt + Config.offStatePeriod } }
     s.testAllOff f) :=
  (State.testAllOff_only _ f).after (by decide) ((Only.mon _ _).after (by decide) ((State.reach_only s _).mono (by decide)))

/-- What an event leaves alone. -/
theorem exec_event_only {c : Instr} {s t : State} (h : exec c s = .next t) : Only (Instr.eventParts c) s t := by
  cases c <;> first | exact Only.of_all s t | skip
  all_goals cases h
  case rawLineChange r => exact State.rawLine_only s r
  case crashLineChange b => exact State.crashLine_only s b
  all_goals refine Only.live ?_
  case debounceExpiry l => exact State.debounce_only s l
  case crashDetectorTimer => exact State.crashTimer_only s
  case crashPulseEnd c => exact State.crashPulseExpiry_only s c
  case crashSettleEnd c => exact State.crashSettleExpiry_only s c
  case frameDiscarded p => exact State.discard_only s p
  case interByteTimeout p => exact State.linkTimeout_only s p
  case responseSent p => exact State.responseSent_only s p
  case commandStart => exact State.tryHead_only s
  case slotGrant => exact State.grantSlot_only s
  case pulseEnd a => exact State.pulseExpiry_only s a
  case settleEnd a => exact State.settleExpiry_only s a
  case heatTick => exact State.heatTick_only s
  case relockTimerExpiry => exact State.relockExpiry_only s
  case candidateExpiry i => exact State.candidateEnd_only s i
  case keepAliveExpiry => exact State.keepAliveEnd_only s
  case touchWindowExpiry x => exact State.touchWindowEnd_only s x
  case touchHoldExpiry x => exact State.touchHoldEnd_only s x
  case ripplePulse w => exact State.ripple_only s w
  case windowSample w i v => exact State.sample_only s w i v
  case startWindowEnd w => exact State.startEnd_only s w
  case stallTimerExpiry w => exact State.stallEnd_only s w
  case dwellEnd w => exact State.dwellExpiry_only s w
  case brakeEnd w => exact State.brakeExpiry_only s w
  case panelRefreshExpiry w => exact State.panelExpiry_only s w
  case retainedPowerExpiry => exact State.retainedExpiry_only s
  case actuatorCurrentMeasurement a code => exact State.measure_only s a code
  case openLoadJudgement ch => exact State.drivePoint_only s ch
  case offStateTick f => exact State.offTick_only s f
  case temperatureMeasurement d => exact State.measureTemp_only s d
  case supplyMeasurement v => exact State.measureSupply_only s v

/-! ### Properties that rest on some parts of the state -/

/-- The property rests on the named parts alone: it passes between states that agree on them. -/
def RestsOn (ps : List Part) (P : State → Prop) : Prop := ∀ s t, (∀ x ∈ ps, Part.Same s t x) → P s → P t

/-- A change of other parts keeps a property. -/
theorem RestsOn.only {ps qs : List Part} {P : State → Prop} (hP : RestsOn ps P) {s t : State} (h : Only qs s t)
    (hd : ps.all (fun x => !qs.contains x) = true) (hs : P s) : P t :=
  hP s t (fun x hx => h.same x (by simpa using List.all_eq_true.mp hd x hx)) hs

section Exec
variable {P : State → Prop} {ps : List Part} (hP : RestsOn ps P) (hports : ps.all (fun x => ! [Part.ports].contains x) = true)
include hP hports

/-- A request keeps a property that its owner keeps. -/
theorem RestsOn.request {s : State} {k : Kind} {owner : List Byte → State → Reply} {p : Port} {q : List Byte}
    (howner : s.decoderRefusal k p q = none → P s → P (owner q s).state) (tag : Byte) (hs : P s) :
    P (s.request k owner p tag q) := by
  unfold State.request
  split
  · exact hs
  · have hjudge : P (s.judge k owner p q).state := by
      unfold State.judge
      split
      · exact hs
      next h => exact howner h hs
    exact hP.only (State.setPort_only _ p _) hports hjudge

/-- A frame by its kind byte keeps a property that every owner keeps. -/
theorem RestsOn.takeFrame {s : State} {p : Port} {tag kind : Byte} {q : List Byte}
    (howner : ∀ k, Kind.ofByte kind = some k → s.decoderRefusal k p q = none → P s → P (ownerOf k p tag q s).state)
    (hs : P s) : P (s.takeFrame p tag kind q) := by
  unfold State.takeFrame
  split
  next k hk => exact hP.request hports (howner k hk) tag hs
  next =>
    unfold State.unknownRequest
    split
    · exact hs
    · exact hP.only (State.setPort_only _ p _) hports hs

/-- A byte of a link keeps a property that the whole frame keeps which it may complete. -/
theorem RestsOn.linkByte {s : State} {p : Port} {b : Byte}
    (hframe : ∀ l tag kind rest, (s.ports.get p).buffer ++ [b] = l :: tag :: kind :: rest →
      State.wholeFrame (l :: tag :: kind :: rest) = true → P s → P (s.takeFrame p tag kind rest.dropLast))
    (hs : P s) : P (s.linkByte p b) := by
  have hport : ∀ e, P (s.setPort p e) := fun e => hP.only (State.setPort_only s p e) hports hs
  unfold State.linkByte State.frameEnd State.receiving State.idlePort
  dsimp only
  split
  · split
    · exact hport _
    · exact hs
  · exact hs
  · split
    · exact hport _
    split
    next hwhole =>
      split
      next l tag kind rest hsum heq => exact hframe l tag kind rest heq (heq ▸ hwhole) hs
      next => exact hport _
    · exact hport _

/-- Every request row, every whole frame by its kind byte and every byte of a link keep a property that the owners keep. -/
theorem RestsOn.exec_request (howner : ∀ k p tag q s, P s → P (ownerOf k p tag q s).state) {k : Kind} {p : Port}
    {tag : Byte} {q : List Byte} {s t : State} (ht : exec (k.command p tag q) s = .next t) (hs : P s) : P t := by
  rw [exec_command] at ht
  cases ht
  unfold State.live
  split
  · exact hs
  · exact hP.request hports (fun _ => howner k p tag q s) tag hs

theorem RestsOn.exec_unknownKind (howner : ∀ k p tag q s, P s → P (ownerOf k p tag q s).state) {kind : Byte} {p : Port}
    {tag : Byte} {q : List Byte} {s t : State} (ht : exec (.unknownKindRequest p tag kind q) s = .next t) (hs : P s) :
    P t := by
  cases ht
  unfold State.live
  split
  · exact hs
  · exact hP.takeFrame hports (fun k _ _ => howner k p tag q s) hs

theorem RestsOn.exec_linkByte (howner : ∀ k p tag q s, P s → P (ownerOf k p tag q s).state) {p : Port} {b : Byte}
    {s t : State} (ht : exec (.linkByteReceived p b) s = .next t) (hs : P s) : P t := by
  cases ht
  unfold State.live
  split
  · exact hs
  · refine hP.linkByte hports (fun l tag kind rest _ _ h => ?_) hs
    exact hP.takeFrame hports (fun k _ _ => howner k p tag _ s) h

end Exec

/-- A step keeps what every command keeps; on an empty queue it moves the time alone, or nothing. -/
theorem RestsOn.step {P : State → Prop} {ps : List Part} (hP : RestsOn ps P)
    (hpending : ps.all (fun x => ! [Part.pending].contains x) = true)
    (hnow : ps.all (fun x => ! [Part.now].contains x) = true)
    (hexec : ∀ c s t, exec c s = .next t → P s → P t) (s : State) (hs : P s) (t : State) (ht : step s = .next t) : P t := by
  unfold Machine.step at ht
  split at ht
  next c rest _ =>
    have hrest : Only [.pending] s (s.withPending rest) :=
      ⟨fun x hx => by cases x <;> first | rfl | exact absurd (List.mem_singleton.mpr rfl) hx⟩
    exact hexec c _ t ht (hP.only hrest hpending hs)
  next =>
    split at ht
    next c _ => exact hexec c s t ht hs
    next =>
      cases ht
      unfold State.tick
      split
      · exact hs
      · exact hP.only (Only.now s _) hnow hs

end Sys2Proof.Machine
end

section
/-! Counters of the fob table (R58 to R62): the classification of a counter, what each request leaves of the slots, and the
statement that a counter moves forward only. -/

namespace Sys2Proof.Machine
open Sys2Proof

/-! ### The distance of a counter (R58) -/

theorem counterDistance_eq_ahead (c counter : Nat) : (counterDistance c counter : Int) = ahead c counter := by
  unfold counterDistance ahead Config.counterModulus
  omega

theorem counterDistance_zero_iff (c counter : Nat) : counterDistance c counter = 0 ↔ ahead c counter = 0 := by
  rw [← counterDistance_eq_ahead]
  omega

/-- R58: a counter is accepted at a distance of 1 to 32,768 only. -/
theorem ahead_of_classify_accepted {f : FobSlot} {now c : Nat} {a : Option FobAction}
    (h : classify f now c a = .accepted) : 1 ≤ ahead c f.counter ∧ ahead c f.counter ≤ 32768 := by
  rw [← counterDistance_eq_ahead]
  unfold classify at h
  dsimp only at h
  split at h
  · split at h <;> cases h
  split at h
  · cases h
  omega

/-! ### The slots that an operation leaves (R66 to R68) -/

theorem State.endSession_slots (s : State) : s.endSession.fobs.slots = s.fobs.slots := by
  unfold State.endSession
  split
  · rw [(State.endHeldAll_only _ _).same .fobs (by decide)]; rfl
  · rfl

theorem State.replaceSession_slots (s : State) (i : Fin 8) (d : ComfortDir) :
    (s.replaceSession i d).fobs.slots = s.fobs.slots := by
  unfold State.replaceSession
  dsimp only [State.setSession]
  split
  · split
    · rfl
    · rw [(State.endHeldAll_only _ _).same .fobs (by decide)]
  · rfl

theorem State.comfortNew_slots (s : State) (i : Fin 8) (d : ComfortDir) (k : Command) :
    (s.comfortNew i d k).fobs.slots = s.fobs.slots := by
  unfold State.comfortNew
  rw [State.replaceSession_slots, (State.comfortAll_only _ _ _).same .fobs (by decide),
    (State.offer_only s k).same .fobs (by decide)]

theorem State.fobAction_slots (s : State) (i : Fin 8) (a : FobAction) (tag : Byte) :
    (s.fobAction i a tag).state.fobs.slots = s.fobs.slots := by
  have hcomfort : ∀ d, (s.comfortReply i d tag).state.fobs.slots = s.fobs.slots := by
    intro d
    unfold State.comfortReply
    split
    · rfl
    · exact State.comfortNew_slots ..
  cases a with
  | lock | unlock => exact congrArg Fobs.slots ((State.lockReply_only s i _ tag).same .fobs (by decide))
  | tailgate => exact congrArg Fobs.slots ((State.tailgatePair_only s _ tag).same .fobs (by decide))
  | comfortClose | comfortOpen => exact hcomfort _
  | comfortStop => exact State.endSession_slots s

theorem State.renewByDuplicate_slots (s : State) (i : Fin 8) (a : FobAction) :
    (s.renewByDuplicate i a).fobs.slots = s.fobs.slots := by
  unfold State.renewByDuplicate
  split
  · split <;> rfl
  · rfl

theorem State.softReset_idlePort_slots (s : State) (p : Port) : (s.idlePort p).softReset.fobs.slots = s.fobs.slots :=
  State.softReset_slots _

/-! ### Counters -/

/-- R62: the counter of slot `i` is the same in two states, or has moved forward by 1 to 32,768. -/
def CounterMoved (i : Fin 8) (s t : State) : Prop :=
  (t.slotAt i).counter = (s.slotAt i).counter ∨
    1 ≤ ahead (t.slotAt i).counter (s.slotAt i).counter ∧ ahead (t.slotAt i).counter (s.slotAt i).counter ≤ 32768

section Moved
variable {i : Fin 8} {s t u : State}

theorem CounterMoved.of_slots (h : t.fobs.slots = s.fobs.slots) : CounterMoved i s t :=
  .inl (by rw [State.slotAt, h]; rfl)

theorem CounterMoved.congr (h : CounterMoved i s t) (hslots : u.fobs.slots = t.fobs.slots) : CounterMoved i s u := by
  unfold CounterMoved State.slotAt at *
  rwa [hslots]

/-- Whether a counter has moved rests on the fob table alone. -/
theorem CounterMoved.restsOn (i : Fin 8) (s : State) : RestsOn [.fobs] (CounterMoved i s) :=
  fun _ _ hsame h => h.congr (congrArg Fobs.slots (hsame .fobs (by decide)))

theorem CounterMoved.only {ps : List Part} (h : Only ps s t) (hd : ps.contains .fobs = false) : CounterMoved i s t :=
  .of_slots (congrArg Fobs.slots (h.same .fobs (by simpa using hd)))

/-- A slot replaced by one with the same counter. -/
theorem CounterMoved.setSlot_same {j : Fin 8} {f : FobSlot} (h : f.counter = (s.slotAt j).counter) :
    CounterMoved i s (s.setSlot j f) := by
  left
  rw [State.setSlot_slotAt]
  split
  next hj => rw [h, hj]
  next => rfl

/-- R59 to R62: what the classification of a counter leaves of the slots. -/
theorem CounterMoved.applyCounter (j : Fin 8) (c : Nat) (a : Option FobAction) :
    CounterMoved i s (s.applyCounter j c a (classify (s.slotAt j) s.now c a)) := by
  cases hv : classify (s.slotAt j) s.now c a with
  | duplicate | stale | resyncNeeded => exact CounterMoved.setSlot_same rfl
  | accepted =>
    by_cases hj : i = j
    · subst hj
      right
      simpa [State.applyCounter, State.raiseFobCounter, State.setSlot_slotAt] using ahead_of_classify_accepted hv
    · left
      simp [State.applyCounter, State.raiseFobCounter, State.setSlot_slotAt, hj]

theorem CounterMoved.ownCredential (tag : Byte) (q : List Byte) : CounterMoved i s (State.ownCredential tag q s).state := by
  unfold State.ownCredential
  split
  next j a _ _ =>
    unfold State.credential
    split
    · exact .of_slots rfl
    · exact .of_slots rfl
    unfold State.judgeFrame
    have hcounter := CounterMoved.applyCounter (i := i) (s := s) j (fieldAt q 1 3) (some a)
    generalize classify (s.slotAt j) s.now (fieldAt q 1 3) (some a) = v at hcounter ⊢
    cases v with
    | duplicate => exact hcounter.congr (State.renewByDuplicate_slots _ j a)
    | stale | resyncNeeded => exact hcounter
    | accepted =>
      dsimp only
      split
      · exact hcounter.congr (State.fobAction_slots _ j a tag)
      · exact hcounter
  next => exact .of_slots rfl

theorem CounterMoved.ownPassiveClaim (tag : Byte) (q : List Byte) :
    CounterMoved i s (State.ownPassiveClaim tag q s).state := by
  unfold State.ownPassiveClaim
  split
  next x j z clear _ _ _ _ =>
    unfold State.claim
    split
    · exact .of_slots rfl
    · exact .of_slots rfl
    unfold State.claimSlot
    split
    · exact .of_slots rfl
    · exact .of_slots rfl
    split
    · unfold State.claimCounter
      have hcounter := CounterMoved.applyCounter (i := i) (s := s.setTouch x .idle) j (fieldAt q 2 3) none
      generalize classify ((s.setTouch x .idle).slotAt j) (s.setTouch x .idle).now (fieldAt q 2 3) none = v at hcounter ⊢
      cases v with
      | duplicate | stale | resyncNeeded => exact hcounter
      | accepted =>
        dsimp only
        split
        · exact hcounter
        · exact hcounter.congr (congrArg Fobs.slots ((State.claimAction_only _ x j tag).same .fobs (by decide)))
    · exact .of_slots rfl
  next => exact .of_slots rfl

/-- R55, R62: every owner but FOB_WRITE's leaves the counters or moves one forward. -/
theorem CounterMoved.owner {k : Kind} (hk : k ≠ .fobWrite) (p : Port) (tag : Byte) (q : List Byte) :
    CounterMoved i s (ownerOf k p tag q s).state := by
  cases k with
  | credential => exact .ownCredential tag q
  | passiveClaim => exact .ownPassiveClaim tag q
  | fobWrite => exact absurd rfl hk
  | _ => exact .only (ownerOf_only _ p tag q s) (by decide)

/-- R167: FOB_WRITE passes the decoder on port B alone, and with six payload bytes. -/
theorem State.decoderRefusal_fobWrite_passed {p : Port} {q : List Byte}
    (h : s.decoderRefusal .fobWrite p q = none) : p = .b ∧ q.length = 6 := by
  unfold State.decoderRefusal at h
  split at h
  · cases h
  next hlen =>
    split at h
    · cases h
    next hport =>
      simp only [Bool.or_eq_true, decide_eq_true_eq, not_or, Nat.not_lt] at hlen
      exact ⟨by simpa [Kind.allows] using hport, Nat.le_antisymm hlen.2 hlen.1⟩

/-- R62: a request leaves the counters or moves one forward, unless it is a FOB_WRITE of port B. -/
theorem CounterMoved.request {k : Kind} {p : Port} {q : List Byte}
    (hk : k = .fobWrite → p = .b → q.length = 6 → False) (tag : Byte) :
    s.decoderRefusal k p q = none → CounterMoved i s s → CounterMoved i s (ownerOf k p tag q s).state := by
  intro hd _
  refine CounterMoved.owner (fun he => ?_) p tag q
  obtain ⟨hp, hq⟩ := State.decoderRefusal_fobWrite_passed (he ▸ hd)
  exact hk he hp hq

theorem CounterMoved.live {f : State → State} (h : CounterMoved i s (f s)) : CounterMoved i s (s.live f) := by
  unfold State.live
  split
  · exact .of_slots rfl
  · exact h

end Moved

theorem Kind.ofByte_eq_fobWrite {b : Byte} (h : Kind.ofByte b = some .fobWrite) : b = 0x1A := by
  revert h
  revert b
  decide

theorem writesFobs_command {s : State} {k : Kind} {p : Port} {tag : Byte} {q : List Byte}
    (h : writesFobs s (k.command p tag q) = false) (hk : k = .fobWrite) : p ≠ .b := by
  subst hk
  simpa [Kind.command, writesFobs] using h

/-- The byte that completes a FOB_WRITE frame of port B is one of the commands that write the fob table. -/
theorem writesFobs_completed {s : State} {b l tag kind : Byte} {rest : List Byte}
    (hbytes : (s.ports.get .b).buffer ++ [b] = l :: tag :: kind :: rest)
    (hwhole : State.wholeFrame (l :: tag :: kind :: rest) = true) (hkind : kind = 0x1A)
    (hpayload : rest.dropLast.length = 6) : writesFobs s (.linkByteReceived .b b) = true := by
  have hlength : rest.length = l.toNat - 1 ∧ rest.length = 7 := by
    simp [State.wholeFrame] at hwhole hpayload
    omega
  have hbefore : s.ports.b.buffer = l :: tag :: kind :: rest.dropLast := by
    have h := congrArg List.dropLast hbytes
    have hrest : rest ≠ [] := by rintro rfl; cases hlength.2
    simpa [Ports.get, List.dropLast_cons_of_ne_nil, hrest] using h
  simp [writesFobs, hbefore, byteOf, hkind, hlength.2]
  omega

/-- Settles O25: requests judge a counter by the classification of R58, events touch no counter, and what the frame
carries that a byte completes is known from the bytes received before it. -/
theorem counterMovesForward : Obligations.CounterMovesForward := by
  intro s x i hx t ht
  show CounterMoved i s t
  have hrests := CounterMoved.restsOn i s
  have hself : CounterMoved i s s := .of_slots rfl
  cases x using Instr.casesRequest
  case request k p tag q =>
    rw [exec_command] at ht
    cases ht
    exact .live (hrests.request (by decide) (CounterMoved.request (fun hk hp _ => writesFobs_command hx hk hp) tag) tag hself)
  case powerOn | resetLineAssert | resetLineRelease => cases hx
  case candidateExpiry j =>
    cases ht
    refine .live ?_
    unfold State.candidateEnd
    split
    · exact CounterMoved.setSlot_same (s := s.reach _) rfl
    · exact hself
  case keepAliveExpiry =>
    cases ht
    refine .live ?_
    unfold State.keepAliveEnd
    split
    · exact .of_slots (State.endSession_slots _)
    · exact hself
  case responseSent p =>
    cases ht
    refine .live ?_
    unfold State.responseSent
    dsimp only
    split
    · split
      · exact .of_slots (State.softReset_slots _)
      · exact hself
    · exact hself
  case linkByteReceived p b =>
    cases ht
    refine .live (hrests.linkByte (by decide) (fun l tag kind rest hbytes hwhole _ => ?_) hself)
    refine hrests.takeFrame (by decide) (fun k hk => CounterMoved.request (fun he hp hq => ?_) tag) hself
    subst he hp
    rw [writesFobs_completed hbytes hwhole (Kind.ofByte_eq_fobWrite hk) hq] at hx
    cases hx
  case unknownKindRequest p tag kind q =>
    cases ht
    refine .live (hrests.takeFrame (by decide) (fun k hk => CounterMoved.request (fun he hp _ => ?_) tag) hself)
    subst he hp
    simp [writesFobs, Kind.ofByte_eq_fobWrite hk] at hx
  all_goals exact .only (exec_event_only ht) rfl

end Sys2Proof.Machine
end

section
/-! The queue law (R23): what the operations on the queue do to it, as facts about lists of entries. -/

namespace Sys2Proof.Machine
open Sys2Proof

/-- R23: two neighbours in the queue are not both PENDING of one kind and target. -/
def Distinct (e f : Entry) : Prop := e.running = false → f.running = false → e.kind ≠ f.kind

/-- A list of entries whose neighbours are distinct. -/
inductive Spaced : List Entry → Prop where
  | nil : Spaced []
  | singleton (e : Entry) : Spaced [e]
  | cons_cons {e f : Entry} {rest : List Entry} (h : Distinct e f) (hs : Spaced (f :: rest)) : Spaced (e :: f :: rest)

theorem spaced_cons_cons {e f : Entry} {rest : List Entry} :
    Spaced (e :: f :: rest) ↔ Distinct e f ∧ Spaced (f :: rest) :=
  ⟨fun h => by cases h with | cons_cons h hs => exact ⟨h, hs⟩, fun ⟨h, hs⟩ => .cons_cons h hs⟩

theorem Spaced.tail {e : Entry} {rest : List Entry} (h : Spaced (e :: rest)) : Spaced rest := by
  cases h with
  | singleton => exact .nil
  | cons_cons _ hs => exact hs

theorem spaced_iff_getElem? : ∀ q : List Entry,
    Spaced q ↔ ∀ (i : Nat) (e f : Entry), q[i]? = some e → q[i + 1]? = some f → Distinct e f
  | [] => ⟨fun _ _ _ _ he => by simp at he, fun _ => .nil⟩
  | [e] => ⟨fun _ i _ _ _ hf => by simp at hf, fun _ => .singleton e⟩
  | e :: f :: rest => by
    rw [spaced_cons_cons, spaced_iff_getElem? (f :: rest)]
    constructor
    · rintro ⟨hef, hrest⟩ i x y hx hy
      cases i with
      | zero => cases hx; cases hy; exact hef
      | succ i => exact hrest i x y hx hy
    · intro h
      exact ⟨h 0 e f rfl rfl, fun i x y hx hy => h (i + 1) x y hx hy⟩

theorem Spaced.suffix {l q : List Entry} (hq : Spaced q) (h : l <:+ q) : Spaced l := by
  obtain ⟨t, rfl⟩ := h
  induction t with
  | nil => exact hq
  | cons x t ih => exact ih hq.tail

theorem Spaced.of_append {l rest : List Entry} (h : Spaced (l ++ rest)) : Spaced l := by
  induction l with
  | nil => exact .nil
  | cons e l ih =>
    cases l with
    | nil => exact .singleton e
    | cons f l => exact .cons_cons (spaced_cons_cons.mp h).1 (ih (spaced_cons_cons.mp h).2)

/-- One entry more at the end: it is to be distinct from the last one. -/
theorem Spaced.concat {q : List Entry} {e : Entry} (hq : Spaced q) (hlast : ∀ f, q.getLast? = some f → Distinct f e) :
    Spaced (q ++ [e]) := by
  induction hq with
  | nil => exact .singleton e
  | singleton f => exact .cons_cons (hlast f rfl) (.singleton e)
  | cons_cons h _ ih => exact .cons_cons h (ih fun f hf => hlast f (by rwa [List.getLast?_cons_cons]))

/-- The queue law as three facts: its length, PENDING entries behind the head, and distinct neighbours. -/
theorem queueLaw_iff (q : List Entry) :
    QueueLaw q ↔ q.length ≤ 4 ∧ (∀ e ∈ q.tail, e.running = false) ∧ Spaced q := by
  unfold QueueLaw
  rw [spaced_iff_getElem?]
  rfl

/-! ### Removing entries -/

theorem pendingTail_sublist {l q : List Entry} (h : l.Sublist q) (hq : ∀ e ∈ q.tail, e.running = false) :
    ∀ e ∈ l.tail, e.running = false :=
  fun e he => hq e (h.tail.subset he)

theorem QueueLaw.suffix {l q : List Entry} (hq : QueueLaw q) (h : l <:+ q) : QueueLaw l := by
  rw [queueLaw_iff] at hq ⊢
  obtain ⟨hlen, htail, hchain⟩ := hq
  exact ⟨Nat.le_trans h.length_le hlen, pendingTail_sublist h.sublist htail, hchain.suffix h⟩

theorem QueueLaw.prefixed {l q : List Entry} (hq : QueueLaw q) (h : l <+: q) : QueueLaw l := by
  rw [queueLaw_iff] at hq ⊢
  obtain ⟨hlen, htail, hchain⟩ := hq
  refine ⟨Nat.le_trans h.length_le hlen, pendingTail_sublist h.sublist htail, ?_⟩
  obtain ⟨rest, rfl⟩ := h
  exact hchain.of_append

theorem dedupe_sublist : ∀ q : List Entry, (dedupe q).Sublist q
  | [] => .slnil
  | e :: rest => by
    have ih := dedupe_sublist rest
    unfold dedupe
    cases h : dedupe rest with
    | nil => simp
    | cons f more =>
      rw [h] at ih
      dsimp only
      split
      · exact (((List.sublist_cons_self f more).trans ih)).cons_cons e
      · exact ih.cons_cons e

/-- R23: after the removals no two PENDING neighbours are identical. -/
theorem dedupe_spaced : ∀ q : List Entry, Spaced (dedupe q)
  | [] => .nil
  | e :: rest => by
    have ih := dedupe_spaced rest
    unfold dedupe
    cases h : dedupe rest with
    | nil => exact .singleton e
    | cons f more =>
      rw [h] at ih
      dsimp only
      split
      next hsame =>
        obtain ⟨⟨he, hf⟩, hkind⟩ : (e.running = false ∧ f.running = false) ∧ e.kind = f.kind := by simpa using hsame
        cases more with
        | nil => exact .singleton e
        | cons g more =>
          obtain ⟨hfg, hmore⟩ := spaced_cons_cons.mp ih
          exact .cons_cons (fun _ hg => hkind ▸ hfg hf hg) hmore
      next hother => exact .cons_cons (fun he hf hkind => hother (by simp [he, hf, hkind])) ih

/-- Entries removed from a lawful queue, then the identical neighbours: the queue is lawful. -/
theorem QueueLaw.dedupe {l q : List Entry} (hq : QueueLaw q) (h : l.Sublist q) : QueueLaw (dedupe l) := by
  rw [queueLaw_iff] at hq ⊢
  obtain ⟨hlen, htail, -⟩ := hq
  have hsub := (dedupe_sublist l).trans h
  exact ⟨Nat.le_trans hsub.length_le hlen, pendingTail_sublist hsub htail, dedupe_spaced l⟩

theorem cancelled_sublist (k : CmdKind) (q : List Entry) : (cancelled k q).Sublist q := by
  unfold cancelled
  split
  · exact (dedupe_sublist _).trans List.filter_sublist
  · exact List.Sublist.refl q

theorem QueueLaw.cancelled {q : List Entry} (hq : QueueLaw q) (k : CmdKind) : QueueLaw (cancelled k q) := by
  unfold Machine.cancelled
  split
  · exact hq.dedupe List.filter_sublist
  · exact hq

/-! ### Adding entries -/

/-- R23: a new entry joins a queue with a place free whose newest PENDING entry is of another kind. -/
theorem QueueLaw.append {q : List Entry} (hq : QueueLaw q) {e : Entry} (hlen : q.length < 4) (he : e.running = false)
    (hnew : ∀ f, newestPending q = some f → f.kind ≠ e.kind) : QueueLaw (q ++ [e]) := by
  rw [queueLaw_iff] at hq ⊢
  obtain ⟨-, htail, hchain⟩ := hq
  refine ⟨by rw [List.length_append]; exact hlen, ?_, hchain.concat ?_⟩
  · intro f hf
    cases q with
    | nil => cases hf
    | cons x rest =>
      rcases List.mem_append.mp (show f ∈ rest ++ [e] from hf) with h | h
      · exact htail f h
      · rw [List.mem_singleton.mp h, he]
  · intro f hf hfp _
    exact hnew f (by simp [newestPending, hf, hfp])

/-- R37: a PENDING entry is placed before the first PENDING entry, which is of another kind. -/
theorem QueueLaw.insertFront {q : List Entry} (hq : QueueLaw q) {e : Entry} (hlen : q.length < 4)
    (he : e.running = false) (hnew : ∀ f, State.firstPending q = some f → f.kind ≠ e.kind) : QueueLaw (State.insertFront e q) := by
  rw [queueLaw_iff] at hq ⊢
  obtain ⟨-, htail, hchain⟩ := hq
  cases q with
  | nil => exact ⟨by simp [State.insertFront], by simp [State.insertFront], .singleton e⟩
  | cons h rest =>
    have hrest : rest.length + 2 ≤ 4 := by simpa [Nat.succ_le_iff] using hlen
    rw [State.insertFront]
    split
    next hrun =>
      refine ⟨hrest, ?_, ?_⟩
      · intro f hf
        rcases List.mem_cons.mp hf with rfl | hf
        · exact he
        · exact htail f hf
      · refine .cons_cons (fun hh => absurd hh (by simp [hrun])) ?_
        cases rest with
        | nil => exact .singleton e
        | cons f more =>
          obtain ⟨-, hmore⟩ := spaced_cons_cons.mp hchain
          refine .cons_cons (fun _ hf hkind => hnew f ?_ hkind.symm) hmore
          simp [State.firstPending, hrun, hf]
    next hpending =>
      have hh : h.running = false := by simpa using hpending
      refine ⟨hrest, ?_, .cons_cons (fun _ _ hkind => hnew h ?_ hkind.symm) hchain⟩
      · intro f hf
        rcases List.mem_cons.mp hf with rfl | hf
        · exact hh
        · exact htail f hf
      · simp [State.firstPending, hh]

/-- The state of the head alone decides nothing of the law but for its neighbour. -/
theorem QueueLaw.start {e : Entry} {rest : List Entry} (hq : QueueLaw (e :: rest)) (k : CmdKind) :
    QueueLaw ({ e with kind := k, running := true } :: rest) := by
  rw [queueLaw_iff] at hq ⊢
  obtain ⟨hlen, htail, hchain⟩ := hq
  refine ⟨hlen, htail, ?_⟩
  cases rest with
  | nil => exact .singleton _
  | cons f more => exact .cons_cons (fun h => by cases h) (spaced_cons_cons.mp hchain).2

/-- R46, step 3: the head returns to PENDING and the identical neighbours go. -/
theorem QueueLaw.returnHead {e : Entry} {rest : List Entry} (hq : QueueLaw (e :: rest)) :
    QueueLaw (Machine.dedupe ({ e with running := false } :: rest)) := by
  rw [queueLaw_iff] at hq ⊢
  obtain ⟨hlen, htail, -⟩ := hq
  have hsub := dedupe_sublist ({ e with running := false } :: rest)
  exact ⟨Nat.le_trans hsub.length_le hlen, pendingTail_sublist hsub htail, dedupe_spaced _⟩

/-! ### The steps of an offer (R23) -/

section Offer
variable {s : State} {c : Command}

/-- R23: an offer answered OK finds a place free behind a newest PENDING entry of another kind. -/
theorem placement_ok (h : s.placement c = .ok) : (cancelled c.kind s.seq.queue).length < 4 ∧
    ∀ f, newestPending (cancelled c.kind s.seq.queue) = some f → f.kind ≠ c.kind := by
  unfold State.placement at h
  dsimp only at h
  split at h
  next f hf =>
    split at h
    · cases h
    next hkind =>
      split at h
      · cases h
      next hlen => exact ⟨by omega, fun g hg => by rw [hf] at hg; cases hg; exact hkind⟩
  next hnone =>
    split at h
    · cases h
    next hlen => exact ⟨by omega, fun g hg => by rw [hnone] at hg; cases hg⟩

/-- R22: a refusal of the acceptance checks is not OK. -/
theorem acceptance_not_accepted {code : Code} (h : s.acceptance c = some code) : code.accepted = false := by
  unfold State.acceptance at h
  repeat' split at h
  all_goals cases h
  all_goals rfl

/-- R22, R23: an accepted offer has passed the acceptance checks and is placed. -/
theorem offerCode_accepted (h : (s.offerCode c).accepted = true) :
    s.acceptance c = none ∧ s.offerCode c = s.placement c := by
  unfold State.offerCode at *
  cases hc : s.acceptance c with
  | none => exact ⟨rfl, rfl⟩
  | some code =>
    rw [hc] at h
    rw [Option.getD_some, acceptance_not_accepted hc] at h
    cases h

theorem recordRepeat_queue (s : State) (c : Command) : (s.recordRepeat c).seq.queue = s.seq.queue := by
  unfold State.recordRepeat
  split <;> rfl

theorem raiseCancelled_foldl_only (s : State) (l : List Entry) : Only [.notices] s (l.foldl State.raiseCancelled s) :=
  Only.foldl State.raiseCancelled_only l s

/-- R23: the queue that an offer leaves. -/
theorem State.offer_queue (s : State) (c : Command) : (s.offer c).seq.queue =
    if (s.offerCode c).accepted then
      if s.offerCode c = .ok then cancelled c.kind s.seq.queue ++ [c.entry] else cancelled c.kind s.seq.queue
    else s.seq.queue := by
  unfold State.offer
  dsimp only
  split
  · rw [recordRepeat_queue]; rfl
  · rfl

/-- R23: an offer keeps the queue law. -/
theorem QueueLaw.offer (hq : QueueLaw s.seq.queue) : QueueLaw (s.offer c).seq.queue := by
  rw [State.offer_queue]
  split
  next hacc =>
    obtain ⟨-, hcode⟩ := offerCode_accepted hacc
    split
    next hok =>
      obtain ⟨hlen, hnew⟩ := placement_ok (hcode ▸ hok)
      exact (hq.cancelled c.kind).append hlen rfl hnew
    next => exact hq.cancelled c.kind
  next => exact hq

end Offer

/-! ### The relock of an AJAR latch (R37) -/

theorem newestPending_isSome {q : List Entry} (hq : QueueLaw q) (hlen : 4 ≤ q.length) : (newestPending q).isSome = true := by
  obtain ⟨-, htail, -⟩ := hq
  match q, hlen with
  | h :: f :: rest, _ =>
    have hlast : (h :: f :: rest).getLast? = some ((f :: rest).getLast (by simp)) := by
      simp [List.getLast?_eq_some_getLast]
    have hpending := htail _ (List.getLast_mem (show f :: rest ≠ [] by simp))
    simp [newestPending, hlast, hpending]

theorem firstPending_dropLast {q : List Entry} {f : Entry} (h : State.firstPending q.dropLast = some f) :
    State.firstPending q = some f := by
  unfold State.firstPending at *
  by_cases hq : q = []
  · subst hq
    exact h
  · obtain ⟨l, x, rfl⟩ : ∃ l x, q = l ++ [x] := ⟨_, _, (List.dropLast_concat_getLast hq).symm⟩
    rw [List.dropLast_concat] at h
    simp [List.find?_append, h]

theorem QueueLaw.superlockRelock {s : State} (hq : QueueLaw s.seq.queue) : QueueLaw s.superlockRelock.seq.queue := by
  unfold State.superlockRelock
  extract_lets q first unlock c
  split
  · exact hq
  next relocked hskip =>
    have hfirst : ∀ f, State.firstPending q = some f → f.kind ≠ .lockAll := by
      intro f hf hkind
      exact hskip (by simp [first, hf, hkind])
    rw [recordRepeat_queue]
    unfold relocked
    split
    next e hlong _ =>
      have hlen : s.seq.queue.dropLast.length < 4 := by
        have h4 : 4 ≤ s.seq.queue.length := of_decide_eq_true hlong
        have hle : s.seq.queue.length ≤ 4 := hq.1
        rw [List.length_dropLast]
        omega
      exact (hq.prefixed (List.dropLast_prefix _)).insertFront hlen rfl fun f hf => hfirst f (firstPending_dropLast hf)
    next hother =>
      refine hq.insertFront ?_ rfl hfirst
      refine Decidable.byContradiction fun hlen => ?_
      obtain ⟨e, he⟩ := Option.isSome_iff_exists.mp (newestPending_isSome hq (Nat.not_lt.mp hlen))
      exact hother e (decide_eq_true (Nat.not_lt.mp hlen)) he

end Sys2Proof.Machine
end

section
/-! The queue law and the crash law over the operations of the lock sequencer and the crash response (R2, R23, R46, R51),
and the statement that every step keeps them. -/

namespace Sys2Proof.Machine
open Sys2Proof

/-! ### Writes of the closure table (R4) -/

@[simp] theorem State.writeClosure_closures (s : State) (c : Closure) (r : ClosureRec) :
    (s.writeClosure c r).closures = s.closures.set c r := by
  unfold State.writeClosure
  split <;> rfl

@[simp] theorem State.writeChild_childs (s : State) (r : Rear) (v : ChildRec) :
    (s.writeChild r v).childs = s.childs.set r v := by
  unfold State.writeChild
  split <;> rfl

theorem State.writeClosure_closure (s : State) (c : Closure) (r : ClosureRec) (c' : Closure) :
    (s.writeClosure c r).closure c' = if c' = c then r else s.closure c' := by
  rw [State.closure, State.writeClosure_closures, Closures.get_set]
  rfl

theorem State.writeChild_childOf (s : State) (r : Rear) (v : ChildRec) (r' : Rear) :
    (s.writeChild r v).childOf r' = if r' = r then v else s.childOf r' := by
  rw [State.childOf, State.writeChild_childs, Rears.get_set]
  rfl

theorem State.writeGoal_lockGoal (s : State) (c : Closure) (g : LockPos) (src : LastSource) (c' : Closure) :
    ((s.writeGoal c g src).closure c').lockGoal = if c' = c then g else (s.closure c').lockGoal := by
  rw [State.writeGoal, State.writeClosure_closure]
  split <;> rfl

/-! ### Operations that ease the lock laws -/

/-- The crash latch and every lock_goal are the same in two states, and the queue has lost entries at its head at most. -/
structure LockEases (s t : State) : Prop where
  latch : t.crash.latch = s.crash.latch
  goals : ∀ c, (t.closure c).lockGoal = (s.closure c).lockGoal
  queue : t.seq.queue <:+ s.seq.queue

theorem suffix_of_seq_eq {s t : State} (h : t.seq = s.seq) : t.seq.queue <:+ s.seq.queue := h ▸ List.suffix_refl _

theorem LockLaw.eases {s t : State} (hs : LockLaw s) (h : LockEases s t) : LockLaw t := by
  obtain ⟨hqueue, hcrash⟩ := hs
  refine ⟨hqueue.suffix h.queue, fun hl => ?_⟩
  obtain ⟨hgoals, hchild⟩ := hcrash (h.latch ▸ hl)
  exact ⟨fun c => (h.goals c).trans (hgoals c), fun e he => hchild e (h.queue.subset he)⟩

namespace LockEases

theorem refl (s : State) : LockEases s s := ⟨rfl, fun _ => rfl, List.suffix_refl _⟩

theorem trans {s t u : State} (h : LockEases s t) (k : LockEases t u) : LockEases s u :=
  ⟨k.latch.trans h.latch, fun c => (k.goals c).trans (h.goals c), k.queue.trans h.queue⟩

theorem of_only {ps : List Part} {s t : State} (h : Only ps s t)
    (hd : [Part.crash, .closures, .seq].all (fun x => !ps.contains x) = true) : LockEases s t := by
  have hmem : ∀ x ∈ [Part.crash, .closures, .seq], x ∉ ps := fun x hx => by
    simpa using List.all_eq_true.mp hd x hx
  refine ⟨?_, fun c => ?_, ?_⟩
  · rw [h.same .crash (hmem _ (by decide))]
  · rw [State.closure, h.same .closures (hmem _ (by decide))]; rfl
  · exact suffix_of_seq_eq (h.same .seq (hmem _ (by decide)))

theorem foldl {β : Type} {f : State → β → State} (hf : ∀ t a, LockEases t (f t a)) :
    ∀ (l : List β) (s : State), LockEases s (l.foldl f s)
  | [], s => refl s
  | a :: l, s => (hf s a).trans (foldl hf l (f s a))

variable (s : State)

theorem reach (n : Nat) : LockEases s (s.reach n) := .of_only (State.reach_only s n) rfl

theorem setOp (a : Actuator) (o : Option Op) : LockEases s (s.setOp a o) := ⟨rfl, fun _ => rfl, List.suffix_refl _⟩

theorem setRelock (d : Option Nat) : LockEases s (s.setRelock d) := ⟨rfl, fun _ => rfl, List.suffix_refl _⟩

theorem addHeat (a : Actuator) : LockEases s (s.addHeat a) := by
  cases a <;> exact ⟨rfl, fun _ => rfl, List.suffix_refl _⟩

theorem offChan (ch : Channel) : LockEases s (s.offChan ch) := .of_only (State.offChan_only s ch) rfl

theorem driveChan (ch : Channel) (d : Drive) : LockEases s (s.driveChan ch d) := .of_only (State.driveChan_only s ch d) rfl

/-- A closure record is written with the goal that it had. -/
theorem writeClosure (c : Closure) {r : ClosureRec} (h : r.lockGoal = (s.closure c).lockGoal) :
    LockEases s (s.writeClosure c r) := by
  have hframe := State.writeClosure_only s c r
  refine ⟨?_, fun c' => ?_, ?_⟩
  · rw [hframe.same .crash (by decide)]
  · rw [State.writeClosure_closure]
    split
    next hc => rw [h, hc]
    next => rfl
  · exact suffix_of_seq_eq (hframe.same .seq (by decide))

theorem writeConfirmed (c : Closure) (v : Bool) : LockEases s (s.writeConfirmed c v) := writeClosure s c rfl

theorem raiseActuationFailed (c : Closure) (why : FailReason) (p : Option Port) :
    LockEases s (s.raiseActuationFailed c why p) := .of_only (State.raiseActuationFailed_only s c why p) rfl

/-! #### The ends of operations (R25, R29 to R31) -/

theorem finishIfDone : LockEases s s.finishIfDone := by
  unfold State.finishIfDone
  split
  next e rest hq =>
    split
    · exact ⟨rfl, fun _ => rfl, hq ▸ List.suffix_cons e rest⟩
    · exact refl s
  next => exact refl s

theorem confirmEnd (a : Actuator) (v : Bool) : LockEases s (s.confirmEnd a v) := by
  cases a with
  | l c => exact writeConfirmed s c v
  | c r => exact .of_only (State.writeChildConfirmed_only s r v) rfl
  | t1 => exact refl s

theorem dropOp (a : Actuator) : LockEases s (s.dropOp a) := by
  unfold State.dropOp
  dsimp only
  split
  · split
    · exact (offChan s _).trans (setOp _ a none)
    · exact setOp s a none
  · exact setOp s a none

theorem endSuccess (a : Actuator) : LockEases s (s.endSuccess a) :=
  ((dropOp s a).trans (confirmEnd _ a true)).trans (finishIfDone _)

theorem endFailed (a : Actuator) (why : FailReason) : LockEases s (s.endFailed a why) :=
  (((dropOp s a).trans (confirmEnd _ a false)).trans (raiseActuationFailed _ _ why _)).trans (finishIfDone _)

theorem startPulse (a : Actuator) (o : Op) : LockEases s (s.startPulse a o) :=
  ((setOp s a _).trans (driveChan _ _ _)).trans (addHeat _ a)

theorem pulseCheck (a : Actuator) : LockEases s (s.pulseCheck a) := by
  unfold State.pulseCheck
  repeat' split
  · exact refl s
  · exact endFailed s a _
  · exact endFailed s a _
  · exact refl s
  · exact startPulse s a _

theorem grantSlot : LockEases s s.grantSlot := by
  unfold State.grantSlot
  split
  · exact refl s
  next a _ =>
    dsimp only
    split
    · exact (setOp s a _).trans (pulseCheck _ a)
    · exact pulseCheck s a

theorem endPulse (a : Actuator) (o : Op) : LockEases s (s.endPulse a o) := by
  cases a with
  | t1 => exact endSuccess s .t1
  | l _ | c _ => exact (offChan s _).trans (setOp _ _ _)

theorem endSettle (a : Actuator) (o : Op) : LockEases s (s.endSettle a o) := by
  unfold State.endSettle
  repeat' split
  · exact endSuccess s a
  · exact endFailed s a _
  · exact setOp s a _

theorem dropPulse (a : Actuator) : LockEases s (s.dropPulse a) := by
  unfold State.dropPulse
  repeat' split
  · exact (offChan s _).trans (setOp _ a _)
  · exact refl s
  · exact refl s

theorem resumePulse (a : Actuator) : LockEases s (s.resumePulse a) := by
  unfold State.resumePulse
  repeat' split
  · exact pulseCheck s a
  · exact refl s
  · exact refl s

theorem thermalAbort (a : Actuator) : LockEases s (s.thermalAbort a) := by
  unfold State.thermalAbort
  repeat' split
  · exact refl s
  · exact ((dropOp s a).trans (confirmEnd _ a _)).trans (raiseActuationFailed _ _ _ _)
  · exact refl s

theorem thermalAborts : LockEases s s.thermalAborts :=
  (foldl thermalAbort _ s).trans (finishIfDone _)

/-! #### Crash operations (R46, R48, R53) -/

theorem driveCrash (c : Closure) (n : Nat) : LockEases s (s.driveCrash c n) :=
  ((setOp s _ _).trans (driveChan _ _ _)).trans (addHeat _ _)

theorem createCrash (c : Closure) : LockEases s (s.createCrash c) := driveCrash s c 4

theorem refreshCrash : LockEases s s.refreshCrash :=
  foldl (fun t c => by
    split
    · exact createCrash t c
    · exact refl t) _ s

theorem abortOrdinary (a : Actuator) : LockEases s (s.abortOrdinary a) := by
  unfold State.abortOrdinary
  repeat' split
  · exact refl s
  · exact dropOp s a
  · exact refl s

theorem endCrashPulse (c : Closure) (o : Op) : LockEases s (s.endCrashPulse c o) := (offChan s _).trans (setOp _ _ _)

theorem failCrash (c : Closure) (why : FailReason) : LockEases s (s.failCrash c why) :=
  ((dropOp s _).trans (writeConfirmed _ c false)).trans (raiseActuationFailed _ c why none)

theorem endCrashSettle (c : Closure) (o : Op) : LockEases s (s.endCrashSettle c o) := by
  unfold State.endCrashSettle
  repeat' split
  · exact (dropOp s _).trans (writeConfirmed _ c true)
  · exact failCrash s c _
  · exact driveCrash s c _

theorem abortCrash (c : Closure) : LockEases s (s.abortCrash c) := by
  unfold State.abortCrash
  repeat' split
  · exact (dropOp s _).trans (writeConfirmed _ c _)
  · exact refl s
  · exact refl s

theorem softConfirm (c : Closure) : LockEases s (s.softConfirm c) := by
  unfold State.softConfirm
  repeat' split
  · exact abortCrash s c
  · exact refl s
  · exact writeConfirmed s c false

/-! #### Overcurrent, temperature and supply (R30, R42, R155) -/

theorem overcurrentEnd (a : Actuator) : LockEases s (s.overcurrentEnd a) := by
  unfold State.overcurrentEnd
  repeat' split
  · exact failCrash s _ _
  · exact endFailed s _ _
  · exact refl s
  · exact refl s

theorem detectOvercurrent (ch : Channel) : LockEases s (s.detectOvercurrent ch) := by
  unfold State.detectOvercurrent
  extract_lets fresh faulted withdrawn
  have hwithdrawn : LockEases s withdrawn :=
    ((of_only (State.faultFound_only s ch .overcurrent) rfl).trans (offChan _ ch)).trans
      (of_only (State.withdraw_only _ ch) rfl)
  cases ch with
  | w w =>
    dsimp only
    split
    · exact hwithdrawn.trans (of_only (State.trigger_only _ w _) rfl)
    · exact hwithdrawn
  | act a => exact hwithdrawn.trans (overcurrentEnd _ a)

theorem measure (a : Actuator) (code : Nat) : LockEases s (s.measure a code) := by
  have hcount : LockEases s (s.countCurrent (.act a) code) := of_only (State.countCurrent_only s _ code) rfl
  unfold State.measure
  dsimp only
  repeat' split
  · exact hcount.trans (detectOvercurrent _ _)
  · exact hcount
  · exact refl s

theorem takeDeclared (w : Window) (p : Option Int) : LockEases s (s.takeDeclared w p) :=
  of_only (State.takeDeclared_only s w p) rfl

theorem sampleOutcome (w : Window) (p : Option Int) (pinch jam : Bool) : LockEases s (s.sampleOutcome w p pinch jam) := by
  unfold State.sampleOutcome
  split
  · exact refl s
  · exact takeDeclared s w p
  · exact detectOvercurrent s _
  · have hcount : LockEases s { s with freeCount := s.freeCount + 1 } := of_only (Only.freeCount s _) rfl
    dsimp only
    split
    · exact (hcount.trans (takeDeclared _ w p)).trans (detectOvercurrent _ _)
    · exact (hcount.trans (detectOvercurrent _ _)).trans (takeDeclared _ w p)

theorem sample (w : Window) (i v : Nat) : LockEases s (s.sample w i v) := by
  unfold State.sample
  split
  · exact refl s
  next ph _ =>
    refine LockEases.trans ?_ (sampleOutcome _ w _ _ _)
    refine ((LockEases.trans ?_ (of_only (State.feedStroke_only _ w _) rfl)).trans
      (of_only (State.countCurrent_only _ _ _) rfl)).trans (of_only (State.addSample_only _ w _) rfl)
    exact of_only (State.setPinch_only s w _) rfl

theorem handTemp (old new : TempState) : LockEases s (s.handTemp old new) := by
  unfold State.handTemp
  split
  case h_4 | h_5 => exact (of_only (State.addCauseAll_only s _) rfl).trans (thermalAborts _)
  case h_6 => exact of_only (State.removeCauseAll_only s _) rfl
  case h_7 => exact (of_only (State.removeCauseAll_only s _) rfl).trans (of_only (State.markAllStrokes_only _ _) rfl)
  case h_8 => exact of_only (State.markAllStrokes_only s _) rfl
  all_goals exact refl s

theorem measureTemp (d : Int) : LockEases s (s.measureTemp d) := by
  unfold State.measureTemp
  extract_lets old new before measured flagged
  have hflagged : LockEases s flagged := (of_only (Only.mon s _) rfl).trans (of_only (State.setFlags_only measured _) rfl)
  split
  · exact hflagged
  · exact (hflagged.trans (of_only (State.raiseThermal_only _) rfl)).trans (handTemp _ old new)

theorem handSupply (old new : SupplyState) : LockEases s (s.handSupply old new) := by
  unfold State.handSupply
  split
  case h_4 | h_5 => exact (of_only (State.addCauseAll_only s _) rfl).trans (foldl dropPulse _ _)
  case h_6 => exact (of_only (State.removeCauseAll_only s _) rfl).trans (foldl resumePulse _ _)
  case h_7 =>
    exact ((of_only (State.removeCauseAll_only s _) rfl).trans (of_only (State.markAllStrokes_only _ _) rfl)).trans
      (foldl resumePulse _ _)
  case h_8 => exact of_only (State.markAllStrokes_only s _) rfl
  all_goals exact refl s

theorem measureSupply (v : Nat) : LockEases s (s.measureSupply v) := by
  unfold State.measureSupply
  extract_lets old new before measured flagged
  have hflagged : LockEases s flagged := (of_only (Only.mon s _) rfl).trans (of_only (State.setFlags_only measured _) rfl)
  split
  · exact hflagged
  · exact (hflagged.trans (of_only (State.raiseSupply_only _) rfl)).trans (handSupply _ old new)

end LockEases

/-! ### The lock laws over the sequencer and the crash response -/

theorem lockLaw_restsOn : RestsOn [.crash, .closures, .seq] LockLaw := by
  intro s t h hs
  refine hs.eases ⟨congrArg Crash.latch (h .crash (by decide)), fun c => ?_, ?_⟩
  · rw [State.closure, h .closures (by decide)]; rfl
  · exact suffix_of_seq_eq (h .seq (by decide))

theorem LockLaw.only {ps : List Part} {s t : State} (hs : LockLaw s) (h : Only ps s t)
    (hd : [Part.crash, .closures, .seq].all (fun x => !ps.contains x) = true) : LockLaw t :=
  lockLaw_restsOn.only h hd hs

theorem crashLaw_of_clear {s : State} (h : s.crash.latch = false) : CrashLaw s := fun hl => by rw [h] at hl; cases hl

/-- R51: under the crash latch a lock-class command is refused. -/
theorem not_lockClass_of_accepted {s : State} {c : Command} (hl : s.crash.latch = true)
    (h : (s.offerCode c).accepted = true) : c.kind.lockClass = false := by
  obtain ⟨hchecks, -⟩ := offerCode_accepted h
  cases hlock : c.kind.lockClass with
  | false => rfl
  | true => simp [State.acceptance, hl, hlock] at hchecks

/-- The entries that an offer leaves in the queue stood there before, or are the command's. -/
theorem mem_offer_queue {s : State} {c : Command} {e : Entry} (he : e ∈ (s.offer c).seq.queue) :
    e ∈ s.seq.queue ∨ (s.offerCode c).accepted = true ∧ e.kind = c.kind := by
  rw [State.offer_queue] at he
  split at he
  next hacc =>
    split at he
    · rcases List.mem_append.mp he with h | h
      · exact .inl ((cancelled_sublist _ _).subset h)
      · exact .inr ⟨hacc, by rw [List.mem_singleton.mp h]; rfl⟩
    · exact .inl ((cancelled_sublist _ _).subset he)
  next => exact .inl he

section Laws
variable {s : State}

theorem LockLaw.offer (hs : LockLaw s) (c : Command) : LockLaw (s.offer c) := by
  obtain ⟨hqueue, hcrash⟩ := hs
  have hframe := State.offer_only s c
  refine ⟨hqueue.offer, fun hl => ?_⟩
  rw [hframe.same .crash (by decide)] at hl
  obtain ⟨hgoals, hchild⟩ := hcrash hl
  refine ⟨fun x => ?_, fun e he => ?_⟩
  · rw [State.closure, hframe.same .closures (by decide)]
    exact hgoals x
  · rcases mem_offer_queue he with h | ⟨hacc, hkind⟩
    · exact hchild e h
    · rw [hkind]
      exact not_lockClass_of_accepted hl hacc

theorem mode_of_unlocked (h : ∀ c, (s.closure c).lockGoal = .unlocked) : s.mode = .allOpen := by
  have hgoals : s.goals = ⟨.unlocked, .unlocked, .unlocked, .unlocked, .unlocked⟩ := by
    simp only [State.goals, Closures.mk.injEq]
    exact ⟨h .fd, h .fp, h .rd, h .rp, h .tg⟩
  rw [State.mode, hgoals]
  rfl

theorem LockLaw.superlockRelock (hs : LockLaw s) : LockLaw s.superlockRelock := by
  obtain ⟨hqueue, hcrash⟩ := hs
  have hframe := State.superlockRelock_only s
  refine ⟨hqueue.superlockRelock, fun hl => ?_⟩
  rw [hframe.same .crash (by decide)] at hl
  have hsame : s.superlockRelock = s := by
    unfold State.superlockRelock
    simp [mode_of_unlocked (hcrash hl).1]
  rw [hsame]
  exact hcrash hl

theorem LockLaw.latchAjar (hs : LockLaw s) (c : Closure) : LockLaw (s.latchAjar c) := by
  have hrelock : LockLaw (s.setRelock none).superlockRelock := (hs.eases (.setRelock s none)).superlockRelock
  unfold State.latchAjar
  dsimp only
  split
  · exact hrelock.only (State.stopRetained_only _) rfl
  · exact hrelock

theorem LockLaw.latchExpiry (hs : LockLaw s) (c : Closure) (f : Feed LatchLevel) : LockLaw (s.latchExpiry c f) := by
  unfold State.latchExpiry
  dsimp only
  split
  · have hset : LockEases s (s.setClosure c { s.closure c with latch := latchOf f.raw }) :=
      ⟨rfl, fun x => by rw [State.setClosure_closure]; split <;> simp_all, List.suffix_refl _⟩
    exact (hs.eases hset).only (State.raiseLockChanged_only _ c) rfl
  split
  · exact hs
  have hwrite : LockLaw (s.writeClosure c { s.closure c with latch := latchOf f.raw }) :=
    hs.eases (.writeClosure s c rfl)
  split
  · exact hwrite.latchAjar c
  · exact hwrite

/-- A closure record is written whose goal stands UNLOCKED under the crash latch. -/
theorem LockLaw.setClosure (hs : LockLaw s) (c : Closure) {r : ClosureRec}
    (hr : s.crash.latch = true → r.lockGoal = .unlocked) : LockLaw (s.setClosure c r) := by
  obtain ⟨hqueue, hcrash⟩ := hs
  refine ⟨hqueue, fun hl => ?_⟩
  obtain ⟨hgoals, hchild⟩ := hcrash hl
  refine ⟨fun x => ?_, hchild⟩
  rw [State.setClosure_closure]
  split
  · exact hr hl
  · exact hgoals x

theorem LockLaw.writeClosure (hs : LockLaw s) (c : Closure) {r : ClosureRec}
    (hr : s.crash.latch = true → r.lockGoal = .unlocked) : LockLaw (s.writeClosure c r) := by
  unfold State.writeClosure
  split
  · exact (hs.setClosure c hr).only (State.raiseLockChanged_only _ c) rfl
  · exact hs.setClosure c hr

theorem LockLaw.feedbackExpiry (hs : LockLaw s) (c : Closure) (f : Feed LockPins) : LockLaw (s.feedbackExpiry c f) := by
  have hgoal : s.crash.latch = true → (s.closure c).lockGoal = .unlocked := fun hl => (hs.2 hl).1 c
  unfold State.feedbackExpiry
  dsimp only
  split
  · refine LockLaw.only (hs.setClosure c fun hl => ?_) (State.raiseLockChanged_only _ c) rfl
    split
    · simp [State.adoptReading, hl]
    · exact hgoal hl
  split
  · exact hs
  · refine hs.writeClosure c fun hl => ?_
    split
    · simp [State.knobEvent, hl, hgoal hl]
    · exact hgoal hl

/-! #### Start of commands (R24) -/

/-- A read that each step of a fold leaves. -/
theorem foldl_read {α β : Type} {f : State → β → State} {g : State → α} (hf : ∀ t b, g (f t b) = g t) :
    ∀ (l : List β) (s : State), g (l.foldl f s) = g s
  | [], _ => rfl
  | b :: l, s => (foldl_read hf l (f s b)).trans (hf s b)

theorem State.createLockOp_queue (s : State) (c : Closure) : (s.createLockOp c).seq.queue = s.seq.queue := by
  unfold State.createLockOp
  dsimp only
  split <;> rfl

theorem State.startOn_queue (k : CmdKind) (src : CmdSource) (s : State) (c : Closure) :
    (State.startOn k src s c).seq.queue = s.seq.queue := by
  unfold State.startOn
  split
  · rw [State.createLockOp_queue, (State.writeGoal_only _ _ _ _).same .seq (by decide)]
  · rfl

theorem State.startChild_queue (s : State) (r : Rear) (st : ChildState) :
    (s.startChild r st).seq.queue = s.seq.queue := by
  unfold State.startChild
  extract_lets written locked v
  have hlocked : locked.seq = s.seq := by
    have hwritten : written.seq = s.seq := (State.writeChildGoal_only s r st).same .seq (by decide)
    unfold locked
    split
    · rw [(State.beginLockout_only _ _).same .seq (by decide), hwritten]
    · exact hwritten
  have hqueue : locked.seq.queue = s.seq.queue := congrArg Sequencer.queue hlocked
  split <;> exact hqueue

theorem State.relockAtStart_queue (s : State) (k : CmdKind) (src : CmdSource) :
    (s.relockAtStart k src).seq.queue = s.seq.queue := rfl

theorem State.startKind_queue (s : State) (k : CmdKind) (e : Entry) : (s.startKind k e).seq.queue = s.seq.queue := by
  have hrelease : (s.startRelease e.port).seq.queue = s.seq.queue := by
    unfold State.startRelease
    split <;> rfl
  cases k with
  | childSet r st => exact State.startChild_queue s r st
  | releaseTailgate => exact hrelease
  | lockAll | superlockAll | unlockAll | unlockDriver | unlockOne _ | unlockTailgate =>
    rw [State.startKind, State.relockAtStart_queue]
    exact foldl_read (g := fun t => t.seq.queue) (State.startOn_queue _ e.source) _ s

/-- R24, R51: a start writes goals for a lock-class command alone. -/
theorem LockLaw.startKind (hs : LockLaw s) {k : CmdKind} (hk : s.crash.latch = true → k.lockClass = false) (e : Entry) :
    LockLaw (s.startKind k e) := by
  have hframe := State.startKind_only s k e
  have hcrash : (s.startKind k e).crash = s.crash := hframe.same .crash (by decide)
  refine ⟨(State.startKind_queue s k e).symm ▸ hs.1, fun hl => ?_⟩
  rw [hcrash] at hl
  obtain ⟨hgoals, hchild⟩ := hs.2 hl
  refine ⟨fun c => ?_, (State.startKind_queue s k e).symm ▸ hchild⟩
  cases k with
  | childSet r st =>
    rw [State.closure, State.startKind, (State.startChild_only s r st).same .closures (by decide)]
    exact hgoals c
  | _ => cases hk hl

theorem LockLaw.startHead (hs : LockLaw s) : LockLaw s.startHead := by
  unfold State.startHead
  split
  · exact hs
  next e rest hq =>
    extract_lets fail k running refused
    have hkind : s.crash.latch = true → k.lockClass = false := by
      intro hl
      have he : e.kind.lockClass = false := (hs.2 hl).2 e (by simp [hq])
      have hnot : e.kind ≠ .superlockAll := fun h => by rw [h] at he; cases he
      simpa [k, fail, hnot] using he
    have hrunning : LockLaw running := by
      refine ⟨(hq ▸ hs.1).start k, fun hl => ⟨(hs.2 hl).1, fun f hf => ?_⟩⟩
      rcases List.mem_cons.mp hf with rfl | hf
      · exact hkind hl
      · exact (hs.2 hl).2 f (by simp [hq, hf])
    have hrefused : LockLaw refused ∧ refused.crash = s.crash := by
      unfold refused
      cases fail with
      | some why => exact ⟨hrunning.only (State.raiseSuperlockRefused_only _ _ _) rfl, rfl⟩
      | none => exact ⟨hrunning, rfl⟩
    obtain ⟨hlaw, hcrash⟩ := hrefused
    exact (hlaw.startKind (hcrash ▸ hkind) e).eases (.finishIfDone _)

theorem LockLaw.tryHead (hs : LockLaw s) : LockLaw s.tryHead := by
  unfold State.tryHead
  split
  · exact hs.startHead
  · exact hs

/-! #### Crash events (R46, R50) -/

theorem State.returnChild_queue_cases (s : State) : s.returnChild.seq.queue = s.seq.queue ∨
    ∃ e rest, s.seq.queue = e :: rest ∧ s.returnChild.seq.queue = dedupe ({ e with running := false } :: rest) := by
  unfold State.returnChild
  split
  next e rest hq =>
    split
    · exact .inr ⟨e, rest, hq, rfl⟩
    · exact .inl rfl
  next => exact .inl rfl

/-- R46: a returned CHILD_SET keeps its kind, so no new kind comes into the queue. -/
theorem mem_returnChild_queue {e : Entry} (he : e ∈ s.returnChild.seq.queue) : ∃ f ∈ s.seq.queue, e.kind = f.kind := by
  rcases s.returnChild_queue_cases with h | ⟨x, rest, hq, h⟩
  · exact ⟨e, h ▸ he, rfl⟩
  · rw [h] at he
    rcases List.mem_cons.mp ((dedupe_sublist _).subset he) with rfl | hmem
    · exact ⟨x, by simp [hq], rfl⟩
    · exact ⟨e, by simp [hq, hmem], rfl⟩

theorem QueueLaw.returnChild (hq : QueueLaw s.seq.queue) : QueueLaw s.returnChild.seq.queue := by
  rcases s.returnChild_queue_cases with h | ⟨x, rest, heq, h⟩
  · rwa [h]
  · rw [h]
    exact (heq ▸ hq).returnHead

theorem LockLaw.returnChild (hs : LockLaw s) : LockLaw s.returnChild := by
  have hframe := State.returnChild_only s
  refine ⟨hs.1.returnChild, fun hl => ?_⟩
  rw [hframe.same .crash (by decide)] at hl
  obtain ⟨hgoals, hchild⟩ := hs.2 hl
  refine ⟨fun c => ?_, fun e he => ?_⟩
  · rw [State.closure, hframe.same .closures (by decide)]
    exact hgoals c
  · obtain ⟨f, hf, hkind⟩ := mem_returnChild_queue he
    rw [hkind]
    exact hchild f hf

theorem State.clearRunningLock_queue (s : State) : s.clearRunningLock.seq.queue =
    match s.seq.queue with
    | e :: rest => if e.running && e.kind.lockClass then rest else e :: rest
    | [] => [] := by
  unfold State.clearRunningLock
  cases hq : s.seq.queue with
  | nil => simp [hq]
  | cons e rest =>
    dsimp only
    split
    · rfl
    · exact hq

/-- R46, steps 1 and 2: behind the cleared PENDING entries and the cleared head only CHILD_SET entries stand. -/
theorem clearRunningLock_clearPending_child (hq : QueueLaw s.seq.queue) {e : Entry}
    (he : e ∈ s.clearPending.clearRunningLock.seq.queue) : e.kind.lockClass = false := by
  have hcleared : s.clearPending.seq.queue = dedupe (s.seq.queue.filter (fun e => !State.pendingLock e)) := rfl
  have hlaw : QueueLaw s.clearPending.seq.queue := hq.dedupe List.filter_sublist
  have hkept : ∀ f ∈ s.clearPending.seq.queue, f.running = false → f.kind.lockClass = false := by
    intro f hf hpending
    rw [hcleared] at hf
    have hfilter := (List.mem_filter.mp ((dedupe_sublist _).subset hf)).2
    simpa [State.pendingLock, hpending] using hfilter
  rw [State.clearRunningLock_queue] at he
  obtain ⟨-, htail, -⟩ := hlaw
  split at he
  next f rest hqueue =>
    rw [hqueue] at htail hkept
    split at he
    · exact hkept e (List.mem_cons_of_mem f he) (htail e he)
    next hhead =>
      rcases List.mem_cons.mp he with rfl | hmem
      · by_cases hrun : e.running = true
        · simpa [hrun] using hhead
        · exact hkept e he (by simpa using hrun)
      · exact hkept e he (htail e hmem)
  next => cases he

theorem QueueLaw.clearRunningLock_clearPending (hq : QueueLaw s.seq.queue) :
    QueueLaw s.clearPending.clearRunningLock.seq.queue := by
  have hlaw : QueueLaw s.clearPending.seq.queue := hq.dedupe List.filter_sublist
  rw [State.clearRunningLock_queue]
  split
  next e rest hqueue =>
    rw [hqueue] at hlaw
    split
    · exact hlaw.suffix (List.suffix_cons e rest)
    · exact hlaw
  next hqueue => exact hqueue ▸ hlaw

theorem State.crashGoals_lockGoal (s : State) (c : Closure) : (s.crashGoals.closure c).lockGoal = .unlocked := by
  unfold State.crashGoals Closure.list
  cases c <;> simp [State.writeGoal_lockGoal]

theorem LockLaw.firstCrash (hs : LockLaw s) : LockLaw s.firstCrash := by
  unfold State.firstCrash
  extract_lets before latched cleared crashed
  have hqueue : QueueLaw cleared.seq.queue := QueueLaw.returnChild (QueueLaw.clearRunningLock_clearPending (s := latched) hs.1)
  have hchild : ∀ e ∈ cleared.seq.queue, e.kind.lockClass = false := fun e he => by
    obtain ⟨f, hf, hkind⟩ := mem_returnChild_queue he
    rw [hkind]
    exact clearRunningLock_clearPending_child (s := latched) hs.1 hf
  have hgoals : LockLaw cleared.crashGoals := by
    have hseq : cleared.crashGoals.seq = cleared.seq := (State.crashGoals_only cleared).same .seq (by decide)
    refine ⟨?_, fun _ => ⟨cleared.crashGoals_lockGoal, ?_⟩⟩ <;> rw [hseq]
    · exact hqueue
    · exact hchild
  have hcrashed : LockLaw crashed :=
    (hgoals.only (State.addCauseAll_only _ .crash) rfl).only (State.raiseCrash_only _) rfl
  exact hcrashed.eases (LockEases.foldl LockEases.createCrash Closure.list crashed)

theorem LockLaw.secondCrash (hs : LockLaw s) : LockLaw s.secondCrash := by
  have hcaused := (hs.only (State.raiseCrash_only s) rfl).only (State.addCauseAll_only _ .crash) rfl
  exact hcaused.returnChild.eases (.refreshCrash _)

theorem LockEases.setDetector (d : Detector) (n : Option Nat) : LockEases s (s.setDetector d n) :=
  ⟨rfl, fun _ => rfl, List.suffix_refl _⟩

theorem LockLaw.crashTimer (hs : LockLaw s) : LockLaw s.crashTimer := by
  have hdetector : ∀ n d, LockLaw ((s.reach n).setDetector d none) := fun n d =>
    hs.eases ((LockEases.reach s n).trans (.setDetector d none))
  unfold State.crashTimer
  split
  · unfold State.crashEvent
    split
    · exact (hdetector _ _).secondCrash
    · exact (hdetector _ _).firstCrash
  · exact hdetector _ _
  · exact hs

theorem LockLaw.crashLine (hs : LockLaw s) (b : Bool) : LockLaw (s.crashLine b) := by
  have hline : LockEases s { s with crash := { s.crash with line := b } } := ⟨rfl, fun _ => rfl, List.suffix_refl _⟩
  unfold State.crashLine
  dsimp only
  split
  · exact hs.eases hline
  split
  case h_1 | h_2 | h_3 | h_4 => exact hs.eases (hline.trans (.setDetector _ _))
  all_goals exact hs.eases hline

/-- R52: with the latch clear the crash law asks nothing. -/
theorem LockLaw.clearCrash (hs : LockLaw s) : LockLaw s.clearCrash := by
  unfold State.clearCrash
  split
  · have hclear : LockLaw { s with crash := { s.crash with latch := false } } := ⟨hs.1, crashLaw_of_clear rfl⟩
    exact hclear.only (State.removeCauseAll_only _ .crash) rfl
  · exact hs

/-! #### Resets -/

theorem lockLaw_fullReset (s : State) : LockLaw s.fullReset :=
  ⟨⟨Nat.zero_le _, nofun, fun _ _ _ he => nomatch he⟩, crashLaw_of_clear rfl⟩

theorem LockEases.released (cause : ResetCause) (deg : Int) (v : Nat) : LockEases s (s.released cause deg v) := by
  have hdetector : LockEases s s.startDetector := by
    unfold State.startDetector
    split
    · exact .setDetector _ _
    · exact .refl s
  exact ((hdetector.trans (.of_only (State.raiseRestarted_only _ cause) rfl)).trans (.measureTemp _ deg)).trans
    (.measureSupply _ v)

theorem LockLaw.softReset (hs : LockLaw s) : LockLaw s.softReset := by
  unfold State.softReset
  extract_lets cleared stopped confirmed
  have hcleared : LockLaw cleared := by
    have habort := hs.eases (LockEases.foldl LockEases.abortOrdinary Actuator.list s)
    exact ⟨⟨Nat.zero_le _, nofun, fun _ _ _ he => nomatch he⟩, fun hl => ⟨(habort.2 hl).1, nofun⟩⟩
  have hstopped : LockLaw stopped := hcleared.only (Only.foldl State.softStop_only _ _) rfl
  have hconfirmed : LockLaw confirmed :=
    (hstopped.eases (.foldl LockEases.softConfirm _ _)).only (Only.foldl State.softChild_only _ _) rfl
  have hidle : LockLaw confirmed.softIdle := hconfirmed.only (State.softIdle_only _) rfl
  refine LockLaw.only (hidle.eases ?_) (State.raiseRestarted_only _ .soft) rfl
  unfold State.softCrash
  split
  · exact .refreshCrash _
  · exact .refl _

/-! #### Requests and lines -/

theorem LockLaw.tailgatePair (hs : LockLaw s) (src : CmdSource) (tag : Byte) : LockLaw (s.tailgatePair src tag).1 :=
  (hs.offer _).offer _

theorem LockLaw.fobAction (hs : LockLaw s) (i : Fin 8) (a : FobAction) (tag : Byte) :
    LockLaw (s.fobAction i a tag).state := by
  have hcomfort : ∀ d, LockLaw (s.comfortReply i d tag).state := by
    intro d
    unfold State.comfortReply
    split
    · exact hs.only (State.renewSession_only s) rfl
    · exact ((hs.offer _).only (State.comfortAll_only _ _ _) rfl).only (State.replaceSession_only _ i d) rfl
  cases a with
  | lock | unlock => exact hs.offer _
  | tailgate => exact hs.tailgatePair _ tag
  | comfortClose | comfortOpen => exact hcomfort _
  | comfortStop => exact hs.only (State.endSession_only s) rfl

theorem LockLaw.ownCredential (hs : LockLaw s) (tag : Byte) (q : List Byte) :
    LockLaw (State.ownCredential tag q s).state := by
  unfold State.ownCredential
  split
  next i a _ _ =>
    unfold State.credential
    split
    · exact hs
    · exact hs
    unfold State.judgeFrame
    generalize classify (s.slotAt i) s.now (fieldAt q 1 3) (some a) = v
    have hcounter := hs.only (State.applyCounter_only s i (fieldAt q 1 3) (some a) v) rfl
    cases v with
    | duplicate => exact hcounter.only (State.renewByDuplicate_only _ i a) rfl
    | stale | resyncNeeded => exact hcounter
    | accepted =>
      dsimp only
      split
      · exact hcounter.fobAction i a tag
      · exact hcounter
  next => exact hs

theorem LockLaw.claimAction (hs : LockLaw s) (x : TouchSource) (i : Fin 8) (tag : Byte) :
    LockLaw (s.claimAction x i tag).state := by
  cases x with
  | tgButton => exact hs.tailgatePair _ tag
  | fdOpen | fdLock | fpOpen | fpLock => exact hs.offer _

theorem LockLaw.ownPassiveClaim (hs : LockLaw s) (tag : Byte) (q : List Byte) :
    LockLaw (State.ownPassiveClaim tag q s).state := by
  unfold State.ownPassiveClaim
  split
  next x i z clear _ _ _ _ =>
    unfold State.claim
    split
    · exact hs
    · exact hs
    have hconsumed := hs.only (State.setTouch_only s x .idle) rfl
    unfold State.claimSlot
    split
    · exact hconsumed
    · exact hconsumed
    split
    · unfold State.claimCounter
      generalize classify ((s.setTouch x .idle).slotAt i) (s.setTouch x .idle).now (fieldAt q 2 3) none = v
      have hcounter := hconsumed.only (State.applyCounter_only _ i (fieldAt q 2 3) none v) rfl
      cases v with
      | duplicate | stale | resyncNeeded => exact hcounter
      | accepted =>
        dsimp only
        split
        · exact hcounter
        · exact hcounter.claimAction x i tag
    · exact hconsumed
  next => exact hs

theorem LockLaw.owner (hs : LockLaw s) (k : Kind) (p : Port) (tag : Byte) (q : List Byte) :
    LockLaw (ownerOf k p tag q s).state := by
  cases k with
  | lock =>
    show LockLaw (State.ownLock p tag q s).state
    unfold State.ownLock
    split
    · exact hs.offer _
    · exact hs
  | centralToggle =>
    show LockLaw (State.ownCentralToggle p tag q s).state
    unfold State.ownCentralToggle
    split
    · exact hs.offer _
    · exact hs
  | childSet =>
    show LockLaw (State.ownChildSet p tag q s).state
    unfold State.ownChildSet
    split
    · exact hs.offer _
    · exact hs
  | credential => exact hs.ownCredential tag q
  | passiveClaim => exact hs.ownPassiveClaim tag q
  | crashClear =>
    show LockLaw (State.ownCrashClear q s).state
    unfold State.ownCrashClear
    split
    · exact hs.clearCrash
    · exact hs
  | _ => exact hs.only (ownerOf_only _ p tag q s) rfl

theorem LockLaw.handlePull (hs : LockLaw s) (c : Side) : LockLaw (s.handlePull c) := by
  unfold State.handlePull
  split
  · exact hs
  cases c with
  | fd | fp | rd | rp =>
    dsimp only
    split
    · exact hs
    · exact hs.offer _

theorem LockLaw.touched (hs : LockLaw s) (x : TouchSource) : LockLaw (s.touched x) := by
  cases x with
  | fdOpen | fdLock | fpOpen | fpLock => exact hs.only (State.touchEvent_only s _) rfl
  | tgButton =>
    show LockLaw s.tailgatePress
    unfold State.tailgatePress
    split
    · split
      · exact hs
      · exact hs.offer _
    · exact hs.only (State.touchEvent_only s _) rfl

theorem LockLaw.contactEvent (hs : LockLaw s) (x : Stage Bool) {f : State → State} (hf : LockLaw s → LockLaw (f s)) :
    LockLaw (s.contactEvent x f) := by
  unfold State.contactEvent
  split
  · exact hf hs
  · exact hs

theorem LockLaw.debounce (hs : LockLaw s) (l : Line) : LockLaw (s.debounce l) := by
  have hsettled : ∀ n y, LockLaw ((s.reach n).setSensing y) := fun n y =>
    (hs.eases (.reach s n)).only (State.setSensing_only _ y) rfl
  unfold State.debounce
  cases l with
  | latch c =>
    dsimp only
    split
    · exact (hsettled _ _).latchExpiry c _
    · exact hs
  | feedback c =>
    dsimp only
    split
    · exact (hsettled _ _).feedbackExpiry c _
    · exact hs
  | child r =>
    dsimp only
    split
    · exact (hsettled _ _).only (State.childExpiry_only _ r _) rfl
    · exact hs
  | handle c =>
    dsimp only
    split
    · exact (hsettled _ _).contactEvent _ fun h => h.handlePull c
    · exact hs
  | keyLock =>
    dsimp only
    split
    · refine (hsettled _ _).contactEvent _ fun h => ?_
      unfold State.keyLockContact
      split
      · exact h
      · exact h.offer _
    · exact hs
  | keyUnlock =>
    dsimp only
    split
    · refine (hsettled _ _).contactEvent _ fun h => ?_
      unfold State.keyUnlockContact
      split
      · exact h
      · exact h.offer _
    · exact hs
  | touch x =>
    dsimp only
    split
    · exact (hsettled _ _).contactEvent _ fun h => h.touched x
    · exact hs
  | localSwitch w =>
    dsimp only
    split
    · split
      · split
        · exact hsettled _ _
        · exact (hsettled _ _).only (State.localEvent_only _ _ _ _) rfl
      · exact hsettled _ _
    · exact hs

theorem LockLaw.live (hs : LockLaw s) {f : State → State} (hf : LockLaw s → LockLaw (f s)) : LockLaw (s.live f) := by
  unfold State.live
  split
  · exact hs
  · exact hf hs

theorem LockEases.opExpiries (a : Actuator) : LockEases s (s.pulseExpiry a) ∧ LockEases s (s.settleExpiry a) := by
  constructor
  · unfold State.pulseExpiry
    split
    · exact (LockEases.reach s _).trans (.endPulse _ a _)
    · exact .refl s
  · unfold State.settleExpiry
    split
    · exact (LockEases.reach s _).trans (.endSettle _ a _)
    · exact .refl s

theorem LockEases.crashExpiries (c : Closure) :
    LockEases s (s.crashPulseExpiry c) ∧ LockEases s (s.crashSettleExpiry c) := by
  constructor
  · unfold State.crashPulseExpiry
    split
    · exact (LockEases.reach s _).trans (.endCrashPulse _ c _)
    · exact .refl s
  · unfold State.crashSettleExpiry
    split
    · exact (LockEases.reach s _).trans (.endCrashSettle _ c _)
    · exact .refl s

theorem LockLaw.relockExpiry (hs : LockLaw s) : LockLaw s.relockExpiry := by
  unfold State.relockExpiry
  split
  · exact (hs.eases ((LockEases.reach s _).trans (.setRelock _ none))).offer _
  · exact hs

theorem LockLaw.responseSent (hs : LockLaw s) (p : Port) : LockLaw (s.responseSent p) := by
  have hidle : LockLaw (s.idlePort p) := hs.only (State.idlePort_only s p) rfl
  unfold State.responseSent
  dsimp only
  split
  · split
    · exact hidle.softReset
    · exact hidle
  · exact hs

theorem LockLaw.powerOn (s : State) (deg : Int) (v : Nat) : LockLaw (s.powerOn deg v) := by
  unfold State.powerOn
  dsimp only
  split
  · exact lockLaw_fullReset s
  · exact (lockLaw_fullReset s).eases (.released _ deg v)

theorem LockLaw.releaseReset (hs : LockLaw s) (deg : Int) (v : Nat) : LockLaw (s.releaseReset deg v) := by
  unfold State.releaseReset
  split
  · exact (lockLaw_fullReset _).eases (.released _ deg v)
  · exact hs

end Laws

/-- Every command keeps the queue law and the crash law. -/
theorem exec_keeps_lockLaw (c : Instr) (s t : State) (ht : exec c s = .next t) (hs : LockLaw s) : LockLaw t := by
  have howner := fun k p tag q s (h : LockLaw s) => h.owner k p tag q
  cases c using Instr.casesRequest
  case request k p tag q => exact lockLaw_restsOn.exec_request rfl howner ht hs
  case linkByteReceived p b => exact lockLaw_restsOn.exec_linkByte rfl howner ht hs
  case unknownKindRequest p tag kind q => exact lockLaw_restsOn.exec_unknownKind rfl howner ht hs
  case debounceExpiry l => cases ht; exact hs.live fun h => h.debounce l
  case crashLineChange b => cases ht; exact hs.crashLine b
  case crashDetectorTimer => cases ht; exact hs.live fun h => h.crashTimer
  case crashPulseEnd c => cases ht; exact hs.live fun h => h.eases (LockEases.crashExpiries c).1
  case crashSettleEnd c => cases ht; exact hs.live fun h => h.eases (LockEases.crashExpiries c).2
  case powerOn deg v => cases ht; exact LockLaw.powerOn s deg v
  case resetLineAssert => cases ht; exact lockLaw_fullReset _
  case resetLineRelease deg v => cases ht; exact hs.releaseReset deg v
  case responseSent p => cases ht; exact hs.live fun h => h.responseSent p
  case commandStart => cases ht; exact hs.live fun h => h.tryHead
  case slotGrant => cases ht; exact hs.live fun h => h.eases (.grantSlot s)
  case pulseEnd a => cases ht; exact hs.live fun h => h.eases (LockEases.opExpiries a).1
  case settleEnd a => cases ht; exact hs.live fun h => h.eases (LockEases.opExpiries a).2
  case heatTick => cases ht; exact hs.live fun h => h.eases ⟨rfl, fun _ => rfl, List.suffix_refl _⟩
  case relockTimerExpiry => cases ht; exact hs.live fun h => h.relockExpiry
  case windowSample w i v => cases ht; exact hs.live fun h => h.eases (.sample s w i v)
  case actuatorCurrentMeasurement a code => cases ht; exact hs.live fun h => h.eases (.measure s a code)
  case temperatureMeasurement deg => cases ht; exact hs.live fun h => h.eases (.measureTemp s deg)
  case supplyMeasurement v => cases ht; exact hs.live fun h => h.eases (.measureSupply s v)
  all_goals exact hs.only (exec_event_only ht) rfl

/-- Settles O56: most operations ease the laws (`LockEases`); an offer, a start and a crash event keep them by what they
do to the queue and the goals. -/
theorem lockLawKept : Obligations.LockLawKept := fun s hs t ht =>
  lockLaw_restsOn.step rfl rfl exec_keeps_lockLaw s hs t ht

end Sys2Proof.Machine
end

section
/-! What the windows leave of the other channels: an operation on windows changes no operation, no queue entry, no
actuator channel, no crash latch and no state of temperature or supply. -/

namespace Sys2Proof.Machine
open Sys2Proof

/-- The lock sequencer, the crash response, the records of the actuator channels and the states of temperature and supply
are the same in two states. -/
structure ActFrame (s t : State) : Prop where
  seq : t.seq = s.seq
  chans : t.mon.chans.act = s.mon.chans.act
  crash : t.crash = s.crash
  temp : t.mon.temp = s.mon.temp
  supply : t.mon.supply = s.mon.supply

namespace ActFrame

theorem refl (s : State) : ActFrame s s := ⟨rfl, rfl, rfl, rfl, rfl⟩

theorem trans {s t u : State} (h : ActFrame s t) (k : ActFrame t u) : ActFrame s u :=
  ⟨k.seq.trans h.seq, k.chans.trans h.chans, k.crash.trans h.crash, k.temp.trans h.temp, k.supply.trans h.supply⟩

theorem after {s t u : State} (k : ActFrame t u) (h : ActFrame s t) : ActFrame s u := h.trans k

theorem of_only {ps : List Part} {s t : State} (h : Only ps s t)
    (hd : [Part.seq, .crash, .mon].all (fun x => !ps.contains x) = true) : ActFrame s t := by
  have hmem : ∀ x ∈ [Part.seq, .crash, .mon], x ∉ ps := fun x hx => by simpa using List.all_eq_true.mp hd x hx
  have hmon : t.mon = s.mon := h.same .mon (hmem _ (by decide))
  exact ⟨h.same .seq (hmem _ (by decide)), by rw [hmon], h.same .crash (hmem _ (by decide)), by rw [hmon], by rw [hmon]⟩

theorem foldl {β : Type} {f : State → β → State} (hf : ∀ t a, ActFrame t (f t a)) :
    ∀ (l : List β) (s : State), ActFrame s (l.foldl f s)
  | [], s => refl s
  | a :: l, s => (hf s a).trans (foldl hf l (f s a))

variable (s : State)

theorem reach (n : Nat) : ActFrame s (s.reach n) := ⟨rfl, rfl, rfl, rfl, rfl⟩

theorem setWin (w : Window) (r : WindowRec) : ActFrame s (s.setWin w r) := ⟨rfl, rfl, rfl, rfl, rfl⟩

theorem setW (w : Window) (x : ChannelRec) : ActFrame s (s.setChan (.w w) x) := ⟨rfl, rfl, rfl, rfl, rfl⟩

/-! ### Motion of the windows -/

theorem completeFilling (w : Window) (x : Completion) : ActFrame s (s.completeFilling w x) :=
  of_only (State.completeFilling_only s w x) rfl

theorem trigger (w : Window) (k : TriggerKind) : ActFrame s (s.trigger w k) := of_only (State.trigger_only s w k) rfl

theorem stopMotion (w : Window) (m : Motion) (braked : Bool) (x : Completion) : ActFrame s (s.stopMotion w m braked x) := by
  unfold State.stopMotion
  extract_lets r brake stopped bridge
  have hbridge : ActFrame s bridge := by
    unfold bridge
    split <;> exact ⟨rfl, rfl, rfl, rfl, rfl⟩
  have hstroke : ActFrame bridge (bridge.endStroke w) := ⟨rfl, rfl, rfl, rfl, rfl⟩
  exact (hbridge.trans hstroke).trans (completeFilling _ w x)

theorem toIdle (w : Window) : ActFrame s (s.toIdle w) := stopMotion s w _ _ _

theorem toDwell (w : Window) (p : Pending) : ActFrame s (s.toDwell w p) := ⟨rfl, rfl, rfl, rfl, rfl⟩

theorem startRun (w : Window) (dir : Dir) (kind : RunKind) (holder : RunHolder) :
    ActFrame s (s.startRun w dir kind holder) := by
  unfold State.startRun
  extract_lets forgotten c started pinched driven
  have hforgotten : ActFrame s forgotten := of_only (State.carryOutForget_only s w) rfl
  clear_value forgotten
  have hpinched : ActFrame forgotten pinched := (of_only (State.setPinch_only started w _) rfl).after (setWin _ w _)
  have hdriven : ActFrame s driven :=
    ((setW _ w _).after (of_only (State.startStroke_only (pinched.setRing w []) w dir c) rfl)).after
      (((of_only (State.setRing_only pinched w []) rfl).after hpinched).after hforgotten)
  split
  · exact hdriven.trans (toIdle _ w)
  · exact hdriven

theorem startReverse (w : Window) (x : Int) : ActFrame s (s.startReverse w x) := by
  unfold State.startReverse
  exact (setW _ w _).after ((of_only (State.setPinch_only _ w _) rfl).after (setWin s w _))

theorem tap (w : Window) (x : RunHolder) : ActFrame s (s.tap w x) :=
  (toIdle s w).trans (of_only (State.setAwait_only _ w x true) rfl)

theorem press (w : Window) (x : RunHolder) (prev pos : SwitchPos) : ActFrame s (s.press w x prev pos) := by
  unfold State.press
  split
  · exact refl s
  next dir _ =>
    dsimp only
    split
    · exact startRun s w dir _ x
    · split
      · split
        · exact setWin s w _
        · exact toDwell s w _
      all_goals
        split
        · exact refl s
        · exact tap s w x
    · split
      · exact setWin s w _
      all_goals
        split
        · exact refl s
        · exact tap s w x
    all_goals exact refl s

theorem neutral (w : Window) (x : RunHolder) : ActFrame s (s.neutral w x) := by
  have hawait : ActFrame s (s.setAwait w x false) := of_only (State.setAwait_only s w x false) rfl
  unfold State.neutral
  dsimp only
  split
  · exact hawait.trans (toIdle _ w)
  · exact hawait

theorem takePinch (w : Window) (x : PinchCause) (p : Int) : ActFrame s (s.takePinch w x p) := by
  unfold State.takePinch
  extract_lets c marked dwelling r count
  have hdwelling : ActFrame s dwelling := (toDwell marked w _).after ⟨rfl, rfl, rfl, rfl, rfl⟩
  clear_value dwelling
  exact (trigger _ w _).after (ActFrame.after (t := dwelling) ⟨rfl, rfl, rfl, rfl, rfl⟩ hdwelling)

theorem unexpectedStall (w : Window) : ActFrame s (s.unexpectedStall w) :=
  (trigger _ w _).after (ActFrame.after (t := s.toIdle w) ⟨rfl, rfl, rfl, rfl, rfl⟩ (toIdle s w))

theorem bottomReached (w : Window) : ActFrame s (s.bottomReached w) := by
  unfold State.bottomReached
  extract_lets r full counted
  have hcounted : ActFrame s counted := by
    unfold counted
    split <;> exact ⟨rfl, rfl, rfl, rfl, rfl⟩
  exact hcounted.trans (toIdle _ w)

theorem topStop (w : Window) (p : Int) : ActFrame s (s.topStop w p) :=
  ((setWin s w _).trans (of_only (State.judgeStroke_only _ w) rfl)).trans (toIdle _ w)

theorem normalise (w : Window) : ActFrame s (s.normalise w) := by
  unfold State.normalise
  extract_lets before stopped
  exact ActFrame.after (t := stopped.toIdle w) ⟨rfl, rfl, rfl, rfl, rfl⟩ ((toIdle stopped w).after ⟨rfl, rfl, rfl, rfl, rfl⟩)

theorem takeStall (w : Window) : ActFrame s (s.takeStall w) := by
  unfold State.takeStall
  dsimp only
  split
  · exact refl s
  · repeat' split
    · exact topStop s w _
    · exact takePinch s w _ _
    · exact unexpectedStall s w
  · exact normalise s w
  · split
    · exact bottomReached s w
    · exact unexpectedStall s w
  · exact toIdle s w

theorem loseNormalisation (w : Window) : ActFrame s (s.loseNormalisation w) := by
  unfold State.loseNormalisation
  extract_lets before lost marked stopped
  have hstopped : ActFrame s stopped := by
    unfold stopped
    split
    · exact (toIdle marked w).after ⟨rfl, rfl, rfl, rfl, rfl⟩
    all_goals exact ⟨rfl, rfl, rfl, rfl, rfl⟩
  exact ActFrame.after (t := stopped) ⟨rfl, rfl, rfl, rfl, rfl⟩ hstopped

theorem count (w : Window) (dir : Dir) (p : Int) : ActFrame s (s.count w dir p) := by
  unfold State.count
  cases dir with
  | up =>
    dsimp only
    split
    · exact loseNormalisation s w
    · exact setWin s w _
  | down =>
    dsimp only
    split
    · exact (setWin s w _).trans (bottomReached _ w)
    · exact setWin s w _

theorem ripple (w : Window) : ActFrame s (s.ripple w) := by
  unfold State.ripple
  extract_lets timed before stalled r
  have hstalled : ActFrame s stalled :=
    ActFrame.after (t := timed) ⟨rfl, rfl, rfl, rfl, rfl⟩ (of_only (State.pulseTiming_only s w) rfl)
  split
  · exact hstalled.trans (count _ w _ _)
  · exact hstalled

theorem endDwell (w : Window) : ActFrame s (s.endDwell w) := by
  unfold State.endDwell
  dsimp only
  split
  · split
    · exact startRun s w _ _ _
    · exact toIdle s w
  · exact startReverse s w _
  all_goals exact refl s

theorem addCause (w : Window) (k : Cause) : ActFrame s (s.addCause w k) := by
  unfold State.addCause
  dsimp only
  split
  · exact setWin s w _
  · exact (setWin s w _).trans (stopMotion _ w _ _ _)

theorem addCauseAll (k : Cause) : ActFrame s (s.addCauseAll k) := foldl (fun t w => addCause t w k) _ s

theorem removeCauseAll (k : Cause) : ActFrame s (s.removeCauseAll k) := of_only (State.removeCauseAll_only s k) rfl

theorem endHeld (f : RunHolder → Bool) (w : Window) : ActFrame s (s.endHeld f w) := by
  unfold State.endHeld
  split
  · exact toIdle s w
  · exact refl s

theorem endHeldAll (f : RunHolder → Bool) : ActFrame s (s.endHeldAll f) := foldl (fun t w => endHeld t f w) _ s

theorem stopRetained : ActFrame s s.stopRetained := by
  unfold State.stopRetained
  dsimp only
  repeat' split
  · exact (endHeldAll _ _).after ⟨rfl, rfl, rfl, rfl, rfl⟩
  · exact ⟨rfl, rfl, rfl, rfl, rfl⟩
  · exact refl s

theorem comfortStart (w : Window) (dir : Dir) (h : RunHolder) : ActFrame s (s.comfortStart w dir h) := by
  unfold State.comfortStart
  dsimp only
  split
  · exact startRun s w _ _ _
  · split
    · exact setWin s w _
    · exact toDwell s w _
  · exact setWin s w _
  all_goals exact refl s

theorem comfortOn (w : Window) (dir : Dir) (h : RunHolder) : ActFrame s (s.comfortOn w dir h) := by
  unfold State.comfortOn
  split
  · exact comfortStart s w dir h
  · exact refl s

theorem comfortAll (dir : Dir) (h : RunHolder) : ActFrame s (s.comfortAll dir h) := foldl (fun t w => comfortOn t w dir h) _ s

/-! ### Sessions, requests and timers of the windows -/

theorem endSession : ActFrame s s.endSession := by
  unfold State.endSession
  split
  · exact (endHeldAll _ _).after ⟨rfl, rfl, rfl, rfl, rfl⟩
  · exact refl s

theorem replaceSession (i : Fin 8) (d : ComfortDir) : ActFrame s (s.replaceSession i d) := by
  unfold State.replaceSession
  extract_lets ended
  have hended : ActFrame s ended := by
    unfold ended
    repeat' split
    · exact refl s
    · exact endHeldAll s _
    · exact refl s
  exact ActFrame.after (t := ended) ⟨rfl, rfl, rfl, rfl, rfl⟩ hended

theorem panelFrame (w : Window) (pos : SwitchPos) : ActFrame s (s.panelFrame w pos).state := by
  have hrecord : ActFrame s (s.recordPanel w pos) := of_only (State.recordPanel_only s w pos) rfl
  unfold State.panelFrame
  dsimp only
  split
  · exact hrecord.trans (neutral _ w _)
  dsimp only
  split
  · exact hrecord.trans (press _ w _ _ _)
  · exact hrecord

theorem writeLockout (on : Bool) : ActFrame s (s.writeLockout on) := by
  unfold State.writeLockout
  dsimp only
  split
  · exact ((endHeld _ _ _).trans (endHeld _ _ _)).after ⟨rfl, rfl, rfl, rfl, rfl⟩
  · exact ⟨rfl, rfl, rfl, rfl, rfl⟩

theorem writeMode (m : VehicleMode) : ActFrame s (s.writeMode m) := by
  unfold State.writeMode
  dsimp only
  split
  · exact (endHeldAll _ _).after ⟨rfl, rfl, rfl, rfl, rfl⟩
  · exact ⟨rfl, rfl, rfl, rfl, rfl⟩

theorem writeFob (i : Fin 8) (f : FobSlot) : ActFrame s (s.writeFob i f) := by
  unfold State.writeFob
  dsimp only
  split
  · split
    · exact (endSession _).after ⟨rfl, rfl, rfl, rfl, rfl⟩
    · exact ⟨rfl, rfl, rfl, rfl, rfl⟩
  · exact ⟨rfl, rfl, rfl, rfl, rfl⟩

theorem stallEnd (w : Window) : ActFrame s (s.stallEnd w) := by
  unfold State.stallEnd
  dsimp only
  split
  · split
    · exact ⟨rfl, rfl, rfl, rfl, rfl⟩
    · exact (takeStall _ w).after ⟨rfl, rfl, rfl, rfl, rfl⟩
  · exact refl s

theorem startEnd (w : Window) : ActFrame s (s.startEnd w) := by
  unfold State.startEnd
  dsimp only
  split
  · split
    · exact (takeStall _ w).after ⟨rfl, rfl, rfl, rfl, rfl⟩
    · exact ⟨rfl, rfl, rfl, rfl, rfl⟩
  · exact refl s

theorem dwellExpiry (w : Window) : ActFrame s (s.dwellExpiry w) := by
  unfold State.dwellExpiry
  split
  · exact (endDwell _ w).after ⟨rfl, rfl, rfl, rfl, rfl⟩
  · exact refl s

theorem brakeExpiry (w : Window) : ActFrame s (s.brakeExpiry w) := by
  unfold State.brakeExpiry
  split
  · exact ⟨rfl, rfl, rfl, rfl, rfl⟩
  · exact refl s

theorem panelExpiry (w : Window) : ActFrame s (s.panelExpiry w) := by
  unfold State.panelExpiry
  split
  · exact (neutral _ w _).after ⟨rfl, rfl, rfl, rfl, rfl⟩
  · exact refl s

theorem retainedExpiry : ActFrame s s.retainedExpiry := by
  unfold State.retainedExpiry
  split
  · exact (stopRetained _).after ⟨rfl, rfl, rfl, rfl, rfl⟩
  · exact refl s

theorem keepAliveEnd : ActFrame s s.keepAliveEnd := by
  unfold State.keepAliveEnd
  split
  · exact (endSession _).after ⟨rfl, rfl, rfl, rfl, rfl⟩
  · exact refl s

theorem localEvent (w : Window) (prev pos : SwitchPos) : ActFrame s (s.localEvent w prev pos) := by
  unfold State.localEvent
  repeat' split
  · exact neutral s w _
  · exact refl s
  · exact press s w _ _ _

theorem softStop (w : Window) : ActFrame s (s.softStop w) := by
  unfold State.softStop
  extract_lets r stopped
  have hstopped : ActFrame s stopped := by
    unfold stopped
    split
    · exact stopMotion s w _ _ _
    · exact ⟨rfl, rfl, rfl, rfl, rfl⟩
  exact hstopped.trans (setWin _ w _)

/-! ### Samples and overcurrents of a W channel -/

theorem faultFound (w : Window) (k : DetectKind) : ActFrame s (s.faultFound (.w w) k) := by
  unfold State.faultFound
  dsimp only
  split <;> exact ⟨rfl, rfl, rfl, rfl, rfl⟩

theorem withdraw (w : Window) : ActFrame s (s.withdraw (.w w)) := by
  unfold State.withdraw
  split
  · exact refl s
  · exact (addCause _ w _).after ⟨rfl, rfl, rfl, rfl, rfl⟩

theorem detectOvercurrent (w : Window) : ActFrame s (s.detectOvercurrent (.w w)) := by
  have hwithdrawn : ActFrame s (((s.faultFound (.w w) .overcurrent).offChan (.w w)).withdraw (.w w)) :=
    (withdraw _ w).after (ActFrame.after (t := s.faultFound (.w w) .overcurrent) ⟨rfl, rfl, rfl, rfl, rfl⟩ (faultFound s w _))
  unfold State.detectOvercurrent
  dsimp only
  split
  · exact hwithdrawn.trans (trigger _ w _)
  · exact hwithdrawn

theorem takeDeclared (w : Window) (p : Option Int) : ActFrame s (s.takeDeclared w p) := by
  unfold State.takeDeclared
  repeat' split
  · exact takePinch s w _ _
  · exact refl s
  · exact refl s

theorem sampleOutcome (w : Window) (p : Option Int) (pinch jam : Bool) : ActFrame s (s.sampleOutcome w p pinch jam) := by
  unfold State.sampleOutcome
  split
  · exact refl s
  · exact takeDeclared s w p
  · exact detectOvercurrent s w
  · dsimp only
    split
    · exact ((takeDeclared _ w p).trans (detectOvercurrent _ w)).after ⟨rfl, rfl, rfl, rfl, rfl⟩
    · exact ((detectOvercurrent _ w).trans (takeDeclared _ w p)).after ⟨rfl, rfl, rfl, rfl, rfl⟩

theorem sample (w : Window) (i v : Nat) : ActFrame s (s.sample w i v) := by
  unfold State.sample
  split
  · exact refl s
  next ph _ =>
    extract_lets ic x pinch jam pinched fed sampled
    have hpinched : ActFrame s pinched := ⟨rfl, rfl, rfl, rfl, rfl⟩
    have hfed : ActFrame pinched fed := of_only (State.feedStroke_only _ w _) rfl
    have hcounted : ActFrame fed (fed.countCurrent (.w w) (min 1023 i)) := ⟨rfl, rfl, rfl, rfl, rfl⟩
    have hsampled : ActFrame _ sampled := of_only (State.addSample_only _ w x) rfl
    exact (((hpinched.trans hfed).trans hcounted).trans hsampled).trans (sampleOutcome _ w _ _ _)

end ActFrame

end Sys2Proof.Machine
end

section
/-! The slot law over the operations of the lock sequencer, the crash response and the diagnostic monitor (R24 to R31, R48),
and the statement that every step keeps it. -/

namespace Sys2Proof.Machine
open Sys2Proof

/-! ### Operations and slots -/

/-- The operation on a channel holds a drive slot (R27). -/
def State.holds (s : State) (a : Actuator) : Bool := match s.opAt a with | some o => o.slot | none => false

/-- An ordinary operation stands on a channel (R26). -/
def State.ordinaryAt (s : State) (a : Actuator) : Prop := ∃ o, s.opAt a = some o ∧ o.crash = false

theorem State.heldSlots_eq (s : State) : s.heldSlots = Actuator.list.countP s.holds := by
  rw [State.heldSlots, List.countP_eq_length_filter]
  rfl

theorem State.heldSlots_mono {s t : State} (h : ∀ a, t.holds a = true → s.holds a = true) : t.heldSlots ≤ s.heldSlots := by
  rw [State.heldSlots_eq, State.heldSlots_eq]
  exact List.countP_mono_left fun a _ => h a

theorem Actuator.count_list (a : Actuator) : Actuator.list.count a = 1 := by
  cases a with
  | l c => cases c <;> decide
  | c r => cases r <;> decide
  | t1 => decide

/-- One more channel holds one more slot at most. -/
theorem State.heldSlots_le_succ {s t : State} (a : Actuator) (h : ∀ b, b ≠ a → t.holds b = true → s.holds b = true) :
    t.heldSlots ≤ s.heldSlots + 1 := by
  rw [State.heldSlots_eq, State.heldSlots_eq]
  have hcover : ∀ b ∈ Actuator.list, t.holds b = true → (s.holds b || b == a) = true := fun b _ hb => by
    by_cases hab : b = a
    · simp [hab]
    · simp [h b hab hb]
  have hor : ∀ l : List Actuator, l.countP (fun b => s.holds b || b == a) ≤ l.countP s.holds + l.count a := by
    intro l
    induction l with
    | nil => simp
    | cons b l ih =>
      simp only [List.countP_cons, List.count_cons]
      by_cases hb : s.holds b = true <;> by_cases hab : b = a <;> simp_all <;> omega
  calc Actuator.list.countP t.holds
      ≤ Actuator.list.countP (fun b => s.holds b || b == a) := List.countP_mono_left hcover
    _ ≤ Actuator.list.countP s.holds + Actuator.list.count a := hor _
    _ = Actuator.list.countP s.holds + 1 := by rw [Actuator.count_list]

theorem State.not_ordinaryOps_iff (s : State) : s.ordinaryOps = false ↔ ∀ a, ¬ s.ordinaryAt a := by
  have hmem : ∀ a, a ∈ Actuator.list := fun a => List.count_pos_iff.mp (by rw [Actuator.count_list]; decide)
  rw [State.ordinaryOps, List.any_eq_false]
  constructor
  · rintro h a ⟨o, ho, hcrash⟩
    have := h a (hmem a)
    simp [ho, hcrash] at this
  · intro h a _
    cases ho : s.opAt a with
    | none => simp
    | some o =>
      have : o.crash = true := by
        refine Classical.byContradiction fun hcrash => ?_
        exact h a ⟨o, ho, by simpa using hcrash⟩
      simp [this]

/-! ### One channel changed -/

/-- Every channel but one stands as it stood: its operation and whether its output is ON. -/
structure Elsewhere (a : Actuator) (s t : State) : Prop where
  queue : t.seq.queue = s.seq.queue
  op : ∀ b, b ≠ a → t.opAt b = s.opAt b
  on : ∀ b, b ≠ a → (t.chan (.act b)).drive.on = (s.chan (.act b)).drive.on

namespace Elsewhere
variable {a : Actuator} {s t : State}

theorem after {u : State} (k : Elsewhere a t u) (h : Elsewhere a s t) : Elsewhere a s u :=
  ⟨k.queue.trans h.queue, fun b hb => (k.op b hb).trans (h.op b hb), fun b hb => (k.on b hb).trans (h.on b hb)⟩

theorem of_only {ps : List Part} (h : Only ps s t) (hd : [Part.seq, .mon].all (fun x => !ps.contains x) = true) :
    Elsewhere a s t := by
  have hmem : ∀ x ∈ [Part.seq, .mon], x ∉ ps := fun x hx => by simpa using List.all_eq_true.mp hd x hx
  have hseq : t.seq = s.seq := h.same .seq (hmem _ (by decide))
  have hmon : t.mon = s.mon := h.same .mon (hmem _ (by decide))
  exact ⟨by rw [hseq], fun b _ => by rw [State.opAt, hseq]; rfl, fun b _ => by rw [State.chan, hmon]; rfl⟩

variable (s a)

theorem setOp (o : Option Op) : Elsewhere a s (s.setOp a o) :=
  ⟨rfl, fun b hb => by rw [State.setOp_opAt, if_neg hb], fun _ _ => rfl⟩

theorem setChan (r : ChannelRec) : Elsewhere a s (s.setChan (.act a) r) :=
  ⟨rfl, fun _ _ => rfl, fun b hb => by rw [State.setChan_chan, if_neg (by simpa using hb)]⟩

theorem offChan : Elsewhere a s (s.offChan (.act a)) := setChan a s _

theorem driveChan (d : Drive) : Elsewhere a s (s.driveChan (.act a) d) := setChan a s _

theorem addHeat : Elsewhere a s (s.addHeat a) := by
  cases a <;> exact ⟨rfl, fun _ _ => rfl, fun _ _ => rfl⟩

end Elsewhere

/-! ### The slot law after one change -/

theorem opLaw_of_none {s : State} {a : Actuator} (ho : s.opAt a = none) (hon : (s.chan (.act a)).drive.on = false) :
    OpLaw s a := by
  unfold OpLaw
  rw [ho]
  exact hon

/-- An ordinary operation stands by R26 to R29. -/
theorem opLaw_of_ordinary {s : State} {a : Actuator} {o : Op} (ho : s.opAt a = some o) (hcrash : o.crash = false)
    (hon : (s.chan (.act a)).drive.on = true ↔ o.phase = .drive) (hdrive : o.phase = .drive → o.slot = true)
    (hsettle : o.phase = .settle → o.slot = false) : OpLaw s a := by
  unfold OpLaw
  rw [ho]
  exact ⟨hon, fun h => absurd h (by simp [hcrash]), fun _ => ⟨hdrive, hsettle⟩⟩

/-- A crash operation stands by R48. -/
theorem opLaw_of_crash {s : State} {c : Closure} {o : Op} (ho : s.opAt (.l c) = some o) (hcrash : o.crash = true)
    (hslot : o.slot = false) (hon : (s.chan (.act (.l c))).drive.on = true ↔ o.phase = .drive)
    (hwait : o.phase ≠ .waitSlot) : OpLaw s (.l c) := by
  unfold OpLaw
  rw [ho]
  exact ⟨hon, fun _ => ⟨hslot, hwait, c, rfl⟩, fun h => absurd h (by simp [hcrash])⟩

theorem OpLaw.off {s : State} {a : Actuator} (h : OpLaw s a) (hno : ∀ o, s.opAt a = some o → o.phase ≠ .drive) :
    (s.chan (.act a)).drive.on = false := by
  unfold OpLaw at h
  split at h
  · exact h
  next o ho =>
    have hon := h.1
    simpa [hno o ho] using hon

theorem OpLaw.drives {s : State} {a : Actuator} (h : OpLaw s a) (hon : (s.chan (.act a)).drive.on = true) :
    ∃ o, s.opAt a = some o ∧ o.phase = .drive := by
  refine Classical.byContradiction fun hno => ?_
  have hoff := h.off fun o ho hp => hno ⟨o, ho, hp⟩
  rw [hoff] at hon
  cases hon

theorem OpLaw.ordinary {s : State} {a : Actuator} {o : Op} (h : OpLaw s a) (ho : s.opAt a = some o)
    (hcrash : o.crash = false) : (o.phase = .drive → o.slot = true) ∧ (o.phase = .settle → o.slot = false) := by
  unfold OpLaw at h
  rw [ho] at h
  obtain ⟨-, -, h⟩ := h
  exact h hcrash

theorem OpLaw.crash {s : State} {a : Actuator} {o : Op} (h : OpLaw s a) (ho : s.opAt a = some o) (hcrash : o.crash = true) :
    o.slot = false ∧ o.phase ≠ .waitSlot ∧ ∃ c, a = .l c := by
  unfold OpLaw at h
  rw [ho] at h
  obtain ⟨-, h, -⟩ := h
  exact h hcrash

theorem Elsewhere.opLaw {a b : Actuator} {s t : State} (h : Elsewhere a s t) (hb : b ≠ a) (hs : OpLaw s b) : OpLaw t b := by
  unfold OpLaw at hs ⊢
  rwa [h.op b hb, h.on b hb]

section OneChange
variable {s t : State} {a : Actuator}

/-- One channel changed: the law stands when it stands on that channel, no more slots are held, and an operation that
stands there now belongs to the head that it belonged to. -/
theorem SlotLaw.change (hs : SlotLaw s) (h : Elsewhere a s t) (hheld : t.heldSlots ≤ 3) (hop : OpLaw t a)
    (hord : t.ordinaryAt a → s.ordinaryAt a) : SlotLaw t := by
  obtain ⟨-, hops, howner⟩ := hs
  refine ⟨hheld, fun b => ?_, fun b o ho hcrash => ?_⟩
  · by_cases hb : b = a
    · exact hb ▸ hop
    · exact h.opLaw hb (hops b)
  · rw [h.queue]
    by_cases hb : b = a
    · subst hb
      obtain ⟨o', ho', hcrash'⟩ := hord ⟨o, ho, hcrash⟩
      exact howner b o' ho' hcrash'
    · exact howner b o (h.op b hb ▸ ho) hcrash

/-- One channel changed and holds no slot that it did not hold. -/
theorem SlotLaw.ease (hs : SlotLaw s) (h : Elsewhere a s t) (hslot : t.holds a = true → s.holds a = true)
    (hop : OpLaw t a) (hord : t.ordinaryAt a → s.ordinaryAt a) : SlotLaw t := by
  refine hs.change h (Nat.le_trans (State.heldSlots_mono fun b hb => ?_) hs.1) hop hord
  by_cases hab : b = a
  · exact hab ▸ hslot (hab ▸ hb)
  · simpa only [State.holds, h.op b hab] using hb

end OneChange

/-- The lock sequencer and what the output stage does with the actuator channels are the same in two states. -/
structure OutFrame (s t : State) : Prop where
  seq : t.seq = s.seq
  drive : ∀ a, (t.chan (.act a)).drive = (s.chan (.act a)).drive

theorem ActFrame.out {s t : State} (h : ActFrame s t) : OutFrame s t :=
  ⟨h.seq, fun a => congrArg (fun x => (Actuators.get x a).drive) h.chans⟩

theorem OutFrame.refl (s : State) : OutFrame s s := ⟨rfl, fun _ => rfl⟩

theorem OutFrame.after {s t u : State} (k : OutFrame t u) (h : OutFrame s t) : OutFrame s u :=
  ⟨k.seq.trans h.seq, fun a => (k.drive a).trans (h.drive a)⟩

/-- A channel record is written whose drive stays. -/
theorem OutFrame.setChan (s : State) (ch : Channel) {r : ChannelRec} (h : r.drive = (s.chan ch).drive) :
    OutFrame s (s.setChan ch r) :=
  ⟨rfl, fun a => by
    rw [State.setChan_chan]
    split
    next hch => rw [h, hch]
    next => rfl⟩

/-- What leaves the sequencer and every actuator output alone keeps the slot law. -/
theorem SlotLaw.outputs {s t : State} (hs : SlotLaw s) (h : OutFrame s t) : SlotLaw t := by
  obtain ⟨hheld, hops, howner⟩ := hs
  have hop : ∀ a, t.opAt a = s.opAt a := fun a => by rw [State.opAt, h.seq]; rfl
  refine ⟨Nat.le_trans (State.heldSlots_mono fun a ha => ?_) hheld, fun a => ?_, fun a o ho hcrash => ?_⟩
  · rwa [State.holds, hop] at ha
  · have := hops a
    unfold OpLaw at this ⊢
    rwa [hop, h.drive]
  · rw [h.seq]
    exact howner a o (hop a ▸ ho) hcrash

theorem SlotLaw.frame {s t : State} (hs : SlotLaw s) (h : ActFrame s t) : SlotLaw t := hs.outputs h.out

theorem slotLaw_restsOn : RestsOn [.seq, .mon] SlotLaw := by
  intro s t h hs
  refine hs.outputs ⟨h .seq (by decide), fun a => ?_⟩
  rw [State.chan, show t.mon = s.mon from h .mon (by decide)]
  rfl

theorem SlotLaw.only {ps : List Part} {s t : State} (hs : SlotLaw s) (h : Only ps s t)
    (hd : [Part.seq, .mon].all (fun x => !ps.contains x) = true) : SlotLaw t := slotLaw_restsOn.only h hd hs

/-- A property that every step of a fold keeps. -/
theorem foldl_keeps {β : Type} {P : State → Prop} {f : State → β → State} (hf : ∀ t b, P t → P (f t b)) :
    ∀ (l : List β) {s : State}, P s → P (l.foldl f s)
  | [], _, hs => hs
  | b :: l, _, hs => foldl_keeps hf l (hf _ b hs)

/-! ### The ends of operations (R25, R29 to R31) -/

theorem State.dropOp_opAt (s : State) (a : Actuator) : (s.dropOp a).opAt a = none := by
  unfold State.dropOp
  dsimp only
  rw [State.setOp_opAt, if_pos rfl]

theorem State.dropOp_elsewhere (s : State) (a : Actuator) : Elsewhere a s (s.dropOp a) := by
  unfold State.dropOp
  dsimp only
  split
  · split
    · exact (Elsewhere.setOp a _ none).after (.offChan a s)
    · exact .setOp a s none
  · exact .setOp a s none

theorem State.offChan_off (s : State) (ch : Channel) : ((s.offChan ch).chan ch).drive = .off := by
  rw [State.offChan, State.setChan_chan, if_pos rfl]
  rfl

/-- A drive in progress is switched off with its operation. -/
theorem State.dropOp_off {s : State} {a : Actuator}
    (h : (s.chan (.act a)).drive.on = true → ∃ o, s.opAt a = some o ∧ o.phase = .drive) :
    ((s.dropOp a).chan (.act a)).drive.on = false := by
  have hoff : ((s.offChan (.act a)).chan (.act a)).drive.on = false := by rw [State.offChan_off]; rfl
  unfold State.dropOp
  dsimp only
  split
  next o ho =>
    split
    · exact hoff
    next hphase =>
      show (s.chan (.act a)).drive.on = false
      refine Classical.byContradiction fun hon => ?_
      obtain ⟨o', ho', hp⟩ := h (by simpa using hon)
      rw [ho] at ho'
      cases ho'
      exact hphase hp
  next ho =>
    show (s.chan (.act a)).drive.on = false
    refine Classical.byContradiction fun hon => ?_
    obtain ⟨o', ho', -⟩ := h (by simpa using hon)
    rw [ho] at ho'
    cases ho'

section Ends
variable {s t : State} {a : Actuator}

/-- An operation is dropped on a channel that has changed, when no drive without an operation is left there. -/
theorem SlotLaw.dropChanged (hs : SlotLaw s) (h : Elsewhere a s t)
    (hon : (t.chan (.act a)).drive.on = true → ∃ o, t.opAt a = some o ∧ o.phase = .drive) : SlotLaw (t.dropOp a) := by
  have hnone := State.dropOp_opAt t a
  refine hs.ease ((State.dropOp_elsewhere t a).after h) (fun hslot => ?_) (opLaw_of_none hnone (State.dropOp_off hon))
    (fun ⟨o, ho, _⟩ => ?_)
  · rw [State.holds, hnone] at hslot
    cases hslot
  · rw [hnone] at ho
    cases ho

theorem Elsewhere.refl (a : Actuator) (s : State) : Elsewhere a s s := ⟨rfl, fun _ _ => rfl, fun _ _ => rfl⟩

theorem SlotLaw.dropOp (hs : SlotLaw s) (a : Actuator) : SlotLaw (s.dropOp a) :=
  hs.dropChanged (.refl a s) (hs.2.1 a).drives

/-- The queue and what lies beside the operations changed: a RUNNING head with operations stays RUNNING, of its kind. -/
theorem SlotLaw.requeue (hs : SlotLaw s) (hops : t.seq.ops = s.seq.ops) (hmon : t.mon = s.mon)
    (hq : s.ordinaryOps = true → ∀ e rest, s.seq.queue = e :: rest → e.running = true →
      ∃ f more, t.seq.queue = f :: more ∧ f.running = true ∧ f.kind = e.kind) : SlotLaw t := by
  obtain ⟨hheld, hlaw, howner⟩ := hs
  have hop : ∀ a, t.opAt a = s.opAt a := fun a => by rw [State.opAt, hops]; rfl
  refine ⟨Nat.le_trans (State.heldSlots_mono fun a ha => ?_) hheld, fun a => ?_, fun a o ho hcrash => ?_⟩
  · rwa [State.holds, hop] at ha
  · have := hlaw a
    unfold OpLaw at this ⊢
    rwa [hop, State.chan, hmon]
  · have hsome : s.ordinaryOps = true := by
      refine Classical.byContradiction fun hno => ?_
      exact s.not_ordinaryOps_iff.mp (by simpa using hno) a ⟨o, hop a ▸ ho, hcrash⟩
    obtain ⟨e, rest, hqueue, hrun, hdrives⟩ := howner a o (hop a ▸ ho) hcrash
    obtain ⟨f, more, hf, hrun', hkind⟩ := hq hsome e rest hqueue hrun
    exact ⟨f, more, hf, hrun', hkind ▸ hdrives⟩

theorem SlotLaw.finishIfDone (hs : SlotLaw s) : SlotLaw s.finishIfDone := by
  unfold State.finishIfDone
  split
  · split
    next hdone => exact hs.requeue rfl rfl fun hsome => by simp [hsome] at hdone
    · exact hs
  · exact hs

theorem SlotLaw.confirmEnd (hs : SlotLaw s) (a : Actuator) (v : Bool) : SlotLaw (s.confirmEnd a v) :=
  hs.only (State.confirmEnd_only s a v) rfl

theorem SlotLaw.endSuccess (hs : SlotLaw s) (a : Actuator) : SlotLaw (s.endSuccess a) :=
  ((hs.dropOp a).confirmEnd a true).finishIfDone

/-- An operation fails on a channel whose output has been switched off before. -/
theorem SlotLaw.endFailedChanged (hs : SlotLaw s) (h : Elsewhere a s t)
    (hon : (t.chan (.act a)).drive.on = true → ∃ o, t.opAt a = some o ∧ o.phase = .drive) (why : FailReason) :
    SlotLaw (t.endFailed a why) :=
  (((hs.dropChanged h hon).confirmEnd a false).only (State.raiseActuationFailed_only _ _ why _) rfl).finishIfDone

theorem SlotLaw.failCrashChanged {c : Closure} (hs : SlotLaw s) (h : Elsewhere (.l c) s t)
    (hon : (t.chan (.act (.l c))).drive.on = true → ∃ o, t.opAt (.l c) = some o ∧ o.phase = .drive) (why : FailReason) :
    SlotLaw (t.failCrash c why) :=
  ((hs.dropChanged h hon).only (State.writeConfirmed_only _ c false) rfl).only
    (State.raiseActuationFailed_only _ c why none) rfl

theorem SlotLaw.endFailed (hs : SlotLaw s) (a : Actuator) (why : FailReason) : SlotLaw (s.endFailed a why) :=
  hs.endFailedChanged (.refl a s) (hs.2.1 a).drives why

theorem SlotLaw.failCrash (hs : SlotLaw s) (c : Closure) (why : FailReason) : SlotLaw (s.failCrash c why) :=
  hs.failCrashChanged (.refl _ s) (hs.2.1 _).drives why

/-! ### Pulses (R26 to R30) -/

theorem on_dirDrive (a : Actuator) (d : ActDir) : (State.dirDrive a d).on = true := by
  cases d with
  | lock | engage | unlock => rfl
  | release => by_cases h : a = .t1 <;> simp [State.dirDrive, h, Drive.on]

@[simp] theorem State.driveChan_on (s : State) (ch : Channel) (d : Drive) : ((s.driveChan ch d).chan ch).drive = d := by
  rw [State.driveChan, State.setChan_chan, if_pos rfl]
  rfl

@[simp] theorem State.addHeat_chan (s : State) (a : Actuator) (ch : Channel) : (s.addHeat a).chan ch = s.chan ch := by
  cases a <;> rfl

@[simp] theorem State.addHeat_opAt (s : State) (a b : Actuator) : (s.addHeat a).opAt b = s.opAt b := by
  cases a <;> rfl

@[simp] theorem State.driveChan_opAt (s : State) (ch : Channel) (d : Drive) (a : Actuator) :
    (s.driveChan ch d).opAt a = s.opAt a := rfl

@[simp] theorem State.offChan_opAt (s : State) (ch : Channel) (a : Actuator) : (s.offChan ch).opAt a = s.opAt a := rfl

theorem State.setOp_opAt_self (s : State) (a : Actuator) (o : Option Op) : (s.setOp a o).opAt a = o := by
  rw [State.setOp_opAt, if_pos rfl]

/-- R28: an ordinary operation that holds its slot starts its pulse. -/
theorem SlotLaw.startPulse (hs : SlotLaw s) {o : Op} (ho : s.opAt a = some o) (hslot : o.slot = true)
    (hcrash : o.crash = false) : SlotLaw (s.startPulse a o) := by
  obtain ⟨o', hop, hdrive, hslot', hcrash'⟩ : ∃ o', (s.startPulse a o).opAt a = some o' ∧ o'.phase = .drive ∧
      o'.slot = true ∧ o'.crash = false := by
    unfold State.startPulse
    simp [State.setOp_opAt_self, hslot, hcrash]
  have hon : ((s.startPulse a o).chan (.act a)).drive.on = true := by
    unfold State.startPulse
    simp [on_dirDrive]
  have helse : Elsewhere a s (s.startPulse a o) := ((Elsewhere.addHeat a _).after (.driveChan a _ _)).after (.setOp a s _)
  exact hs.ease helse (fun _ => by simp [State.holds, ho, hslot])
    (opLaw_of_ordinary hop hcrash' (by simp [hon, hdrive]) (fun _ => hslot') (by simp [hdrive]))
    (fun _ => ⟨o, ho, hcrash⟩)

/-- R28: the checks of an operation that stands on the channel with its slot, and is ordinary. -/
theorem SlotLaw.pulseCheck (hs : SlotLaw s) (h : ∀ o, s.opAt a = some o → o.slot = true ∧ o.crash = false) :
    SlotLaw (s.pulseCheck a) := by
  unfold State.pulseCheck
  split
  · exact hs
  next o ho =>
    obtain ⟨hslot, hcrash⟩ := h o ho
    repeat' split
    · exact hs.endFailed a _
    · exact hs.endFailed a _
    · exact hs
    · exact hs.startPulse ho hslot hcrash

theorem SlotLaw.grantSlot (hs : SlotLaw s) : SlotLaw s.grantSlot := by
  unfold State.grantSlot
  split
  · exact hs
  next a hgrant =>
    unfold State.nextGrant at hgrant
    split at hgrant
    next hfree =>
      have hwaits := List.find?_some hgrant
      unfold State.waits at hwaits
      split at hwaits
      next o ho =>
        obtain ⟨⟨hphase, -⟩, hcrash⟩ : (o.phase = .waitSlot ∧ o.slot = false) ∧ o.crash = false := by simpa using hwaits
        have hop := State.setOp_opAt_self s a (some { o with slot := true })
        have hgranted : SlotLaw (s.setOp a (some { o with slot := true })) := by
          refine hs.change (.setOp a s _) ?_ (opLaw_of_ordinary hop hcrash ?_ (fun _ => rfl) ?_)
            (fun _ => ⟨o, ho, hcrash⟩)
          · refine Nat.le_trans (State.heldSlots_le_succ a fun b hb hheld => ?_) hfree
            simpa only [State.holds, State.setOp_opAt, if_neg hb] using hheld
          · have hoff : (s.chan (.act a)).drive.on = false := (hs.2.1 a).off fun o' ho' => by
              rw [ho] at ho'
              cases ho'
              simp [hphase]
            show (s.chan (.act a)).drive.on = true ↔ _
            simp [hoff, hphase]
          · simp [hphase]
        dsimp only
        refine hgranted.pulseCheck fun o' ho' => ?_
        rw [hop] at ho'
        cases ho'
        exact ⟨rfl, hcrash⟩
      next => cases hwaits
    next => cases hgrant

theorem SlotLaw.reach (hs : SlotLaw s) (n : Nat) : SlotLaw (s.reach n) := hs.only (State.reach_only s n) rfl

/-- The output goes OFF and the ordinary operation goes on in a phase without drive, holding no new slot. -/
theorem SlotLaw.pause (hs : SlotLaw s) {o o' : Op} (ho : s.opAt a = some o) (hcrash : o.crash = false)
    (hcrash' : o'.crash = false) (hphase : o'.phase ≠ .drive) (hslot : o'.slot = true → o.slot = true)
    (hsettle : o'.phase = .settle → o'.slot = false) : SlotLaw ((s.offChan (.act a)).setOp a (some o')) := by
  have hop := State.setOp_opAt_self (s.offChan (.act a)) a (some o')
  refine hs.ease ((Elsewhere.setOp a _ _).after (.offChan a s)) ?_ (opLaw_of_ordinary hop hcrash' ?_ (fun h => absurd h hphase)
    hsettle) (fun _ => ⟨o, ho, hcrash⟩)
  · simpa [State.holds, hop, ho] using hslot
  · show ((s.offChan (.act a)).chan (.act a)).drive.on = true ↔ _
    simp [State.offChan_off, Drive.on, hphase]

theorem SlotLaw.endPulse (hs : SlotLaw s) {o : Op} (ho : s.opAt a = some o) (hcrash : o.crash = false) :
    SlotLaw (s.endPulse a o) := by
  cases a with
  | t1 => exact hs.endSuccess .t1
  | l _ | c _ => exact hs.pause ho hcrash hcrash nofun nofun fun _ => rfl

theorem SlotLaw.endSettle (hs : SlotLaw s) {o : Op} (ho : s.opAt a = some o) (hcrash : o.crash = false)
    (hphase : o.phase = .settle) : SlotLaw (s.endSettle a o) := by
  unfold State.endSettle
  repeat' split
  · exact hs.endSuccess a
  · exact hs.endFailed a _
  · have hop := State.setOp_opAt_self s a
    have hoff : (s.chan (.act a)).drive.on = false := (hs.2.1 a).off fun o' ho' => by
      rw [ho] at ho'
      cases ho'
      simp [hphase]
    refine hs.ease (.setOp a s _) (fun h => ?_) (opLaw_of_ordinary (hop _) hcrash ?_ nofun (fun _ => rfl))
      (fun _ => ⟨o, ho, hcrash⟩)
    · rw [State.holds, hop] at h
      cases h
    · show (s.chan (.act a)).drive.on = true ↔ _
      simp [hoff]

theorem SlotLaw.dropPulse (hs : SlotLaw s) (a : Actuator) : SlotLaw (s.dropPulse a) := by
  unfold State.dropPulse
  split
  next o ho =>
    split
    next hdrive =>
      obtain ⟨-, hcrash⟩ : o.phase = .drive ∧ o.crash = false := by simpa using hdrive
      exact hs.pause ho hcrash hcrash nofun (fun h => h) nofun
    next => exact hs
  next => exact hs

theorem SlotLaw.resumePulse (hs : SlotLaw s) (a : Actuator) : SlotLaw (s.resumePulse a) := by
  unfold State.resumePulse
  split
  next o ho =>
    split
    next hwaits =>
      obtain ⟨⟨-, hslot⟩, hcrash⟩ : (o.phase = .waitSlot ∧ o.slot = true) ∧ o.crash = false := by simpa using hwaits
      refine hs.pulseCheck fun o' ho' => ?_
      rw [ho] at ho'
      cases ho'
      exact ⟨hslot, hcrash⟩
    next => exact hs
  next => exact hs

theorem SlotLaw.thermalAbort (hs : SlotLaw s) (a : Actuator) : SlotLaw (s.thermalAbort a) := by
  unfold State.thermalAbort
  repeat' split
  · exact hs
  · exact ((hs.dropOp a).confirmEnd a _).only (State.raiseActuationFailed_only _ _ _ _) rfl
  · exact hs

theorem SlotLaw.thermalAborts (hs : SlotLaw s) : SlotLaw s.thermalAborts :=
  (foldl_keeps (fun _ a h => h.thermalAbort a) _ hs).finishIfDone

/-! ### Crash operations (R46, R48, R50, R53) -/

theorem SlotLaw.driveCrash (hs : SlotLaw s) (c : Closure) (n : Nat) : SlotLaw (s.driveCrash c n) := by
  have hop : (s.driveCrash c n).opAt (.l c) = some (State.crashOp n s.now) := by
    unfold State.driveCrash
    simp [State.setOp_opAt_self]
  refine hs.ease (((Elsewhere.addHeat _ _).after (.driveChan _ _ _)).after (.setOp _ s _)) (fun h => ?_)
    (opLaw_of_crash hop rfl rfl ?_ nofun) (fun ⟨o, ho, hcrash⟩ => ?_)
  · change (s.driveCrash c n).holds (.l c) = true at h
    rw [State.holds, hop] at h
    cases h
  · unfold State.driveCrash
    simp [Drive.on, State.crashOp]
  · change (s.driveCrash c n).opAt (.l c) = some o at ho
    rw [hop] at ho
    cases ho
    cases hcrash

theorem SlotLaw.refreshCrash (hs : SlotLaw s) : SlotLaw s.refreshCrash := by
  refine foldl_keeps (fun t c h => ?_) _ hs
  split
  · exact h.driveCrash c 4
  · exact h

theorem SlotLaw.abortOrdinary (hs : SlotLaw s) (a : Actuator) : SlotLaw (s.abortOrdinary a) := by
  unfold State.abortOrdinary
  repeat' split
  · exact hs
  · exact hs.dropOp a
  · exact hs

theorem SlotLaw.endCrashPulse (hs : SlotLaw s) {c : Closure} {o : Op} (ho : s.opAt (.l c) = some o)
    (hcrash : o.crash = true) : SlotLaw (s.endCrashPulse c o) := by
  obtain ⟨hslot, -, -⟩ := (hs.2.1 _).crash ho hcrash
  have hop : (s.endCrashPulse c o).opAt (.l c) = some { o with
      phase := .settle
      timer := some (s.now + Config.settleTime) } := State.setOp_opAt_self ..
  refine hs.ease ((Elsewhere.setOp (.l c) _ _).after (.offChan (.l c) s)) (fun h => ?_)
    (opLaw_of_crash hop hcrash hslot ?_ nofun) (fun ⟨o', ho', hcrash'⟩ => ?_)
  · change (s.endCrashPulse c o).holds (.l c) = true at h
    simp [State.holds, hop, hslot] at h
  · show ((s.offChan (.act (.l c))).chan (.act (.l c))).drive.on = true ↔ _
    simp [State.offChan_off, Drive.on]
  · change (s.endCrashPulse c o).opAt (.l c) = some o' at ho'
    rw [hop] at ho'
    cases ho'
    simp [hcrash] at hcrash'

theorem SlotLaw.endCrashSettle (hs : SlotLaw s) (c : Closure) (o : Op) : SlotLaw (s.endCrashSettle c o) := by
  unfold State.endCrashSettle
  repeat' split
  · exact (hs.dropOp _).only (State.writeConfirmed_only _ c true) rfl
  · exact hs.failCrash c _
  · exact hs.driveCrash c _

theorem SlotLaw.abortCrash (hs : SlotLaw s) (c : Closure) : SlotLaw (s.abortCrash c) := by
  unfold State.abortCrash
  repeat' split
  · exact (hs.dropOp _).only (State.writeConfirmed_only _ c _) rfl
  · exact hs
  · exact hs

theorem SlotLaw.softConfirm (hs : SlotLaw s) (c : Closure) : SlotLaw (s.softConfirm c) := by
  unfold State.softConfirm
  repeat' split
  · exact hs.abortCrash c
  · exact hs
  · exact hs.only (State.writeConfirmed_only _ c _) rfl

/-! ### The diagnostic monitor (R152 to R156) -/

theorem OutFrame.faultFound (s : State) (ch : Channel) (k : DetectKind) : OutFrame s (s.faultFound ch k) := by
  have hset : OutFrame s (s.setChan ch ((s.chan ch).setResult k .fault)) := .setChan s ch (by cases k <;> rfl)
  unfold State.faultFound
  dsimp only
  split <;> exact OutFrame.after (t := s.setChan ch _) ⟨rfl, fun _ => rfl⟩ hset

theorem OutFrame.countCurrent (s : State) (ch : Channel) (code : Nat) : OutFrame s (s.countCurrent ch code) :=
  .setChan s ch rfl

/-- A channel is withdrawn; an actuator channel's output is OFF before. -/
theorem OutFrame.withdraw (s : State) (ch : Channel) (h : ∀ a, ch = .act a → (s.chan (.act a)).drive = .off) :
    OutFrame s (s.withdraw ch) := by
  cases ch with
  | w w => exact (ActFrame.withdraw s w).out
  | act a =>
    unfold State.withdraw
    split
    · exact .refl s
    · have hoff : OutFrame s (s.offChan (.act a)) := .setChan s (.act a) (h a rfl).symm
      exact OutFrame.after (t := s.offChan (.act a)) (.setChan _ (.act a) rfl) hoff

theorem OutFrame.judgeShort (s : State) (ch : Channel) (k : DetectKind) (held clean : Bool)
    (h : ∀ a, ch = .act a → (s.chan (.act a)).drive = .off) : OutFrame s (s.judgeShort ch k held clean) := by
  have hfound := OutFrame.faultFound s ch k
  unfold State.judgeShort
  repeat' split
  · exact (OutFrame.withdraw _ ch fun a ha => (hfound.drive a).trans (h a ha)).after hfound
  · exact .setChan s ch (by cases k <;> rfl)
  · exact .refl s
  · exact .refl s

theorem OutFrame.testOff (s : State) (ch : Channel) (f : Finding) : OutFrame s (s.testOff ch f) := by
  unfold State.testOff
  split
  next hoff =>
    have hoff : ∀ a, ch = .act a → (s.chan (.act a)).drive = .off := by
      rintro a rfl
      simp at hoff
      exact hoff.1
    have hfirst := OutFrame.judgeShort s ch .shortSupply f.nearSupply (!f.nearSupply && !f.nearGround) hoff
    exact (OutFrame.judgeShort _ ch .shortGround _ _ fun a ha => (hfirst.drive a).trans (hoff a ha)).after hfirst
  next => exact .refl s

theorem OutFrame.drivePoint (s : State) (ch : Channel) : OutFrame s (s.drivePoint ch) := by
  have hjudge : ∀ t : State, OutFrame t (t.judgeOpenLoad ch) := fun t => by
    unfold State.judgeOpenLoad
    repeat' split
    · exact .faultFound t ch _
    · exact .setChan t ch rfl
    · exact .refl t
    · exact .refl t
  have hclean : ∀ t : State, OutFrame t (t.cleanDrive ch) := fun t => by
    unfold State.cleanDrive
    dsimp only
    split
    · exact .setChan t ch rfl
    · exact .refl t
  unfold State.drivePoint
  dsimp only
  split
  next x _ =>
    split
    · have hmark : OutFrame s ((s.reach (x + Config.openLoadPoint)).setChan ch { s.chan ch with judged := true }) :=
        OutFrame.after (t := s.reach (x + Config.openLoadPoint)) (.setChan _ ch rfl) ⟨rfl, fun _ => rfl⟩
      exact (hclean _).after ((hjudge _).after hmark)
    · exact .refl s
  next => exact .refl s

theorem OutFrame.clearChan (s : State) (ch : Channel) : OutFrame s (s.clearChan ch) := by
  have hset : OutFrame s (s.setChan ch (State.cleared (s.chan ch))) := .setChan s ch rfl
  unfold State.clearChan
  cases ch with
  | w w =>
    dsimp only
    split
    · exact OutFrame.after (t := s.setChan (.w w) _) ⟨rfl, fun _ => rfl⟩ hset
    · exact hset
  | act a => exact hset

theorem OutFrame.clearCounts (s : State) : OutFrame s s.clearCounts := by
  suffices h : ∀ (l : List Channel) (s : State), OutFrame s (l.foldl (fun s ch =>
      if s.enabled ch .overcurrent then s else s.setChan ch { s.chan ch with ocCount := 0 }) s) from h _ s
  intro l
  induction l with
  | nil => exact OutFrame.refl
  | cons ch l ih =>
    intro s
    refine (ih _).after ?_
    dsimp only
    split
    · exact .refl s
    · exact .setChan s ch rfl

/-- R155: an overcurrent of an actuator channel switches its output off and ends the operation that drives it. -/
theorem SlotLaw.detectOvercurrent (hs : SlotLaw s) (a : Actuator) : SlotLaw (s.detectOvercurrent (.act a)) := by
  have hfound := OutFrame.faultFound s (.act a) .overcurrent
  have hoff := State.offChan_off (s.faultFound (.act a) .overcurrent) (.act a)
  have hwithdrawn := OutFrame.withdraw ((s.faultFound (.act a) .overcurrent).offChan (.act a)) (.act a)
    (by rintro _ ⟨⟩; exact hoff)
  show SlotLaw ((((s.faultFound (.act a) .overcurrent).offChan (.act a)).withdraw (.act a)).overcurrentEnd a)
  generalize ((s.faultFound (.act a) .overcurrent).offChan (.act a)).withdraw (.act a) = t at hwithdrawn
  have hseq : t.seq = s.seq := hwithdrawn.seq.trans hfound.seq
  have hop : t.opAt a = s.opAt a := by rw [State.opAt, hseq]; rfl
  have ht : (t.chan (.act a)).drive = .off := (hwithdrawn.drive a).trans hoff
  have helse : Elsewhere a s t := by
    refine ⟨by rw [hseq], fun b _ => by rw [State.opAt, hseq]; rfl, fun b hb => ?_⟩
    have hother := ((Elsewhere.offChan a (s.faultFound (.act a) .overcurrent)).on b hb)
    rw [hwithdrawn.drive b, hother, hfound.drive b]
  have hnodrive : (t.chan (.act a)).drive.on = true → ∃ o, t.opAt a = some o ∧ o.phase = .drive := fun h => by
    rw [ht] at h
    cases h
  have hkept : (∀ o, s.opAt a = some o → o.phase ≠ .drive) → SlotLaw t := fun hno => by
    refine hs.ease helse (fun h => by rwa [State.holds, hop] at h) ?_ (fun ⟨o, ho, hc⟩ => ⟨o, hop ▸ ho, hc⟩)
    have hlaw := hs.2.1 a
    have hon := hlaw.off hno
    unfold OpLaw at hlaw ⊢
    rw [hop, ht]
    rwa [hon] at hlaw
  unfold State.overcurrentEnd
  split
  next o ho =>
    split
    next hdrive =>
      split
      · exact hs.failCrashChanged helse hnodrive _
      · exact hs.endFailedChanged helse hnodrive _
    next hphase =>
      refine hkept fun o' ho' => ?_
      rw [← hop, ho] at ho'
      cases ho'
      exact hphase
  next ho =>
    refine hkept fun o' ho' => ?_
    rw [← hop, ho] at ho'
    cases ho'

theorem SlotLaw.measure (hs : SlotLaw s) (a : Actuator) (code : Nat) : SlotLaw (s.measure a code) := by
  have hcount := hs.outputs (.countCurrent s (.act a) code)
  unfold State.measure
  dsimp only
  repeat' split
  · exact hcount.detectOvercurrent a
  · exact hcount
  · exact hs

/-! ### Temperature and supply (R30, R42) -/

theorem SlotLaw.markAllStrokes (hs : SlotLaw s) (f : Marks → Marks) : SlotLaw (s.markAllStrokes f) :=
  hs.only (State.markAllStrokes_only s f) rfl

theorem SlotLaw.handTemp (hs : SlotLaw s) (old new : TempState) : SlotLaw (s.handTemp old new) := by
  unfold State.handTemp
  split
  case h_4 | h_5 => exact (hs.frame (.addCauseAll s _)).thermalAborts
  case h_6 => exact hs.frame (.removeCauseAll s _)
  case h_7 => exact (hs.frame (.removeCauseAll s _)).markAllStrokes _
  case h_8 => exact hs.markAllStrokes _
  all_goals exact hs

theorem SlotLaw.measureTemp (hs : SlotLaw s) (d : Int) : SlotLaw (s.measureTemp d) := by
  unfold State.measureTemp
  extract_lets old new before measured flagged
  have hflagged : SlotLaw flagged := hs.outputs ⟨rfl, fun _ => rfl⟩
  split
  · exact hflagged
  · exact SlotLaw.handTemp (s := flagged.raiseThermal) (hflagged.outputs ⟨rfl, fun _ => rfl⟩) old new

theorem SlotLaw.resumePulses (hs : SlotLaw s) : SlotLaw s.resumePulses := foldl_keeps (fun _ a h => h.resumePulse a) _ hs

theorem SlotLaw.handSupply (hs : SlotLaw s) (old new : SupplyState) : SlotLaw (s.handSupply old new) := by
  unfold State.handSupply
  split
  case h_4 | h_5 => exact foldl_keeps (fun _ a h => h.dropPulse a) _ (hs.frame (.addCauseAll s _))
  case h_6 => exact (hs.frame (.removeCauseAll s _)).resumePulses
  case h_7 => exact ((hs.frame (.removeCauseAll s _)).markAllStrokes _).resumePulses
  case h_8 => exact hs.markAllStrokes _
  all_goals exact hs

theorem SlotLaw.measureSupply (hs : SlotLaw s) (v : Nat) : SlotLaw (s.measureSupply v) := by
  unfold State.measureSupply
  extract_lets old new before measured flagged
  have hflagged : SlotLaw flagged := hs.outputs ⟨rfl, fun _ => rfl⟩
  split
  · exact hflagged
  · exact SlotLaw.handSupply (s := flagged.raiseSupply) (hflagged.outputs ⟨rfl, fun _ => rfl⟩) old new

/-! ### Queue and start of commands (R23, R24) -/

/-- A RUNNING head stays at the head when the queue is cancelled and deduped. -/
theorem dedupe_running_head {e : Entry} (rest : List Entry) (he : e.running = true) : ∃ more, dedupe (e :: rest) = e :: more := by
  unfold dedupe
  split
  · exact ⟨[], rfl⟩
  next f more _ => exact ⟨f :: more, by simp [he]⟩

theorem cancelled_running_head {e : Entry} (k : CmdKind) (rest : List Entry) (he : e.running = true) :
    ∃ more, cancelled k (e :: rest) = e :: more := by
  unfold cancelled
  split
  · rw [List.filter_cons_of_pos (by simp [cancels, he])]
    exact dedupe_running_head _ he
  · exact ⟨rest, rfl⟩

theorem State.recordRepeat_ops (s : State) (c : Command) : (s.recordRepeat c).seq.ops = s.seq.ops := by
  unfold State.recordRepeat
  split <;> rfl

theorem State.offer_ops (s : State) (c : Command) : (s.offer c).seq.ops = s.seq.ops := by
  unfold State.offer
  dsimp only
  split
  · rw [State.recordRepeat_ops]
    show Sequencer.ops (List.foldl State.raiseCancelled s _).seq = _
    rw [(raiseCancelled_foldl_only s _).same .seq (by decide)]
  · rfl

theorem SlotLaw.offer (hs : SlotLaw s) (c : Command) : SlotLaw (s.offer c) := by
  refine hs.requeue (State.offer_ops s c) ((State.offer_only s c).same .mon (by decide)) fun _ e rest hq hrun => ?_
  obtain ⟨more, hmore⟩ := cancelled_running_head c.kind rest hrun
  rw [State.offer_queue, hq, hmore]
  repeat' split
  · exact ⟨e, more ++ [c.entry], rfl, hrun, rfl⟩
  · exact ⟨e, more, rfl, hrun, rfl⟩
  · exact ⟨e, rest, rfl, hrun, rfl⟩

theorem SlotLaw.superlockRelock (hs : SlotLaw s) : SlotLaw s.superlockRelock := by
  have hframe := State.superlockRelock_only s
  suffices h : s.superlockRelock.seq.ops = s.seq.ops ∧ ∀ e rest, s.seq.queue = e :: rest → e.running = true →
      ∃ more, s.superlockRelock.seq.queue = e :: more by
    obtain ⟨hops, hqueue⟩ := h
    refine hs.requeue hops (hframe.same .mon (by decide)) fun _ e rest hq hrun => ?_
    obtain ⟨more, hmore⟩ := hqueue e rest hq hrun
    exact ⟨e, more, hmore, hrun, rfl⟩
  unfold State.superlockRelock
  extract_lets q first unlock c
  split
  · exact ⟨rfl, fun e rest hq _ => ⟨rest, hq⟩⟩
  next relocked _ =>
    rw [State.recordRepeat_ops, recordRepeat_queue]
    unfold relocked
    split
    next hlong _ =>
      refine ⟨rfl, fun e rest hq hrun => ?_⟩
      have h4 : 4 ≤ s.seq.queue.length := of_decide_eq_true hlong
      obtain ⟨x, more, rfl⟩ : ∃ x more, rest = x :: more := by
        cases rest with
        | nil => simp [hq] at h4
        | cons x more => exact ⟨x, more, rfl⟩
      exact ⟨_, by simp [State.setQueue, State.insertFront, q, hq, hrun]; rfl⟩
    next => exact ⟨rfl, fun e rest hq hrun => ⟨_, by simp [State.setQueue, State.insertFront, q, hq, hrun]; rfl⟩⟩

theorem SlotLaw.setRelock (hs : SlotLaw s) (d : Option Nat) : SlotLaw (s.setRelock d) :=
  hs.requeue rfl rfl fun _ e rest hq hrun => ⟨e, rest, hq, hrun, rfl⟩

/-- R24: a command starts on idle channels. -/
structure Starting (k : CmdKind) (s : State) : Prop where
  law : SlotLaw s
  off : ∀ a, (s.chan (.act a)).drive.on = false
  head : ∃ e rest, s.seq.queue = e :: rest ∧ e.running = true ∧ e.kind = k

theorem Starting.only {k : CmdKind} (hs : Starting k s) {ps : List Part} (h : Only ps s t)
    (hd : [Part.seq, .mon].all (fun x => !ps.contains x) = true) : Starting k t := by
  have hmem : ∀ x ∈ [Part.seq, .mon], x ∉ ps := fun x hx => by simpa using List.all_eq_true.mp hd x hx
  refine ⟨hs.law.only h hd, fun a => ?_, ?_⟩
  · rw [State.chan, show t.mon = s.mon from h.same .mon (hmem _ (by decide))]
    exact hs.off a
  · rw [show t.seq = s.seq from h.same .seq (hmem _ (by decide))]
    exact hs.head

theorem Starting.frame {k : CmdKind} (hs : Starting k s) (h : ActFrame s t) : Starting k t :=
  ⟨hs.law.frame h, fun a => (h.out.drive a).symm ▸ hs.off a, h.seq ▸ hs.head⟩

/-- R24, step 4: an operation of the command is created on an idle channel. -/
theorem Starting.create {k : CmdKind} (hs : Starting k s) {g : OpGoal} {n : Nat} (ha : k.drives a = true) :
    Starting k (s.setOp a (some (.fresh g n))) := by
  obtain ⟨⟨hheld, hops, howner⟩, hoff, e, rest, hqueue, hrun, hkind⟩ := hs
  have helse := Elsewhere.setOp a s (some (.fresh g n))
  have hop := State.setOp_opAt_self s a (some (.fresh g n))
  refine ⟨⟨Nat.le_trans (State.heldSlots_mono fun b hb => ?_) hheld, fun b => ?_, fun b o ho hcrash => ?_⟩, hoff, e, rest, hqueue,
    hrun, hkind⟩
  · by_cases hab : b = a
    · subst hab
      rw [State.holds, hop] at hb
      cases hb
    · simpa only [State.holds, helse.op b hab] using hb
  · by_cases hab : b = a
    · subst hab
      refine opLaw_of_ordinary hop rfl ?_ nofun fun _ => rfl
      show (s.chan (.act b)).drive.on = true ↔ _
      simp [hoff b, Op.fresh]
    · exact helse.opLaw hab (hops b)
  · by_cases hab : b = a
    · exact ⟨e, rest, hqueue, hrun, by rw [hkind, hab]; exact ha⟩
    · exact howner b o (helse.op b hab ▸ ho) hcrash

theorem Starting.startOn {k : CmdKind} (hs : Starting k s) (src : CmdSource) (c : Closure) :
    Starting k (State.startOn k src s c) := by
  unfold State.startOn
  split
  next g hg =>
    have hwrite := hs.only (State.writeGoal_only s c g (src.last.getD (s.closure c).lastSource)) rfl
    unfold State.createLockOp
    dsimp only
    split
    · exact hwrite.create (by simp [CmdKind.drives, hg])
    · exact hwrite
  next => exact hs

theorem Starting.startChild {r : Rear} {st : ChildState} (hs : Starting (.childSet r st) s) :
    Starting (.childSet r st) (s.startChild r st) := by
  unfold State.startChild
  extract_lets written locked v
  have hwritten : Starting (.childSet r st) written := hs.only (State.writeChildGoal_only s r st) rfl
  have hlocked : Starting (.childSet r st) locked := by
    unfold locked
    split
    · exact hwritten.frame (.endHeld _ _ _)
    · exact hwritten
  split
  · exact hlocked.create (by simp [CmdKind.drives])
  · exact hlocked

theorem Starting.startKind {k : CmdKind} (hs : Starting k s) (e : Entry) : SlotLaw (s.startKind k e) := by
  cases k with
  | childSet r st => exact hs.startChild.law
  | releaseTailgate =>
    refine SlotLaw.setRelock (s := s.startRelease e.port) ?_ _
    unfold State.startRelease
    split
    · exact (hs.create rfl).law
    · exact hs.law.only (State.raiseActuationFailed_only ..) rfl
  | lockAll | superlockAll | unlockAll | unlockDriver | unlockOne _ | unlockTailgate =>
    exact SlotLaw.setRelock (foldl_keeps (P := Starting _) (fun _ c h => h.startOn e.source c) _ hs).law _

/-- R24: a PENDING head with no crash operation in flight stands with no operation at all. -/
theorem SlotLaw.idle (hs : SlotLaw s) {e : Entry} {rest : List Entry} (hq : s.seq.queue = e :: rest)
    (hpending : e.running = false) (hcrash : s.crashOps = false) (a : Actuator) : s.opAt a = none := by
  cases ho : s.opAt a with
  | none => rfl
  | some o =>
    obtain ⟨-, hops, howner⟩ := hs
    cases hc : o.crash with
    | false =>
      obtain ⟨e', rest', hq', hrun, -⟩ := howner a o ho hc
      rw [hq] at hq'
      cases hq'
      simp [hpending] at hrun
    | true =>
      obtain ⟨-, -, c, rfl⟩ := (hops a).crash ho hc
      rw [State.crashOps, List.any_eq_false] at hcrash
      have hl : s.seq.ops.l.get c = some o := ho
      have := hcrash c (by cases c <;> decide)
      simp [hl, hc] at this

theorem SlotLaw.tryHead (hs : SlotLaw s) : SlotLaw s.tryHead := by
  unfold State.tryHead State.canStart
  cases hq : s.seq.queue with
  | nil => exact hs
  | cons e rest =>
    dsimp only
    split
    next hmay =>
      obtain ⟨⟨hpending, -⟩, hcrash⟩ : (e.running = false ∧ s.mon.temp ≠ .hot) ∧ s.crashOps = false := by
        simpa using hmay
      have hnone := hs.idle hq hpending hcrash
      have hoff : ∀ a, (s.chan (.act a)).drive.on = false := fun a =>
        (hs.2.1 a).off fun o ho => by rw [hnone] at ho; cases ho
      unfold State.startHead
      rw [hq]
      dsimp -zeta only
      extract_lets fail k running refused
      have hrunning : Starting k running := by
        refine ⟨hs.requeue rfl rfl fun hord => ?_, hoff, _, rest, rfl, rfl, rfl⟩
        have hno := s.not_ordinaryOps_iff.mpr fun a ⟨o, ho, _⟩ => by rw [hnone] at ho; cases ho
        rw [hno] at hord
        cases hord
      have hrefused : Starting k refused := by
        unfold refused
        cases fail with
        | some why => exact hrunning.only (State.raiseSuperlockRefused_only _ _ _) rfl
        | none => exact hrunning
      exact (hrefused.startKind e).finishIfDone
    next => exact hs

/-! ### Crash events (R46 to R50) -/

theorem State.abortOrdinary_self (s : State) (a : Actuator) : ¬ (s.abortOrdinary a).ordinaryAt a := by
  rintro ⟨o, ho, hcrash⟩
  unfold State.abortOrdinary at ho
  split at ho
  next o' ho' =>
    split at ho
    next hc =>
      rw [ho'] at ho
      cases ho
      simp [hcrash] at hc
    next => rw [State.dropOp_opAt] at ho; cases ho
  next hnone => rw [hnone] at ho; cases ho

theorem State.abortOrdinary_other (s : State) {a b : Actuator} (h : b ≠ a) : (s.abortOrdinary a).opAt b = s.opAt b := by
  unfold State.abortOrdinary
  repeat' split
  · rfl
  · exact (State.dropOp_elsewhere s a).op b h
  · rfl

theorem State.not_ordinaryAt_abortOrdinary {s : State} {b : Actuator} (a : Actuator) (h : ¬ s.ordinaryAt b) :
    ¬ (s.abortOrdinary a).ordinaryAt b := by
  by_cases hab : b = a
  · exact hab ▸ s.abortOrdinary_self a
  · rwa [State.ordinaryAt, s.abortOrdinary_other hab]

/-- The ordinary operations are aborted on every channel. -/
theorem abortOrdinary_all (hs : SlotLaw s) :
    SlotLaw (Actuator.list.foldl State.abortOrdinary s) ∧
      (Actuator.list.foldl State.abortOrdinary s).ordinaryOps = false := by
  refine ⟨foldl_keeps (fun _ a h => h.abortOrdinary a) _ hs, (State.not_ordinaryOps_iff _).mpr fun a => ?_⟩
  have hmem : a ∈ Actuator.list := List.count_pos_iff.mp (by rw [Actuator.count_list]; decide)
  obtain ⟨l, r, hlist⟩ := List.append_of_mem hmem
  rw [hlist, List.foldl_append, List.foldl_cons]
  exact foldl_keeps (P := fun t => ¬ t.ordinaryAt a) (fun _ b h => State.not_ordinaryAt_abortOrdinary b h) r
    (State.abortOrdinary_self _ a)

theorem SlotLaw.clearPending (hs : SlotLaw s) : SlotLaw s.clearPending := by
  have hframe := State.clearPending_only s
  refine hs.requeue ?_ (hframe.same .mon (by decide)) fun _ e rest hq hrun => ?_
  · show Sequencer.ops (List.foldl State.raiseCancelled s _).seq = _
    rw [(raiseCancelled_foldl_only s _).same .seq (by decide)]
  · have hqueue : s.clearPending.seq.queue = dedupe (s.seq.queue.filter (fun e => !State.pendingLock e)) := rfl
    rw [hqueue, hq, List.filter_cons_of_pos (by simp [State.pendingLock, hrun])]
    obtain ⟨more, hmore⟩ := dedupe_running_head (rest.filter (fun e => !State.pendingLock e)) hrun
    exact ⟨e, more, hmore, hrun, rfl⟩

theorem SlotLaw.clearRunningLock (hs : SlotLaw s) : SlotLaw s.clearRunningLock := by
  unfold State.clearRunningLock
  split
  · split
    · obtain ⟨hlaw, hnone⟩ := abortOrdinary_all hs
      exact hlaw.requeue rfl rfl fun hord => by rw [hnone] at hord; cases hord
    · exact hs
  · exact hs

/-- R46, step 3: the one operation of a RUNNING CHILD_SET is aborted before it goes back to PENDING. -/
theorem SlotLaw.returnChild (hs : SlotLaw s) : SlotLaw s.returnChild := by
  unfold State.returnChild
  split
  next e rest hq =>
    split
    next r st hrun hkind =>
      have hnone : (s.abortOrdinary (.c r)).ordinaryOps = false := by
        refine (State.not_ordinaryOps_iff _).mpr fun a => ?_
        by_cases ha : a = .c r
        · exact ha ▸ s.abortOrdinary_self _
        · refine State.not_ordinaryAt_abortOrdinary _ fun ⟨o, ho, hcrash⟩ => ha ?_
          obtain ⟨e', rest', hq', -, hdrives⟩ := hs.2.2 a o ho hcrash
          rw [hq] at hq'
          cases hq'
          rw [hkind] at hdrives
          cases a <;> simp_all [CmdKind.drives, CmdKind.goal]
      have haborted : SlotLaw (s.abortOrdinary (.c r)) := hs.abortOrdinary _
      generalize s.abortOrdinary (.c r) = t at hnone haborted
      have hframe := State.writeChildConfirmed_only t r ((t.childOf r).sensed = (t.childOf r).goal)
      refine haborted.requeue (t := (t.writeChildConfirmed r _).setQueue _) ?_ (hframe.same .mon (by decide)) fun hord => ?_
      · show (t.writeChildConfirmed r _).seq.ops = _
        rw [hframe.same .seq (by decide)]
      · rw [hnone] at hord
        cases hord
    next => exact hs
  next => exact hs

theorem SlotLaw.crashEvent (hs : SlotLaw s) : SlotLaw s.crashEvent := by
  unfold State.crashEvent
  split
  · have hcaused : SlotLaw (s.raiseCrash.addCauseAll .crash) :=
      SlotLaw.frame (hs.only (State.raiseCrash_only s) rfl) (.addCauseAll _ .crash)
    exact hcaused.returnChild.refreshCrash
  · unfold State.firstCrash
    extract_lets before latched cleared crashed
    have hcleared : SlotLaw cleared :=
      ((SlotLaw.clearPending (s := latched) (hs.outputs ⟨rfl, fun _ => rfl⟩)).clearRunningLock.returnChild).setRelock none
    have hcrashed : SlotLaw crashed :=
      ((hcleared.only (State.crashGoals_only cleared) rfl).frame (.addCauseAll _ .crash)).only (State.raiseCrash_only _) rfl
    exact foldl_keeps (fun _ c h => h.driveCrash c 4) _ hcrashed

theorem SlotLaw.crashTimer (hs : SlotLaw s) : SlotLaw s.crashTimer := by
  have hdetector : ∀ n d, SlotLaw ((s.reach n).setDetector d none) := fun n d => hs.outputs ⟨rfl, fun _ => rfl⟩
  unfold State.crashTimer
  split
  · exact (hdetector _ _).crashEvent
  · exact hdetector _ _
  · exact hs

/-! ### Resets (R43, R53, R172) -/

theorem slotLaw_fullReset (s : State) : SlotLaw s.fullReset := by
  have hop : ∀ a, s.fullReset.opAt a = none := fun a => by
    cases a with
    | l c => cases c <;> rfl
    | c r => cases r <;> rfl
    | t1 => rfl
  refine ⟨by rw [State.heldSlots_eq, List.countP_eq_zero.mpr fun a _ => by simp [State.holds, hop]]; decide,
    fun a => opLaw_of_none (hop a) ?_, fun a o ho => by rw [hop] at ho; cases ho⟩
  cases a with
  | l c => cases c <;> rfl
  | c r => cases r <;> rfl
  | t1 => rfl

theorem SlotLaw.released (hs : SlotLaw s) (cause : ResetCause) (deg : Int) (v : Nat) : SlotLaw (s.released cause deg v) := by
  have hdetector : OutFrame s s.startDetector := by
    unfold State.startDetector
    split
    · exact ⟨rfl, fun _ => rfl⟩
    · exact .refl s
  exact (((hs.outputs hdetector).only (State.raiseRestarted_only _ cause) rfl).measureTemp deg).measureSupply v

theorem SlotLaw.softReset (hs : SlotLaw s) : SlotLaw s.softReset := by
  unfold State.softReset
  extract_lets cleared stopped confirmed
  have hcleared : SlotLaw cleared := by
    obtain ⟨hlaw, hnone⟩ := abortOrdinary_all hs
    exact hlaw.requeue rfl rfl fun hord => by rw [hnone] at hord; cases hord
  have hstopped : SlotLaw stopped := hcleared.frame (ActFrame.foldl ActFrame.softStop _ _)
  have hconfirmed : SlotLaw confirmed :=
    (foldl_keeps (fun _ c h => h.softConfirm c) _ hstopped).only (Only.foldl State.softChild_only _ _) rfl
  have hidle : SlotLaw confirmed.softIdle := hconfirmed.only (State.softIdle_only _) rfl
  refine SlotLaw.only ?_ (State.raiseRestarted_only _ .soft) rfl
  unfold State.softCrash
  split
  · exact hidle.refreshCrash
  · exact hidle

theorem SlotLaw.responseSent (hs : SlotLaw s) (p : Port) : SlotLaw (s.responseSent p) := by
  have hidle : SlotLaw (s.idlePort p) := hs.only (State.idlePort_only s p) rfl
  unfold State.responseSent
  dsimp only
  split
  · split
    · exact hidle.softReset
    · exact hidle
  · exact hs

theorem SlotLaw.powerOn (s : State) (deg : Int) (v : Nat) : SlotLaw (s.powerOn deg v) := by
  unfold State.powerOn
  dsimp only
  split
  · exact slotLaw_fullReset s
  · exact (slotLaw_fullReset s).released _ deg v

theorem SlotLaw.releaseReset (hs : SlotLaw s) (deg : Int) (v : Nat) : SlotLaw (s.releaseReset deg v) := by
  unfold State.releaseReset
  split
  · exact (slotLaw_fullReset _).released _ deg v
  · exact hs

/-! ### Requests and lines -/

theorem SlotLaw.tailgatePair (hs : SlotLaw s) (src : CmdSource) (tag : Byte) : SlotLaw (s.tailgatePair src tag).1 :=
  (hs.offer _).offer _

theorem SlotLaw.fobAction (hs : SlotLaw s) (i : Fin 8) (x : FobAction) (tag : Byte) :
    SlotLaw (s.fobAction i x tag).state := by
  have hcomfort : ∀ d, SlotLaw (s.comfortReply i d tag).state := by
    intro d
    unfold State.comfortReply
    split
    · exact hs.only (State.renewSession_only s) rfl
    · exact ((hs.offer _).frame (.comfortAll _ _ _)).frame (.replaceSession _ i d)
  cases x with
  | lock | unlock => exact hs.offer _
  | tailgate => exact hs.tailgatePair _ tag
  | comfortClose | comfortOpen => exact hcomfort _
  | comfortStop => exact hs.frame (.endSession s)

theorem SlotLaw.ownCredential (hs : SlotLaw s) (tag : Byte) (q : List Byte) :
    SlotLaw (State.ownCredential tag q s).state := by
  unfold State.ownCredential
  split
  next i x _ _ =>
    unfold State.credential
    split
    · exact hs
    · exact hs
    unfold State.judgeFrame
    generalize classify (s.slotAt i) s.now (fieldAt q 1 3) (some x) = v
    have hcounter := hs.only (State.applyCounter_only s i (fieldAt q 1 3) (some x) v) rfl
    cases v with
    | duplicate => exact hcounter.only (State.renewByDuplicate_only _ i x) rfl
    | stale | resyncNeeded => exact hcounter
    | accepted =>
      dsimp only
      split
      · exact hcounter.fobAction i x tag
      · exact hcounter
  next => exact hs

theorem SlotLaw.claimAction (hs : SlotLaw s) (x : TouchSource) (i : Fin 8) (tag : Byte) :
    SlotLaw (s.claimAction x i tag).state := by
  cases x with
  | tgButton => exact hs.tailgatePair _ tag
  | fdOpen | fdLock | fpOpen | fpLock => exact hs.offer _

theorem SlotLaw.ownPassiveClaim (hs : SlotLaw s) (tag : Byte) (q : List Byte) :
    SlotLaw (State.ownPassiveClaim tag q s).state := by
  unfold State.ownPassiveClaim
  split
  next x i z clear _ _ _ _ =>
    unfold State.claim
    split
    · exact hs
    · exact hs
    have hconsumed := hs.only (State.setTouch_only s x .idle) rfl
    unfold State.claimSlot
    split
    · exact hconsumed
    · exact hconsumed
    split
    · unfold State.claimCounter
      generalize classify ((s.setTouch x .idle).slotAt i) (s.setTouch x .idle).now (fieldAt q 2 3) none = v
      have hcounter := hconsumed.only (State.applyCounter_only _ i (fieldAt q 2 3) none v) rfl
      cases v with
      | duplicate | stale | resyncNeeded => exact hcounter
      | accepted =>
        dsimp only
        split
        · exact hcounter
        · exact hcounter.claimAction x i tag
    · exact hconsumed
  next => exact hs

theorem ActFrame.ownComfort (q : List Byte) (s : State) : ActFrame s (State.ownComfort q s).state := by
  unfold State.ownComfort
  split
  · exact .comfortAll s _ _
  · exact .comfortAll s _ _
  · exact .endHeldAll s _
  · exact .refl s

theorem OutFrame.applyConfig (s : State) (g : Configuration) (group : Group) : OutFrame s (s.applyConfig g group) := by
  unfold State.applyConfig
  extract_lets old configured passive locked shifted
  have hpassive : ActFrame s passive := by
    unfold passive
    split <;> exact ⟨rfl, rfl, rfl, rfl, rfl⟩
  have hlockout : ∀ (t : State) r, ActFrame t (t.lockoutByPolicy r) := fun t r => by
    unfold State.lockoutByPolicy
    split
    · exact .endHeld _ _ _
    · exact .refl t
  have hlocked : ActFrame s locked := by
    unfold locked
    split
    · exact hpassive.trans (ActFrame.foldl hlockout _ _)
    · exact hpassive
  have hshifted : ActFrame s shifted :=
    hlocked.trans (ActFrame.foldl (fun t w => .of_only (State.shiftWritten_only old t w) rfl) _ _)
  split
  · exact (OutFrame.clearCounts _).after hshifted.out
  · exact hshifted.out

theorem SlotLaw.owner (hs : SlotLaw s) (k : Kind) (p : Port) (tag : Byte) (q : List Byte) :
    SlotLaw (ownerOf k p tag q s).state := by
  cases k with
  | lock =>
    show SlotLaw (State.ownLock p tag q s).state
    unfold State.ownLock
    split
    · exact hs.offer _
    · exact hs
  | centralToggle =>
    show SlotLaw (State.ownCentralToggle p tag q s).state
    unfold State.ownCentralToggle
    split
    · exact hs.offer _
    · exact hs
  | childSet =>
    show SlotLaw (State.ownChildSet p tag q s).state
    unfold State.ownChildSet
    split
    · exact hs.offer _
    · exact hs
  | credential => exact hs.ownCredential tag q
  | passiveClaim => exact hs.ownPassiveClaim tag q
  | windowSwitch =>
    show SlotLaw (State.ownWindowSwitch q s).state
    unfold State.ownWindowSwitch
    split
    · exact hs.frame (.panelFrame s _ _)
    · exact hs
  | rearLockout =>
    show SlotLaw (State.ownRearLockout q s).state
    unfold State.ownRearLockout
    split
    · exact hs.frame (.writeLockout s _)
    · exact hs
  | comfort => exact hs.frame (.ownComfort q s)
  | vehicleMode =>
    show SlotLaw (State.ownVehicleMode q s).state
    unfold State.ownVehicleMode
    split
    · exact hs.frame (.writeMode s _)
    · exact hs
  | clearFault =>
    show SlotLaw (State.ownClearFault q s).state
    unfold State.ownClearFault
    repeat' split
    · exact hs
    · exact hs.outputs (.clearChan s _)
    · exact hs
  | clearStatus => exact hs.outputs ⟨rfl, fun _ => rfl⟩
  | configWrite =>
    show SlotLaw (State.ownConfigWrite q s).state
    unfold State.ownConfigWrite
    repeat' split
    · exact hs.outputs (.applyConfig s _ _)
    · exact hs
    · exact hs
  | fobWrite =>
    show SlotLaw (State.ownFobWrite q s).state
    unfold State.ownFobWrite
    repeat' split
    · exact hs.frame (.writeFob s _ _)
    · exact hs
    · exact hs
  | _ => exact hs.only (ownerOf_only _ p tag q s) rfl

theorem SlotLaw.handlePull (hs : SlotLaw s) (c : Side) : SlotLaw (s.handlePull c) := by
  unfold State.handlePull
  split
  · exact hs
  cases c with
  | fd | fp | rd | rp =>
    dsimp only
    split
    · exact hs
    · exact hs.offer _

theorem SlotLaw.touched (hs : SlotLaw s) (x : TouchSource) : SlotLaw (s.touched x) := by
  cases x with
  | fdOpen | fdLock | fpOpen | fpLock => exact hs.only (State.touchEvent_only s _) rfl
  | tgButton =>
    show SlotLaw s.tailgatePress
    unfold State.tailgatePress
    split
    · split
      · exact hs
      · exact hs.offer _
    · exact hs.only (State.touchEvent_only s _) rfl

theorem SlotLaw.contactEvent (hs : SlotLaw s) (x : Stage Bool) {f : State → State} (hf : SlotLaw s → SlotLaw (f s)) :
    SlotLaw (s.contactEvent x f) := by
  unfold State.contactEvent
  split
  · exact hf hs
  · exact hs

theorem SlotLaw.latchExpiry (hs : SlotLaw s) (c : Closure) (f : Feed LatchLevel) : SlotLaw (s.latchExpiry c f) := by
  have hwrite : ∀ r, SlotLaw (s.writeClosure c r) := fun r => hs.only (State.writeClosure_only s c r) rfl
  unfold State.latchExpiry
  dsimp only
  repeat' split
  · exact hs.outputs ⟨rfl, fun _ => rfl⟩
  · exact hs
  · have hrelock := ((hwrite { s.closure c with latch := latchOf f.raw }).setRelock none).superlockRelock
    unfold State.latchAjar
    dsimp only
    split
    · exact hrelock.frame (.stopRetained _)
    · exact hrelock
  · exact hwrite _

theorem SlotLaw.debounce (hs : SlotLaw s) (l : Line) : SlotLaw (s.debounce l) := by
  have hsettled : ∀ n y, SlotLaw ((s.reach n).setSensing y) := fun n y => hs.outputs ⟨rfl, fun _ => rfl⟩
  unfold State.debounce
  cases l with
  | latch c =>
    dsimp only
    split
    · exact (hsettled _ _).latchExpiry c _
    · exact hs
  | feedback c =>
    dsimp only
    split
    · exact (hsettled _ _).only (State.feedbackExpiry_only _ c _) rfl
    · exact hs
  | child r =>
    dsimp only
    split
    · exact (hsettled _ _).only (State.childExpiry_only _ r _) rfl
    · exact hs
  | handle c =>
    dsimp only
    split
    · exact (hsettled _ _).contactEvent _ fun h => h.handlePull c
    · exact hs
  | keyLock =>
    dsimp only
    split
    · refine (hsettled _ _).contactEvent _ fun h => ?_
      unfold State.keyLockContact
      split
      · exact h
      · exact h.offer _
    · exact hs
  | keyUnlock =>
    dsimp only
    split
    · refine (hsettled _ _).contactEvent _ fun h => ?_
      unfold State.keyUnlockContact
      split
      · exact h
      · exact h.offer _
    · exact hs
  | touch x =>
    dsimp only
    split
    · exact (hsettled _ _).contactEvent _ fun h => h.touched x
    · exact hs
  | localSwitch w =>
    dsimp only
    split
    · split
      · split
        · exact hsettled _ _
        · exact (hsettled _ _).frame (.localEvent _ _ _ _)
      · exact hsettled _ _
    · exact hs

/-! ### Timers of the operations -/

theorem State.opTimer_some {ph : OpPhase} {crash : Bool} {o : Op} {n : Nat} (h : s.opTimer a ph crash = some (o, n)) :
    s.opAt a = some o ∧ o.timer = some n ∧ o.phase = ph ∧ o.crash = crash := by
  unfold State.opTimer at h
  split at h
  next o' ho =>
    split at h
    next n' hn =>
      split at h
      next hmatch =>
        cases h
        obtain ⟨hphase, hcrash⟩ : o.phase = ph ∧ o.crash = crash := by simpa using hmatch
        exact ⟨ho, hn, hphase, hcrash⟩
      next => cases h
    next => cases h
  next => cases h

theorem SlotLaw.pulseExpiry (hs : SlotLaw s) (a : Actuator) : SlotLaw (s.pulseExpiry a) := by
  unfold State.pulseExpiry
  split
  next o n htimer =>
    obtain ⟨ho, -, -, hcrash⟩ := State.opTimer_some htimer
    exact SlotLaw.endPulse (hs.reach n) ho hcrash
  next => exact hs

theorem SlotLaw.settleExpiry (hs : SlotLaw s) (a : Actuator) : SlotLaw (s.settleExpiry a) := by
  unfold State.settleExpiry
  split
  next o n htimer =>
    obtain ⟨ho, -, hphase, hcrash⟩ := State.opTimer_some htimer
    exact SlotLaw.endSettle (hs.reach n) ho hcrash hphase
  next => exact hs

theorem SlotLaw.crashPulseExpiry (hs : SlotLaw s) (c : Closure) : SlotLaw (s.crashPulseExpiry c) := by
  unfold State.crashPulseExpiry
  split
  next o n htimer =>
    obtain ⟨ho, -, -, hcrash⟩ := State.opTimer_some htimer
    exact SlotLaw.endCrashPulse (hs.reach n) ho hcrash
  next => exact hs

theorem SlotLaw.crashSettleExpiry (hs : SlotLaw s) (c : Closure) : SlotLaw (s.crashSettleExpiry c) := by
  unfold State.crashSettleExpiry
  split
  next n _ => exact (hs.reach n).endCrashSettle c _
  next => exact hs

theorem SlotLaw.relockExpiry (hs : SlotLaw s) : SlotLaw s.relockExpiry := by
  unfold State.relockExpiry
  split
  · exact ((hs.reach _).setRelock none).offer _
  · exact hs

theorem SlotLaw.heatTick (hs : SlotLaw s) : SlotLaw s.heatTick :=
  hs.requeue rfl rfl fun _ e rest hq hrun => ⟨e, rest, hq, hrun, rfl⟩

theorem SlotLaw.live (hs : SlotLaw s) {f : State → State} (hf : SlotLaw s → SlotLaw (f s)) : SlotLaw (s.live f) := by
  unfold State.live
  split
  · exact hs
  · exact hf hs

end Ends

/-- Every command keeps the slot law. -/
theorem exec_keeps_slotLaw (c : Instr) (s t : State) (ht : exec c s = .next t) (hs : SlotLaw s) : SlotLaw t := by
  have howner := fun k p tag q s (h : SlotLaw s) => h.owner k p tag q
  cases c using Instr.casesRequest
  case request k p tag q => exact slotLaw_restsOn.exec_request rfl howner ht hs
  case linkByteReceived p b => exact slotLaw_restsOn.exec_linkByte rfl howner ht hs
  case unknownKindRequest p tag kind q => exact slotLaw_restsOn.exec_unknownKind rfl howner ht hs
  case debounceExpiry l => cases ht; exact hs.live fun h => h.debounce l
  case crashDetectorTimer => cases ht; exact hs.live fun h => h.crashTimer
  case crashPulseEnd c => cases ht; exact hs.live fun h => h.crashPulseExpiry c
  case crashSettleEnd c => cases ht; exact hs.live fun h => h.crashSettleExpiry c
  case powerOn deg v => cases ht; exact SlotLaw.powerOn s deg v
  case resetLineAssert => cases ht; exact slotLaw_fullReset _
  case resetLineRelease deg v => cases ht; exact hs.releaseReset deg v
  case responseSent p => cases ht; exact hs.live fun h => h.responseSent p
  case commandStart => cases ht; exact hs.live fun h => h.tryHead
  case slotGrant => cases ht; exact hs.live fun h => h.grantSlot
  case pulseEnd a => cases ht; exact hs.live fun h => h.pulseExpiry a
  case settleEnd a => cases ht; exact hs.live fun h => h.settleExpiry a
  case heatTick => cases ht; exact hs.live fun h => h.heatTick
  case relockTimerExpiry => cases ht; exact hs.live fun h => h.relockExpiry
  case keepAliveExpiry => cases ht; exact hs.live fun h => h.frame (.keepAliveEnd s)
  case ripplePulse w => cases ht; exact hs.live fun h => h.frame (.ripple s w)
  case windowSample w i v => cases ht; exact hs.live fun h => h.frame (.sample s w i v)
  case startWindowEnd w => cases ht; exact hs.live fun h => h.frame (.startEnd s w)
  case stallTimerExpiry w => cases ht; exact hs.live fun h => h.frame (.stallEnd s w)
  case dwellEnd w => cases ht; exact hs.live fun h => h.frame (.dwellExpiry s w)
  case brakeEnd w => cases ht; exact hs.live fun h => h.frame (.brakeExpiry s w)
  case panelRefreshExpiry w => cases ht; exact hs.live fun h => h.frame (.panelExpiry s w)
  case retainedPowerExpiry => cases ht; exact hs.live fun h => h.frame (.retainedExpiry s)
  case actuatorCurrentMeasurement a code => cases ht; exact hs.live fun h => h.measure a code
  case openLoadJudgement ch => cases ht; exact hs.live fun h => h.outputs (.drivePoint s ch)
  case offStateTick f =>
    cases ht
    refine hs.live fun h => foldl_keeps (fun _ ch ht => ht.outputs (.testOff _ ch _)) _ ?_
    exact h.outputs ⟨rfl, fun _ => rfl⟩
  case temperatureMeasurement deg => cases ht; exact hs.live fun h => h.measureTemp deg
  case supplyMeasurement v => cases ht; exact hs.live fun h => h.measureSupply v
  all_goals exact hs.only (exec_event_only ht) rfl

/-- Settles O57: an ordinary operation comes into being at the start of its command alone, on idle channels, and every
other operation eases the law on the one channel it changes. -/
theorem slotLawKept : Obligations.SlotLawKept := fun s hs t ht =>
  slotLaw_restsOn.step rfl rfl exec_keeps_slotLaw s hs t ht

end Sys2Proof.Machine
end

section
/-! What an operation on one window does to that window's record, bridge, pinch state, references and ring, and that it
leaves the other windows and channels alone (R93 to R103, R129, R137). -/

namespace Sys2Proof.Machine
open Sys2Proof

/-! ### A window's own pieces after a write -/

@[simp] theorem State.setWin_self (s : State) (w : Window) (r : WindowRec) : (s.setWin w r).winRec w = r := by
  rw [State.setWin_winRec, if_pos rfl]

@[simp] theorem State.setPinch_self (s : State) (w : Window) (x : PinchState) : (s.setPinch w x).pinchOf w = x := by
  rw [State.setPinch_pinchOf, if_pos rfl]

@[simp] theorem State.setRefs_self (s : State) (w : Window) (x : RefState) : (s.setRefs w x).refsOf w = x := by
  rw [State.setRefs_refsOf, if_pos rfl]

@[simp] theorem State.setChan_self (s : State) (ch : Channel) (x : ChannelRec) : (s.setChan ch x).chan ch = x := by
  rw [State.setChan_chan, if_pos rfl]

/-! ### One window alone -/

namespace OnlyWindow
variable {s t u : State} {w : Window}

theorem refl (s : State) (w : Window) : OnlyWindow s s w :=
  ⟨fun _ _ => rfl, fun _ _ => rfl, fun _ _ => rfl, fun _ _ => rfl, fun _ _ => rfl, rfl, rfl, rfl⟩

theorem after (k : OnlyWindow t u w) (h : OnlyWindow s t w) : OnlyWindow s u w where
  recs x hx := (k.recs x hx).trans (h.recs x hx)
  pinch x hx := (k.pinch x hx).trans (h.pinch x hx)
  refs x hx := (k.refs x hx).trans (h.refs x hx)
  rings x hx := (k.rings x hx).trans (h.rings x hx)
  chans x hx := (k.chans x hx).trans (h.chans x hx)
  rest := ⟨k.rest.1.trans h.rest.1, k.rest.2.1.trans h.rest.2.1, k.rest.2.2.trans h.rest.2.2⟩

/-- What touches no window and no channel, and no ring, acts on no window. -/
theorem of_only {ps : List Part} (h : Only ps s t)
    (hd : [Part.win, .pinch, .refs, .mon].all (fun x => !ps.contains x) = true) (hrings : t.trace.rings = s.trace.rings) :
    OnlyWindow s t w := by
  have hmem : ∀ x ∈ [Part.win, .pinch, .refs, .mon], x ∉ ps := fun x hx => by
    simpa using List.all_eq_true.mp hd x hx
  have hwin : t.win = s.win := h.same .win (hmem _ (by decide))
  have hpinch : t.pinch = s.pinch := h.same .pinch (hmem _ (by decide))
  have hrefs : t.refs = s.refs := h.same .refs (hmem _ (by decide))
  have hmon : t.mon = s.mon := h.same .mon (hmem _ (by decide))
  exact ⟨fun x _ => by rw [State.winRec, hwin]; rfl, fun x _ => by rw [State.pinchOf, hpinch]; rfl,
    fun x _ => by rw [State.refsOf, hrefs]; rfl, fun _ _ => by rw [hrings], fun x _ => by rw [State.chan, hmon]; rfl,
    by rw [hwin], by rw [hwin], by rw [hwin]⟩

theorem setWin (s : State) (w : Window) (r : WindowRec) : OnlyWindow s (s.setWin w r) w :=
  { refl s w with recs := fun x hx => by rw [State.setWin_winRec, if_neg hx] }

theorem setPinch (s : State) (w : Window) (x : PinchState) : OnlyWindow s (s.setPinch w x) w :=
  { refl s w with pinch := fun y hy => by rw [State.setPinch_pinchOf, if_neg hy] }

theorem setRefs (s : State) (w : Window) (x : RefState) : OnlyWindow s (s.setRefs w x) w :=
  { refl s w with refs := fun y hy => by rw [State.setRefs_refsOf, if_neg hy] }

theorem setChan (s : State) (w : Window) (x : ChannelRec) : OnlyWindow s (s.setChan (.w w) x) w :=
  { refl s w with chans := fun y hy => by rw [State.setChan_chan, if_neg hy] }

theorem setRing (s : State) (w : Window) (l : List Sample) : OnlyWindow s (s.setRing w l) w :=
  { refl s w with rings := fun _ hx => Windows.get_set_ne _ _ _ _ hx }

theorem completeBuffer (s : State) (w : Window) (i : Fin 8) (x : Completion) : OnlyWindow s (s.completeBuffer i x) w := by
  refine of_only (State.completeBuffer_only s i x) rfl ?_
  unfold State.completeBuffer
  split <;> rfl

theorem completeFilling (s : State) (w : Window) (x : Completion) : OnlyWindow s (s.completeFilling w x) w := by
  unfold State.completeFilling
  split
  · exact completeBuffer s w _ x
  · exact refl s w

end OnlyWindow

theorem State.completeBuffer_trace (s : State) (i : Fin 8) (x : Completion) :
    (s.completeBuffer i x).trace = { s.trace with buffers := (s.completeBuffer i x).trace.buffers } := by
  unfold State.completeBuffer
  split <;> rfl

theorem State.completeFilling_trace (s : State) (w : Window) (x : Completion) :
    (s.completeFilling w x).trace = { s.trace with buffers := (s.completeFilling w x).trace.buffers } := by
  unfold State.completeFilling
  split
  · exact State.completeBuffer_trace s _ x
  · rfl

theorem State.trigger_rings (s : State) (w : Window) (k : TriggerKind) : (s.trigger w k).trace.rings = s.trace.rings := by
  unfold State.trigger
  dsimp only
  split
  · rfl
  · rfl
  next i _ _ =>
    unfold State.openRecord
    dsimp only
    have hfilled : ((s.advanceSequence).completeFilling w .overlap).trace.rings = s.trace.rings := by
      rw [State.completeFilling_trace]
      rfl
    split
    · exact hfilled
    · rw [State.completeBuffer_trace]
      exact hfilled

theorem State.trigger_sequence (s : State) (w : Window) (k : TriggerKind) :
    (s.trigger w k).trace.sequence = (s.trace.sequence + 1) % 65536 := by
  unfold State.trigger
  dsimp only
  split
  · rfl
  · rfl
  next i _ _ =>
    unfold State.openRecord
    dsimp only
    have hfilled : ((s.advanceSequence).completeFilling w .overlap).trace.sequence = (s.trace.sequence + 1) % 65536 := by
      rw [State.completeFilling_trace]
      rfl
    split
    · exact hfilled
    · rw [State.completeBuffer_trace]
      exact hfilled

/-! ### The end of a motion (R99, R129, R141) -/

section Ops
variable (s : State) (w : Window)

theorem OnlyWindow.trigger (k : TriggerKind) : OnlyWindow s (s.trigger w k) w :=
  .of_only (State.trigger_only s w k) rfl (State.trigger_rings s w k)

theorem State.stopMotion_winRec (m : Motion) (braked : Bool) (x : Completion) :
    (s.stopMotion w m braked x).winRec w =
      { s.winRec w with
        motion := m, startWindow := none, stall := none, stallReached := false, dwell := none
        brake := if braked then some ((s.winRec w).dwell.getD (s.now + 500)) else none } := by
  unfold State.stopMotion
  dsimp only
  rw [State.winRec, (State.completeFilling_only _ w x).same .win (by decide)]
  cases braked <;> exact State.setWin_self s w _

theorem State.stopMotion_chan (m : Motion) (braked : Bool) (x : Completion) :
    (s.stopMotion w m braked x).chan (.w w) = (s.chan (.w w)).finished (if braked then .brake else .off) := by
  unfold State.stopMotion
  dsimp only
  rw [State.chan, (State.completeFilling_only _ w x).same .mon (by decide)]
  cases braked <;> exact State.setChan_self _ (.w w) _

theorem State.stopMotion_refsOf (m : Motion) (braked : Bool) (x : Completion) :
    (s.stopMotion w m braked x).refsOf w = { s.refsOf w with stroke := none } := by
  unfold State.stopMotion
  dsimp only
  rw [State.refsOf, (State.completeFilling_only _ w x).same .refs (by decide)]
  cases braked <;> exact State.setRefs_self _ w _

theorem OnlyWindow.stopMotion (m : Motion) (braked : Bool) (x : Completion) :
    OnlyWindow s (s.stopMotion w m braked x) w := by
  unfold State.stopMotion
  dsimp only
  refine (OnlyWindow.completeFilling _ w x).after ((OnlyWindow.setRefs _ w _).after ?_)
  cases braked <;> exact (OnlyWindow.setChan _ w _).after (.setWin s w _)

theorem OnlyWindow.toIdle : OnlyWindow s (s.toIdle w) w := .stopMotion s w _ _ _

theorem State.toIdle_now : (s.toIdle w).now = s.now := (State.toIdle_only s w).same .now (by decide)

/-- R99: a motion that ends into IDLE with the brake. -/
theorem State.toIdle_ended : RunEnded s (s.toIdle w) w (s.winRec w) where
  record := by
    rw [State.toIdle_now]
    exact State.stopMotion_winRec s w .idle true .stopped
  bridge := State.stopMotion_chan s w .idle true .stopped
  pinch := by rw [State.pinchOf, (State.toIdle_only s w).same .pinch (by decide)]; rfl
  refs := State.stopMotion_refsOf s w .idle true .stopped

/-- R96, R102: a run that ends into DWELL. -/
theorem State.toDwell_paused (p : Pending) : RunPaused s (s.toDwell w p) w (s.winRec w) p where
  record := State.setWin_self s w _
  bridge := State.setChan_self _ (.w w) _
  refs := State.setRefs_self _ w _
  ring := rfl

theorem OnlyWindow.toDwell (p : Pending) : OnlyWindow s (s.toDwell w p) w :=
  (OnlyWindow.setRefs _ w _).after ((OnlyWindow.setChan _ w _).after (.setWin s w _))

end Ops

/-! ### Starts (R96, R103) -/

section Starts
variable (s : State) (w : Window)

theorem OnlyWindow.carryOutForget : OnlyWindow s (s.carryOutForget w) w := by
  unfold State.carryOutForget
  split
  · exact (OnlyWindow.of_only (State.raiseContextChanged_only _ w) rfl rfl).after (.setRefs s w _)
  · exact .refl s w

/-- Steps 1 to 5 of R96 behind the pending forget: the run is written, read and driven, wherever the window stands. -/
def State.driveRun (s : State) (w : Window) (k : RunRec) : State :=
  let c := s.calOf w
  let s := s.setWin w (State.startedRec (s.winRec w) (.run k) k.dir s.now)
  let s := s.setPinch w
    { filter := none, acc := 0, lastInterval := 0, pulseBase := s.now, cal := some c, lastTeff := none }
  ((s.setRing w []).startStroke w k.dir c).driveChan (.w w) k.dir.drive

/-- R96: a run starts, wherever the window stands. -/
def State.launch (s : State) (w : Window) (k : RunRec) : State := (s.carryOutForget w).driveRun w k

theorem State.carryOutForget_calOf (v : Window) : (s.carryOutForget w).calOf v = s.calOf v := by
  rw [State.calOf, (State.carryOutForget_only s w).same .config (by decide)]
  rfl

theorem State.carryOutForget_winRec (v : Window) : (s.carryOutForget w).winRec v = s.winRec v := by
  rw [State.winRec, (State.carryOutForget_only s w).same .win (by decide)]
  rfl

theorem State.carryOutForget_now : (s.carryOutForget w).now = s.now := (State.carryOutForget_only s w).same .now (by decide)

theorem State.driveRun_now (k : RunRec) : (s.driveRun w k).now = s.now := rfl

theorem State.launch_now (k : RunRec) : (s.launch w k).now = s.now := by
  rw [State.launch, State.driveRun_now, State.carryOutForget_now]

theorem State.driveRun_winRec (k : RunRec) :
    (s.driveRun w k).winRec w = State.startedRec (s.winRec w) (.run k) k.dir s.now := State.setWin_self s w _

theorem State.launch_winRec (k : RunRec) :
    (s.launch w k).winRec w = State.startedRec (s.winRec w) (.run k) k.dir s.now := by
  rw [State.launch, State.driveRun_winRec, State.carryOutForget_winRec, State.carryOutForget_now]

/-- R99: a start at the bottom ends at once; any other runs. -/
theorem State.startRun_eq (dir : Dir) (kind : RunKind) (holder : RunHolder) :
    s.startRun w dir kind holder =
      if startsAtBottom s w dir then
        (s.launch w { dir, kind, target := runTarget dir (s.calOf w), holder }).toIdle w
      else s.launch w { dir, kind, target := runTarget dir (s.calOf w), holder } := by
  have htarget : State.targetOf dir (s.calOf w).l = runTarget dir (s.calOf w) := by cases dir <;> rfl
  have hlaunch := State.launch_winRec s w { dir, kind, target := runTarget dir (s.calOf w), holder }
  have hbottom : (decide (dir = .down) && ((s.launch w { dir, kind, target := runTarget dir (s.calOf w), holder }).winRec
      w).normalised && State.atBottom ((s.launch w { dir, kind, target := runTarget dir (s.calOf w), holder }).winRec
      w).position (s.calOf w).l) = startsAtBottom s w dir := by
    rw [hlaunch]
    unfold startsAtBottom State.atBottom State.startedRec
    cases (s.winRec w).position <;> rfl
  rw [← hbottom]
  unfold State.startRun State.launch State.driveRun
  simp only [State.carryOutForget_calOf, htarget]

theorem OnlyWindow.driveRun (k : RunRec) : OnlyWindow s (s.driveRun w k) w :=
  (OnlyWindow.setChan _ w _).after ((OnlyWindow.setRefs _ w _).after ((OnlyWindow.setRing _ w _).after
    ((OnlyWindow.setPinch _ w _).after (.setWin s w _))))

theorem OnlyWindow.launch (k : RunRec) : OnlyWindow s (s.launch w k) w :=
  (OnlyWindow.driveRun _ w k).after (.carryOutForget s w)

theorem OnlyWindow.startRun (dir : Dir) (kind : RunKind) (holder : RunHolder) :
    OnlyWindow s (s.startRun w dir kind holder) w := by
  rw [State.startRun_eq]
  split
  · exact (OnlyWindow.toIdle _ w).after (.launch s w _)
  · exact .launch s w _

/-- R135: a pending forget is carried out before the run is read. -/
theorem State.carryOutForget_refsOf :
    (s.carryOutForget w).refsOf w =
      if (s.refsOf w).pendingForget.isSome then
        { s.refsOf w with zones := Vector.replicate 32 none, learned := 0, pendingForget := none }
      else s.refsOf w := by
  unfold State.carryOutForget
  split
  · exact State.setRefs_self s w _
  · rfl

theorem State.startStroke_refsOf (dir : Dir) (c : Cal) :
    (s.startStroke w dir c).refsOf w = { s.refsOf w with
      stroke := if dir = .up then some
        { startPosition := (s.winRec w).position, pz := c.pz, zs := c.zs, samples := Vector.replicate 32 none
          marks := { lowStart := decide ((s.winRec w).position = none) || decide ((s.winRec w).position.getD 0 < c.pz)
                     unnormalised := !(s.winRec w).normalised, limited := (s.winRec w).limited
                     warm := decide (s.mon.temp = .warm), supply := decide (s.mon.supply ≠ .normal), pinch := false } }
        else none } := by
  unfold State.startStroke
  dsimp only
  have hsupply : (s.mon.supply != .normal) = decide (s.mon.supply ≠ .normal) := by cases s.mon.supply <;> rfl
  rw [State.setRefs_self, hsupply]
  cases (s.winRec w).position <;> simp

theorem State.driveRun_refsOf (k : RunRec) :
    (s.driveRun w k).refsOf w = { s.refsOf w with
      stroke := if k.dir = .up then some
        { startPosition := (s.winRec w).position, pz := (s.calOf w).pz, zs := (s.calOf w).zs
          samples := Vector.replicate 32 none
          marks := { lowStart := decide ((s.winRec w).position = none) ||
                       decide ((s.winRec w).position.getD 0 < (s.calOf w).pz)
                     unnormalised := !(s.winRec w).normalised, limited := (s.winRec w).limited
                     warm := decide (s.mon.temp = .warm), supply := decide (s.mon.supply ≠ .normal), pinch := false } }
        else none } := by
  unfold State.driveRun
  dsimp only
  show (State.startStroke _ w k.dir (s.calOf w)).refsOf w = _
  rw [State.startStroke_refsOf]
  have hrec := State.setWin_self s w (State.startedRec (s.winRec w) (.run k) k.dir s.now)
  simp only [State.setRing_winRec, State.setPinch_winRec, hrec]
  rfl

theorem State.driveRun_chan (k : RunRec) :
    (s.driveRun w k).chan (.w w) = (s.chan (.w w)).begun s.now (if k.dir = .up then .onFirst else .onSecond) := by
  have hdrive : k.dir.drive = if k.dir = .up then .onFirst else .onSecond := by cases k.dir <;> rfl
  rw [← hdrive]
  exact State.setChan_self _ (.w w) _

theorem State.driveRun_pinchOf (k : RunRec) :
    (s.driveRun w k).pinchOf w =
      { filter := none, acc := 0, lastInterval := 0, pulseBase := s.now, cal := some (s.calOf w), lastTeff := none } :=
  State.setPinch_self _ w _

theorem State.driveRun_ring (k : RunRec) : (s.driveRun w k).trace.rings.get w = [] := Windows.get_set_self _ w _

theorem State.launch_started (k : RunRec) : RunStarted s (s.launch w k) w (s.winRec w) k where
  record := by
    rw [State.launch_winRec, State.launch_now]
    rfl
  bridge := by
    rw [State.launch_now, State.launch, State.driveRun_chan, State.carryOutForget_now, State.chan,
      (State.carryOutForget_only s w).same .mon (by decide)]
    rfl
  pinch := by
    rw [State.launch_now, State.launch, State.driveRun_pinchOf, State.carryOutForget_now, State.carryOutForget_calOf]
  ring := State.driveRun_ring _ w k
  stroke := by
    rw [State.launch, State.driveRun_refsOf, State.carryOutForget_winRec, State.carryOutForget_calOf,
      (State.carryOutForget_only s w).same .mon (by decide)]
  forget := by
    rw [State.launch, State.driveRun_refsOf, State.carryOutForget_refsOf]
    cases h : (s.refsOf w).pendingForget <;> simp [h]

/-- R103: a REVERSE starts. -/
theorem State.startReverse_winRec (x : Int) :
    (s.startReverse w x).winRec w = State.startedRec (s.winRec w) (.reverse x) .down s.now := State.setWin_self s w _

theorem State.startReverse_chan (x : Int) :
    (s.startReverse w x).chan (.w w) = (s.chan (.w w)).begun s.now .onSecond := State.setChan_self _ (.w w) _

theorem State.startReverse_pinchOf (x : Int) :
    (s.startReverse w x).pinchOf w =
      { s.pinchOf w with filter := none, acc := 0, lastInterval := 0, pulseBase := s.now } := State.setPinch_self _ w _

theorem OnlyWindow.startReverse (x : Int) : OnlyWindow s (s.startReverse w x) w :=
  (OnlyWindow.setChan _ w _).after ((OnlyWindow.setPinch _ w _).after (.setWin s w _))

end Starts

/-! ### Presses and NEUTRAL events (R93, R95) -/

section Presses
variable (s : State) (w : Window)

theorem OnlyWindow.setAwait (x : RunHolder) (v : Bool) : OnlyWindow s (s.setAwait w x v) w := by
  cases x with
  | panel | localSw => exact .setWin s w _
  | comfortB | comfortK _ => exact .refl s w

theorem OnlyWindow.tap (x : RunHolder) : OnlyWindow s (s.tap w x) w :=
  (OnlyWindow.setAwait _ w x true).after (.toIdle s w)

theorem OnlyWindow.press (x : RunHolder) (prev pos : SwitchPos) : OnlyWindow s (s.press w x prev pos) w := by
  unfold State.press
  split
  · exact .refl s w
  dsimp only
  split
  · exact .startRun s w _ _ _
  · split
    · split
      · exact .setWin s w _
      · exact .toDwell s w _
    all_goals
      split
      · exact .refl s w
      · exact .tap s w x
  · split
    · exact .setWin s w _
    all_goals
      split
      · exact .refl s w
      · exact .tap s w x
  all_goals exact .refl s w

theorem OnlyWindow.neutral (x : RunHolder) : OnlyWindow s (s.neutral w x) w := by
  unfold State.neutral
  dsimp only
  split
  · exact (OnlyWindow.toIdle _ w).after (.setAwait s w x false)
  · exact .setAwait s w x false

theorem OnlyWindow.endHeld (f : RunHolder → Bool) : OnlyWindow s (s.endHeld f w) w := by
  unfold State.endHeld
  split
  · exact .toIdle s w
  · exact .refl s w

theorem OnlyWindow.comfortOn (dir : Dir) (h : RunHolder) : OnlyWindow s (s.comfortOn w dir h) w := by
  unfold State.comfortOn
  split
  · unfold State.comfortStart
    dsimp only
    split
    · exact .startRun s w _ _ _
    · split
      · exact .setWin s w _
      · exact .toDwell s w _
    · exact .setWin s w _
    all_goals exact .refl s w
  · exact .refl s w

end Presses

/-! ### Pinches, stalls and pulses (R87, R97, R98, R102) -/

section Stalls
variable (s : State) (w : Window)

theorem OnlyWindow.markStroke (f : Marks → Marks) : OnlyWindow s (s.markStroke w f) w := .setRefs s w _

theorem OnlyWindow.raiseWindowEvent (f : WindowEvents → WindowEvents) : OnlyWindow s (s.raiseWindowEvent w f) w :=
  .of_only (State.raiseWindowEvent_only s w f) rfl rfl

theorem OnlyWindow.raiseContextChanged : OnlyWindow s (s.raiseContextChanged w) w :=
  .of_only (State.raiseContextChanged_only s w) rfl rfl

theorem OnlyWindow.takePinch (x : PinchCause) (p : Int) : OnlyWindow s (s.takePinch w x p) w :=
  (OnlyWindow.trigger _ w _).after ((OnlyWindow.raiseWindowEvent _ w _).after ((OnlyWindow.setWin _ w _).after
    ((OnlyWindow.toDwell _ w _).after (.markStroke s w _))))

theorem OnlyWindow.unexpectedStall : OnlyWindow s (s.unexpectedStall w) w :=
  (OnlyWindow.trigger _ w _).after ((OnlyWindow.raiseWindowEvent _ w _).after (.toIdle s w))

theorem OnlyWindow.bottomReached : OnlyWindow s (s.bottomReached w) w := by
  unfold State.bottomReached
  extract_lets r full counted
  refine (OnlyWindow.toIdle _ w).after ?_
  unfold counted
  split
  · exact .setWin s w _
  · exact .refl s w

theorem OnlyWindow.topStop (p : Int) : OnlyWindow s (s.topStop w p) w := by
  have hjudge : ∀ t : State, OnlyWindow t (t.judgeStroke w) w := fun t => by
    unfold State.judgeStroke
    dsimp only
    split
    · exact .refl t w
    · split
      · exact (OnlyWindow.raiseContextChanged _ w).after (.setRefs t w _)
      · exact .setRefs t w _
  exact (OnlyWindow.toIdle _ w).after ((hjudge _).after (.setWin s w _))

theorem OnlyWindow.normalise : OnlyWindow s (s.normalise w) w :=
  (OnlyWindow.raiseContextChanged _ w).after ((OnlyWindow.raiseWindowEvent _ w _).after ((OnlyWindow.toIdle _ w).after
    (.setWin s w _)))

theorem OnlyWindow.takeStall : OnlyWindow s (s.takeStall w) w := by
  unfold State.takeStall
  dsimp only
  split
  · exact .refl s w
  · repeat' split
    · exact .topStop s w _
    · exact .takePinch s w _ _
    · exact .unexpectedStall s w
  · exact .normalise s w
  · split
    · exact .bottomReached s w
    · exact .unexpectedStall s w
  · exact .toIdle s w

theorem OnlyWindow.loseNormalisation : OnlyWindow s (s.loseNormalisation w) w := by
  unfold State.loseNormalisation
  extract_lets before lost marked stopped
  refine (OnlyWindow.raiseContextChanged _ w).after ((OnlyWindow.raiseWindowEvent _ w _).after ?_)
  have hmarked : OnlyWindow s marked w := (OnlyWindow.markStroke _ w _).after (.setWin s w _)
  unfold stopped
  split
  · exact (OnlyWindow.toIdle _ w).after hmarked
  all_goals exact hmarked

theorem OnlyWindow.count (dir : Dir) (p : Int) : OnlyWindow s (s.count w dir p) w := by
  unfold State.count
  cases dir with
  | up =>
    dsimp only
    split
    · exact .loseNormalisation s w
    · exact .setWin s w _
  | down =>
    dsimp only
    split
    · exact (OnlyWindow.bottomReached _ w).after (.setWin s w _)
    · exact .setWin s w _

theorem OnlyWindow.ripple : OnlyWindow s (s.ripple w) w := by
  have htiming : OnlyWindow s (s.pulseTiming w) w := by
    unfold State.pulseTiming
    split
    · exact .setPinch s w _
    · exact .refl s w
  unfold State.ripple
  dsimp only
  split
  · exact (OnlyWindow.count _ w _ _).after ((OnlyWindow.setWin _ w _).after htiming)
  · exact (OnlyWindow.setWin _ w _).after htiming

theorem OnlyWindow.endDwell : OnlyWindow s (s.endDwell w) w := by
  unfold State.endDwell
  dsimp only
  split
  · split
    · exact .startRun s w _ _ _
    · exact .toIdle s w
  · exact .startReverse s w _
  all_goals exact .refl s w

theorem OnlyWindow.addCause (k : Cause) : OnlyWindow s (s.addCause w k) w := by
  unfold State.addCause
  dsimp only
  split
  · exact .setWin s w _
  · exact (OnlyWindow.stopMotion _ w _ _ _).after (.setWin s w _)

theorem OnlyWindow.removeCause (k : Cause) : OnlyWindow s (s.removeCause w k) w := .setWin s w _

theorem OnlyWindow.reach (n : Nat) : OnlyWindow s (s.reach n) w := .of_only (State.reach_only s n) rfl rfl

theorem OnlyWindow.softStop : OnlyWindow s (s.softStop w) w := by
  unfold State.softStop
  extract_lets r stopped
  refine (OnlyWindow.setWin _ w _).after ?_
  unfold stopped
  split
  · exact .stopMotion s w _ _ _
  · exact (OnlyWindow.setChan _ w _).after (.setWin s w _)

end Stalls

/-! ### All four windows in turn -/

/-- A window's own pieces are the same in two states. -/
structure SameAt (w : Window) (s t : State) : Prop where
  record : t.winRec w = s.winRec w
  pinch : t.pinchOf w = s.pinchOf w
  refs : t.refsOf w = s.refsOf w
  ring : t.trace.rings.get w = s.trace.rings.get w
  chan : t.chan (.w w) = s.chan (.w w)

namespace SameAt
variable {v w : Window} {s t u : State}

theorem refl (w : Window) (s : State) : SameAt w s s := ⟨rfl, rfl, rfl, rfl, rfl⟩

theorem after (k : SameAt w t u) (h : SameAt w s t) : SameAt w s u :=
  ⟨k.record.trans h.record, k.pinch.trans h.pinch, k.refs.trans h.refs, k.ring.trans h.ring, k.chan.trans h.chan⟩

theorem of_onlyWindow (h : OnlyWindow s t v) (hw : w ≠ v) : SameAt w s t :=
  ⟨h.recs w hw, h.pinch w hw, h.refs w hw, h.rings w hw, h.chans _ (by simpa using hw)⟩

theorem of_only {ps : List Part} (h : Only ps s t)
    (hd : [Part.win, .pinch, .refs, .trace, .mon].all (fun x => !ps.contains x) = true) : SameAt w s t := by
  have hmem : ∀ x ∈ [Part.win, .pinch, .refs, .trace, .mon], x ∉ ps := fun x hx => by
    simpa using List.all_eq_true.mp hd x hx
  have hwin : t.win = s.win := h.same .win (hmem _ (by decide))
  have hpinch : t.pinch = s.pinch := h.same .pinch (hmem _ (by decide))
  have hrefs : t.refs = s.refs := h.same .refs (hmem _ (by decide))
  have htrace : t.trace = s.trace := h.same .trace (hmem _ (by decide))
  have hmon : t.mon = s.mon := h.same .mon (hmem _ (by decide))
  exact ⟨by rw [State.winRec, hwin]; rfl, by rw [State.pinchOf, hpinch]; rfl, by rw [State.refsOf, hrefs]; rfl,
    by rw [htrace], by rw [State.chan, hmon]; rfl⟩

end SameAt

/-- An operation on each window in turn acts on a window as it does alone, on a state in which that window stands as it
stood, and in which what every step keeps holds. -/
theorem foldl_window_keeps {f : State → Window → State} {P : State → Prop} (hone : ∀ t v, OnlyWindow t (f t v) v)
    (hkeeps : ∀ t v, P t → P (f t v)) {s : State} (hs : P s) (w : Window) :
    ∃ t, SameAt w s t ∧ P t ∧ SameAt w (f t w) (Window.list.foldl f s) := by
  have hother : ∀ (l : List Window) (s : State), w ∉ l → SameAt w s (l.foldl f s) := by
    intro l
    induction l with
    | nil => exact fun s _ => .refl w s
    | cons v l ih =>
      intro s hw
      rw [List.mem_cons, not_or] at hw
      obtain ⟨hv, hl⟩ := hw
      exact (ih _ hl).after (.of_onlyWindow (hone s v) hv)
  have hmem : w ∈ Window.list := by cases w <;> decide
  have hnodup : Window.list.Nodup := by decide
  obtain ⟨l, r, hlist⟩ := List.append_of_mem hmem
  rw [hlist, List.nodup_append, List.nodup_cons] at hnodup
  obtain ⟨-, ⟨hr, -⟩, hlr⟩ := hnodup
  have hl : w ∉ l := fun h => hlr w h w (List.mem_cons_self ..) rfl
  refine ⟨l.foldl f s, hother l s hl, foldl_keeps hkeeps l hs, ?_⟩
  rw [hlist, List.foldl_append, List.foldl_cons]
  exact hother r _ hr

/-- An operation on each window in turn acts on a window as it does alone, on a state in which that window stands as it
stood. -/
theorem foldl_window {f : State → Window → State} {ps : List Part} (hone : ∀ t v, OnlyWindow t (f t v) v)
    (honly : ∀ t v, Only ps t (f t v)) (s : State) (w : Window) :
    ∃ t, SameAt w s t ∧ Only ps s t ∧ SameAt w (f t w) (Window.list.foldl f s) :=
  foldl_window_keeps hone (fun t v ht => Only.after (honly t v) (by simp) ht) (Only.refl ps s) w

end Sys2Proof.Machine
end

section
/-! The window law over the operations on windows (R84, R85, R94, R99, R104), and the statement that every step keeps it. -/

namespace Sys2Proof.Machine
open Sys2Proof

/-! ### The law of one window -/

/-- R85, R99: what the bridge of a window does in each state. -/
def bridgeStands (m : Motion) (d : Drive) : Prop :=
  match m with
  | .idle => d = .off ∨ d = .brake
  | .run k => d = k.dir.drive
  | .dwell _ => d = .brake
  | .reverse _ => d = .onSecond
  | .inhibited => d = .off

/-- The law of one window, whose causes CRASH, THERMAL and SUPPLY are in force as said. -/
structure WindowStands (crash hot cut : Bool) (r : WindowRec) (c : ChannelRec) : Prop where
  run : RunLaw r
  position : PositionLaw r
  causes : r.causes = ⟨crash, hot, cut, c.withdrawn⟩
  inhibit : r.motion = .inhibited ↔ State.noCause r.causes = false
  brake : r.brake.isSome = true → r.motion = .idle
  bridge : bridgeStands r.motion c.drive

/-- The law of the four windows, with the causes in force as said. -/
def WindowsStand (crash hot cut : Bool) (s : State) : Prop :=
  ∀ w, WindowStands crash hot cut (s.winRec w) (s.chan (.w w))

theorem windowLaw_iff (s : State) :
    WindowLaw s ↔ WindowsStand s.crash.latch (decide (s.mon.temp = .hot)) (decide (s.mon.supply = .cut)) s := by
  refine forall_congr' fun w => ⟨?_, ?_⟩
  · rintro ⟨hrun, hposition, ⟨hinhibit, hcrash, hthermal, hsupply, hfault⟩, hbrake, hbridge⟩
    refine ⟨hrun, hposition, ?_, hinhibit, hbrake, hbridge⟩
    rcases hc : (s.winRec w).causes with ⟨a, b, c, d⟩
    rw [hc] at hcrash hthermal hsupply hfault
    simp only [Causes.mk.injEq]
    exact ⟨hcrash, Bool.eq_iff_iff.mpr (by simpa using hthermal), Bool.eq_iff_iff.mpr (by simpa using hsupply), hfault⟩
  · rintro ⟨hrun, hposition, hcauses, hinhibit, hbrake, hbridge⟩
    refine ⟨hrun, hposition, ⟨hinhibit, ?_, ?_, ?_, ?_⟩, hbrake, hbridge⟩ <;> simp [hcauses]

variable {crash hot cut : Bool}

/-- The motion and what the law says of it stay under a write of other fields. -/
theorem WindowStands.record {r r' : WindowRec} {c : ChannelRec} (h : WindowStands crash hot cut r c)
    (hm : r'.motion = r.motion := by rfl) (hc : r'.causes = r.causes := by rfl)
    (hp : r'.position = r.position := by rfl) (hn : r'.normalised = r.normalised := by rfl)
    (hl : r'.limited = r.limited := by rfl) (hx : r'.pinchCount = r.pinchCount := by rfl)
    (ht : r'.topCorrection = r.topCorrection := by rfl) (hb : r'.brake = r.brake := by rfl) :
    WindowStands crash hot cut r' c := by
  obtain ⟨hrun, hposition, hcauses, hinhibit, hbrake, hbridge⟩ := h
  refine ⟨?_, ?_, hc ▸ hcauses, by rw [hm, hc]; exact hinhibit, by rw [hb, hm]; exact hbrake, hm ▸ hbridge⟩
  · unfold RunLaw at hrun ⊢
    rwa [hm, hn, hl]
  · unfold PositionLaw at hposition ⊢
    rwa [hp, hn, hl, hx, ht]

/-- The law of one window in a state. -/
def StandsAt (crash hot cut : Bool) (s : State) (w : Window) : Prop :=
  WindowStands crash hot cut (s.winRec w) (s.chan (.w w))

theorem WindowStands.free {r : WindowRec} {c : ChannelRec} (h : WindowStands crash hot cut r c)
    (hm : r.motion ≠ .inhibited) : State.noCause r.causes = true := by
  refine Classical.byContradiction fun hno => ?_
  exact hm (h.inhibit.mpr (by simpa using hno))

/-- R94 speaks of a run alone. -/
theorem RunLaw.of_not_run {r : WindowRec} (h : ∀ k, r.motion ≠ .run k) : RunLaw r := by
  unfold RunLaw
  split
  next k hk => exact absurd hk (h k)
  all_goals trivial

theorem PositionLaw.of_eq {r r' : WindowRec} (h : PositionLaw r) (hp : r'.position = r.position := by rfl)
    (hn : r'.normalised = r.normalised := by rfl) (hl : r'.limited = r.limited := by rfl)
    (hx : r'.pinchCount = r.pinchCount := by rfl) (ht : r'.topCorrection = r.topCorrection := by rfl) :
    PositionLaw r' := by
  unfold PositionLaw at h ⊢
  rwa [hp, hn, hl, hx, ht]

/-- The window's place, its count and its limit are written, and leave its run admitted. -/
theorem WindowStands.placed {r r' : WindowRec} {c : ChannelRec} (h : WindowStands crash hot cut r c)
    (hposition : PositionLaw r') (hrun : RunLaw r') (hm : r'.motion = r.motion := by rfl)
    (hc : r'.causes = r.causes := by rfl) (hb : r'.brake = r.brake := by rfl) : WindowStands crash hot cut r' c :=
  ⟨hrun, hposition, hc ▸ h.causes, by rw [hm, hc]; exact h.inhibit, by rw [hb, hm]; exact h.brake, hm ▸ h.bridge⟩

/-! ### Motions that begin and end -/

section Motions
variable {s t : State} {w : Window}

theorem StandsAt.same (h : StandsAt crash hot cut s w) (k : SameAt w s t) : StandsAt crash hot cut t w := by
  unfold StandsAt at h ⊢
  rwa [k.record, k.chan]

theorem StandsAt.only {ps : List Part} (hs : StandsAt crash hot cut s w) (h : Only ps s t)
    (hd : [Part.win, .mon].all (fun x => !ps.contains x) = true := by rfl) : StandsAt crash hot cut t w := by
  have hmem : ∀ x ∈ [Part.win, .mon], x ∉ ps := fun x hx => by simpa using List.all_eq_true.mp hd x hx
  unfold StandsAt at hs ⊢
  rwa [State.winRec, State.chan, show t.win = s.win from h.same .win (hmem _ (by decide)),
    show t.mon = s.mon from h.same .mon (hmem _ (by decide))]

/-- Fields that the law does not speak of are written. -/
theorem StandsAt.setWin {r : WindowRec} (hr : WindowStands crash hot cut r (s.chan (.w w))) : StandsAt crash hot cut (s.setWin w r) w := by
  unfold StandsAt
  rwa [State.setWin_self]

/-- R99: a window that has a place and no cause ends its motion into IDLE. -/
theorem RunEnded.stands {r : WindowRec} (h : RunEnded s t w r) (hposition : PositionLaw r)
    (hcauses : r.causes = ⟨crash, hot, cut, (s.chan (.w w)).withdrawn⟩) (hfree : State.noCause r.causes = true) :
    StandsAt crash hot cut t w := by
  unfold StandsAt
  rw [h.record, h.bridge]
  exact ⟨trivial, hposition.of_eq, hcauses, by simp [hfree], fun _ => rfl, Or.inr rfl⟩

theorem StandsAt.toIdle (hs : StandsAt crash hot cut s w) (hm : (s.winRec w).motion ≠ .inhibited) :
    StandsAt crash hot cut (s.toIdle w) w :=
  (State.toIdle_ended s w).stands hs.position hs.causes (hs.free hm)

theorem RunPaused.stands {r : WindowRec} {p : Pending} (h : RunPaused s t w r p) (hposition : PositionLaw r)
    (hcauses : r.causes = ⟨crash, hot, cut, (s.chan (.w w)).withdrawn⟩) (hfree : State.noCause r.causes = true) :
    StandsAt crash hot cut t w := by
  unfold StandsAt
  rw [h.record, h.bridge]
  exact ⟨trivial, hposition.of_eq, hcauses, by simp [hfree], nofun, rfl⟩

theorem StandsAt.toDwell (hs : StandsAt crash hot cut s w) (hm : (s.winRec w).motion ≠ .inhibited) (p : Pending) :
    StandsAt crash hot cut (s.toDwell w p) w :=
  (State.toDwell_paused s w p).stands hs.position hs.causes (hs.free hm)

/-- R94: the window may take the run. -/
def admits (r : WindowRec) (k : RunRec) : Prop :=
  k.dir = .up → k.kind ≠ .manual → r.normalised = true ∧ r.limited = false

theorem RunStarted.stands {r : WindowRec} {k : RunRec} (h : RunStarted s t w r k) (hposition : PositionLaw r)
    (hcauses : r.causes = ⟨crash, hot, cut, (s.chan (.w w)).withdrawn⟩) (hfree : State.noCause r.causes = true)
    (hk : admits r k) : StandsAt crash hot cut t w := by
  unfold StandsAt
  rw [h.record, h.bridge]
  refine ⟨hk, hposition.of_eq, hcauses, by simp [hfree], nofun, ?_⟩
  show (if k.dir = .up then Drive.onFirst else Drive.onSecond) = k.dir.drive
  cases k.dir <;> rfl

theorem StandsAt.startRun (hs : StandsAt crash hot cut s w) (hm : (s.winRec w).motion ≠ .inhibited) {dir : Dir}
    {kind : RunKind} (holder : RunHolder)
    (hk : dir = .up → kind ≠ .manual → (s.winRec w).normalised = true ∧ (s.winRec w).limited = false) :
    StandsAt crash hot cut (s.startRun w dir kind holder) w := by
  have hlaunch : StandsAt crash hot cut
      (s.launch w { dir, kind, target := runTarget dir (s.calOf w), holder }) w :=
    (State.launch_started s w _).stands hs.position hs.causes (hs.free hm) hk
  rw [State.startRun_eq]
  split
  · exact hlaunch.toIdle (by rw [State.launch_winRec]; nofun)
  · exact hlaunch

theorem StandsAt.startReverse (hs : StandsAt crash hot cut s w) (hm : (s.winRec w).motion ≠ .inhibited) (x : Int) :
    StandsAt crash hot cut (s.startReverse w x) w := by
  unfold StandsAt
  rw [State.startReverse_winRec, State.startReverse_chan]
  exact ⟨trivial, hs.position.of_eq, hs.causes, by simp [State.startedRec, hs.free hm], nofun, rfl⟩

/-- A run takes over another one's place in its direction. -/
theorem StandsAt.takeOver (hs : StandsAt crash hot cut s w) {o k : RunRec} (ho : (s.winRec w).motion = .run o)
    (hdir : k.dir = o.dir) (hk : admits (s.winRec w) k) :
    StandsAt crash hot cut (s.setWin w { s.winRec w with motion := .run k }) w := by
  unfold StandsAt
  rw [State.setWin_self]
  have hbridge := hs.bridge
  rw [ho] at hbridge
  refine ⟨hk, hs.position.of_eq, hs.causes, by simp [hs.free (by simp [ho])], fun hb => ?_, ?_⟩
  · have := hs.brake hb
    rw [ho] at this
    cases this
  · show (s.chan (.w w)).drive = k.dir.drive
    rw [hdir]
    exact hbridge

theorem StandsAt.setPending (hs : StandsAt crash hot cut s w) {p q : Pending} (hp : (s.winRec w).motion = .dwell p) :
    StandsAt crash hot cut (s.setWin w { s.winRec w with motion := .dwell q }) w := by
  unfold StandsAt
  rw [State.setWin_self]
  have hbridge := hs.bridge
  rw [hp] at hbridge
  refine ⟨trivial, hs.position.of_eq, hs.causes, by simp [hs.free (by simp [hp])], fun hb => ?_, hbridge⟩
  have := hs.brake hb
  rw [hp] at this
  cases this

/-! ### Presses, NEUTRAL events and comfort requests (R93 to R95, R100) -/

theorem StandsAt.setAwait (hs : StandsAt crash hot cut s w) (x : RunHolder) (v : Bool) :
    StandsAt crash hot cut (s.setAwait w x v) w := by
  cases x with
  | panel | localSw => exact StandsAt.setWin (WindowStands.record hs)
  | comfortB | comfortK _ => exact hs

theorem StandsAt.tap (hs : StandsAt crash hot cut s w) (hm : (s.winRec w).motion ≠ .inhibited) (x : RunHolder) :
    StandsAt crash hot cut (s.tap w x) w := (hs.toIdle hm).setAwait x true

/-- R94: degradation admits an AUTO up-run on a normalised window alone that is not limited. -/
theorem State.degrade_admits {dir : Dir} {kind : RunKind} (hkind : kind ≠ .comfort) (hdir : dir = .up)
    (h : s.degrade w dir kind ≠ .manual) : (s.winRec w).normalised = true ∧ (s.winRec w).limited = false := by
  subst hdir
  cases kind with
  | manual => exact absurd rfl h
  | comfort => exact absurd rfl hkind
  | auto =>
    unfold State.degrade at h
    dsimp only at h
    split at h
    · exact absurd rfl h
    next hno =>
      simp only [Bool.or_eq_true, not_or, Bool.not_eq_true, Bool.not_eq_false'] at hno
      obtain ⟨⟨hn, hl⟩, -⟩ := hno
      exact ⟨hn, hl⟩

theorem switchKind_ne_comfort (pos : SwitchPos) : switchKind pos ≠ .comfort := by cases pos <;> nofun

theorem StandsAt.press (hs : StandsAt crash hot cut s w) (x : RunHolder) (prev pos : SwitchPos) :
    StandsAt crash hot cut (s.press w x prev pos) w := by
  unfold State.press
  split
  · exact hs
  next dir _ =>
    have hk : dir = .up → s.degrade w dir (switchKind pos) ≠ .manual →
        (s.winRec w).normalised = true ∧ (s.winRec w).limited = false :=
      fun hdir h => State.degrade_admits (switchKind_ne_comfort pos) hdir h
    dsimp only
    split
    next hm => exact hs.startRun (by simp [hm]) x hk
    next k hm =>
      split
      · split
        next hdir => exact hs.takeOver hm rfl fun hup => hk (hdir ▸ hup)
        next => exact hs.toDwell (by simp [hm]) _
      all_goals
        split
        · exact hs
        · exact hs.tap (by simp [hm]) x
    next k hm =>
      split
      · exact hs.setPending hm
      all_goals
        split
        · exact hs
        · exact hs.tap (by simp [hm]) x
    all_goals exact hs

theorem Motion.not_inhibited_of_heldRun {m : Motion} {k : RunRec} (h : m.heldRun = some k) : m ≠ .inhibited := by
  rintro rfl
  cases h

theorem StandsAt.neutral (hs : StandsAt crash hot cut s w) (x : RunHolder) :
    StandsAt crash hot cut (s.neutral w x) w := by
  have hawait := hs.setAwait x false
  unfold State.neutral
  dsimp only
  split
  next hends =>
    refine hawait.toIdle fun hm => ?_
    rw [hm] at hends
    cases hends
  next => exact hawait

theorem StandsAt.endHeld (hs : StandsAt crash hot cut s w) (f : RunHolder → Bool) :
    StandsAt crash hot cut (s.endHeld f w) w := by
  unfold State.endHeld
  split
  next hheld =>
    refine hs.toIdle fun hm => ?_
    rw [State.heldBy, hm] at hheld
    cases hheld
  next => exact hs

theorem StandsAt.comfortOn (hs : StandsAt crash hot cut s w) (dir : Dir) (h : RunHolder) :
    StandsAt crash hot cut (s.comfortOn w dir h) w := by
  unfold State.comfortOn
  split
  next hstarted =>
    have hk : (s.winRec w).normalised = true ∧ (s.winRec w).limited = false := by
      unfold State.comfortOutcome at hstarted
      dsimp only at hstarted
      split at hstarted
      · cases hstarted
      split at hstarted
      · cases hstarted
      next hno =>
        simp only [Bool.or_eq_true, not_or, Bool.not_eq_true, Bool.not_eq_false'] at hno
        exact hno
    unfold State.comfortStart
    dsimp only
    split
    next hm => exact hs.startRun (by simp [hm]) h fun _ _ => hk
    next o hm =>
      split
      next hdir => exact hs.takeOver hm rfl fun _ _ => hk
      next => exact hs.toDwell (by simp [hm]) _
    next o hm => exact hs.setPending hm
    all_goals exact hs
  next => exact hs

/-! ### Pinches, stalls and pulses (R87, R97, R98, R102) -/

theorem StandsAt.trigger (hs : StandsAt crash hot cut s w) (v : Window) (k : TriggerKind) :
    StandsAt crash hot cut (s.trigger v k) w := hs.only (State.trigger_only s v k)

theorem StandsAt.takePinch (hs : StandsAt crash hot cut s w) (hm : (s.winRec w).motion ≠ .inhibited) (x : PinchCause)
    (p : Int) : StandsAt crash hot cut (s.takePinch w x p) w := by
  unfold State.takePinch
  extract_lets c marked dwelling r count counted raised
  have hmarked : StandsAt crash hot cut marked w := hs.only (State.markStroke_only s w _)
  have hdwelling : StandsAt crash hot cut dwelling w := hmarked.toDwell hm _
  have hmotion : (dwelling.winRec w).motion = .dwell (.reverse (min (p + c.reversal) c.l)) := by
    rw [(State.toDwell_paused marked w _).record]
  have hcounted : StandsAt crash hot cut counted w := by
    refine StandsAt.setWin (WindowStands.placed hdwelling ?_ ?_)
    · obtain ⟨hplace, htop, hcount, hlimited⟩ := hdwelling.position
      refine ⟨hplace, htop, ?_, ?_⟩
      · exact Nat.min_le_left _ _
      · show (r.limited || decide (count = 3)) = true ↔ count = 3
        have hfull : r.limited = true → count = 3 := fun hl => by
          show min 3 (r.pinchCount + 1) = 3
          rw [hlimited.mp hl]
          rfl
        cases hl : r.limited
        · simp
        · simp [hfull hl]
    · exact RunLaw.of_not_run fun k hk => by
        rw [show r.motion = .run k from hk] at hmotion
        cases hmotion
  exact (hcounted.only (State.raiseWindowEvent_only counted w _)).trigger w _

theorem StandsAt.unexpectedStall (hs : StandsAt crash hot cut s w) (hm : (s.winRec w).motion ≠ .inhibited) :
    StandsAt crash hot cut (s.unexpectedStall w) w :=
  ((hs.toIdle hm).only (State.raiseWindowEvent_only _ w _)).trigger w _

/-- A cleared count and limit leave an up-run admitted. -/
theorem RunLaw.cleared {r r' : WindowRec} (h : RunLaw r) (hm : r'.motion = r.motion)
    (hn : r.normalised = true → r'.normalised = true) (hl : r.limited = false → r'.limited = false) : RunLaw r' := by
  unfold RunLaw at h ⊢
  rw [hm]
  split
  next k hk =>
    rw [hk] at h
    exact fun hup hkind => ⟨hn (h hup hkind).1, hl (h hup hkind).2⟩
  all_goals trivial

theorem StandsAt.bottomReached (hs : StandsAt crash hot cut s w) (hm : (s.winRec w).motion ≠ .inhibited) :
    StandsAt crash hot cut (s.bottomReached w) w := by
  unfold State.bottomReached
  extract_lets r full counted
  have hcounted : StandsAt crash hot cut counted w ∧ (counted.winRec w).motion ≠ .inhibited := by
    unfold counted
    split
    · obtain ⟨hplace, htop, -, -⟩ := hs.position
      refine ⟨StandsAt.setWin (WindowStands.placed hs ⟨hplace, htop, by simp, by simp⟩
        (hs.run.cleared rfl (fun h => h) fun _ => rfl)), ?_⟩
      rw [State.setWin_self]
      exact hm
    · exact ⟨hs, hm⟩
  exact hcounted.1.toIdle hcounted.2

theorem StandsAt.topStop (hs : StandsAt crash hot cut s w) (hm : (s.winRec w).motion ≠ .inhibited) {p : Int}
    (hn : (s.winRec w).normalised = true) (hlow : -64 ≤ p) (hhigh : p ≤ 8) :
    StandsAt crash hot cut (s.topStop w p) w := by
  have hplaced : StandsAt crash hot cut (s.setWin w { s.winRec w with
      topCorrection := some p, position := some 0, pinchCount := 0, limited := false }) w :=
    StandsAt.setWin (WindowStands.placed hs ⟨⟨hn, by simp⟩, ⟨hn, hlow, hhigh⟩, by simp, by simp⟩
      (hs.run.cleared rfl (fun h => h) fun _ => rfl))
  refine (hplaced.only (State.judgeStroke_only _ w)).toIdle ?_
  rw [State.winRec, (State.judgeStroke_only _ w).same .win (by decide)]
  show (State.winRec (s.setWin w _) w).motion ≠ .inhibited
  rw [State.setWin_self]
  exact hm

theorem StandsAt.normalise (hs : StandsAt crash hot cut s w) (hm : (s.winRec w).motion ≠ .inhibited) :
    StandsAt crash hot cut (s.normalise w) w := by
  obtain ⟨-, -, hcount, hlimited⟩ := hs.position
  have hplaced : StandsAt crash hot cut (s.setWin w { s.winRec w with
      position := some 0, normalised := true, topCorrection := none }) w :=
    StandsAt.setWin (WindowStands.placed hs ⟨⟨rfl, by simp⟩, trivial, hcount, hlimited⟩
      (hs.run.cleared rfl (fun _ => rfl) fun h => h))
  have hidle := hplaced.toIdle (by rw [State.setWin_self]; exact hm)
  exact (hidle.only (State.raiseWindowEvent_only _ w _)).only (State.raiseContextChanged_only _ w)

theorem Motion.not_inhibited_of_drivenDir {m : Motion} {d : Dir} (h : m.drivenDir = some d) : m ≠ .inhibited := by
  rintro rfl
  cases h

theorem StandsAt.takeStall (hs : StandsAt crash hot cut s w) : StandsAt crash hot cut (s.takeStall w) w := by
  unfold State.takeStall
  dsimp only
  split
  · exact hs
  next p hdir hn hp =>
    have hm := Motion.not_inhibited_of_drivenDir hdir
    have hplace := hs.position.1
    rw [hp] at hplace
    obtain ⟨-, hlow, -⟩ := hplace
    split
    next hhigh => exact hs.topStop hm hn hlow hhigh
    · split
      · exact hs.takePinch hm _ _
      · exact hs.unexpectedStall hm
  next hdir _ => exact hs.normalise (Motion.not_inhibited_of_drivenDir hdir)
  next p hdir _ _ =>
    have hm := Motion.not_inhibited_of_drivenDir hdir
    split
    · exact hs.bottomReached hm
    · exact hs.unexpectedStall hm
  next hdir _ => exact hs.toIdle (Motion.not_inhibited_of_drivenDir hdir)

/-- A place that is lost. -/
theorem PositionLaw.lost {r : WindowRec} (h : PositionLaw r) :
    PositionLaw { r with position := none, normalised := false, topCorrection := none } := by
  obtain ⟨-, -, hcount, hlimited⟩ := h
  exact ⟨rfl, trivial, hcount, hlimited⟩

theorem StandsAt.loseNormalisation (hs : StandsAt crash hot cut s w) :
    StandsAt crash hot cut (s.loseNormalisation w) w := by
  unfold State.loseNormalisation
  extract_lets before lost marked stopped
  have hrecord : marked.winRec w = { before with position := none, normalised := false, topCorrection := none } :=
    State.setWin_self s w _
  have hposition : PositionLaw (marked.winRec w) := by
    rw [hrecord]
    exact hs.position.lost
  have hcauses : (marked.winRec w).causes = ⟨crash, hot, cut, (marked.chan (.w w)).withdrawn⟩ := by
    rw [hrecord]
    exact hs.causes
  have hmotion : (marked.winRec w).motion = before.motion := by rw [hrecord]
  have hkept : RunLaw (marked.winRec w) → StandsAt crash hot cut marked w := fun hrun => by
    unfold StandsAt
    rw [hrecord] at hrun ⊢
    exact hs.placed hs.position.lost hrun
  have hstopped : StandsAt crash hot cut stopped w := by
    unfold stopped
    split
    next k hk =>
      refine (State.toIdle_ended marked w).stands hposition hcauses ?_
      rw [hrecord]
      exact hs.free (by rw [← hmotion, hk]; nofun)
    all_goals
      next hk =>
        exact hkept (.of_not_run fun k => by rw [hk]; nofun)
  exact (hstopped.only (State.raiseWindowEvent_only _ w _)).only (State.raiseContextChanged_only _ w)

theorem StandsAt.count (hs : StandsAt crash hot cut s w) {p : Int} (hp : (s.winRec w).position = some p) (dir : Dir) :
    StandsAt crash hot cut (s.count w dir p) w := by
  obtain ⟨hplace, htop, hcount, hlimited⟩ := hs.position
  rw [hp] at hplace
  obtain ⟨hn, hlow, hhigh⟩ := hplace
  have hmoved : ∀ x : Int, -64 ≤ x → x ≤ 4095 → StandsAt crash hot cut (s.setWin w { s.winRec w with position := some x }) w :=
    fun x hxlow hxhigh => StandsAt.setWin (WindowStands.placed hs ⟨⟨hn, hxlow, hxhigh⟩, htop, hcount, hlimited⟩
      (hs.run.cleared rfl (fun h => h) fun h => h))
  unfold State.count
  cases dir with
  | up =>
    dsimp only
    split
    · exact hs.loseNormalisation
    · exact hmoved _ (by omega) (by omega)
  | down =>
    dsimp only
    have hdown := hmoved (min 4095 (p + 1)) (by omega) (by omega)
    split
    next hreached =>
      refine hdown.bottomReached fun hm => ?_
      rw [hm] at hreached
      cases hreached
    next => exact hdown

theorem StandsAt.ripple (hs : StandsAt crash hot cut s w) : StandsAt crash hot cut (s.ripple w) w := by
  have htimed : StandsAt crash hot cut (s.pulseTiming w) w := by
    unfold State.pulseTiming
    split
    · exact hs
    · exact hs
  have hpulse : StandsAt crash hot cut ((s.pulseTiming w).setWin w { (s.pulseTiming w).winRec w with
      stall := some ((s.pulseTiming w).now + Config.stallTime), stallReached := false }) w :=
    StandsAt.setWin (WindowStands.record htimed)
  unfold State.ripple
  extract_lets timed pulsed r
  split
  next _ hp _ => exact hpulse.count hp _
  next => exact hpulse

theorem StandsAt.endDwell (hs : StandsAt crash hot cut s w) : StandsAt crash hot cut (s.endDwell w) w := by
  unfold State.endDwell
  dsimp only
  split
  next k hm =>
    have hfree : (s.winRec w).motion ≠ .inhibited := by rw [hm]; nofun
    split
    next hmay =>
      refine hs.startRun hfree k.holder fun hup hkind => ?_
      by_cases hcomfort : k.kind = .comfort
      · simpa [State.mayStart, hcomfort, hup] using hmay
      · exact State.degrade_admits hcomfort hup hkind
    next => exact hs.toIdle hfree
  next hm => exact hs.startReverse (by rw [hm]; nofun) _
  all_goals exact hs

/-! ### Causes (R104) -/

theorem noCause_put (c : Causes) (k : Cause) : State.noCause (c.put k true) = false := by
  cases k <;> simp [State.noCause, Causes.put]

theorem noCause_of_put {c : Causes} (k : Cause) (h : State.noCause c = true) : State.noCause (c.put k false) = true := by
  simp only [State.noCause, Bool.not_eq_true', Bool.or_eq_false_iff] at h ⊢
  obtain ⟨⟨⟨ha, hb⟩, hc⟩, hd⟩ := h
  cases k <;> simp [Causes.put, ha, hb, hc, hd]

/-- R104: an added cause drops the motion and switches the bridge off. -/
theorem addCause_stands {k : Cause} (hposition : PositionLaw (s.winRec w))
    (hbrake : (s.winRec w).brake.isSome = true → (s.winRec w).motion = .idle)
    (hbridge : (s.winRec w).motion = .inhibited → (s.chan (.w w)).drive = .off)
    (hcauses : (s.winRec w).causes.put k true = ⟨crash, hot, cut, (s.chan (.w w)).withdrawn⟩) :
    StandsAt crash hot cut (s.addCause w k) w := by
  unfold State.addCause
  extract_lets r caused
  have hrecord : caused.winRec w = { r with causes := r.causes.put k true } := State.setWin_self s w _
  unfold StandsAt
  split
  next hm =>
    rw [hrecord]
    exact ⟨.of_not_run fun _ => by rw [show _ = Motion.inhibited from hm]; nofun, hposition.of_eq, hcauses,
      by simp [hm, noCause_put], fun hb => hbrake hb, by simp only [hm]; exact hbridge hm⟩
  next =>
    rw [State.stopMotion_winRec, State.stopMotion_chan, hrecord]
    exact ⟨.of_not_run nofun, hposition.of_eq, hcauses, by simp [noCause_put], nofun, rfl⟩

theorem StandsAt.addCause {k : Cause} {crash' hot' cut' : Bool} (hs : StandsAt crash hot cut s w)
    (hcauses : (s.winRec w).causes.put k true = ⟨crash', hot', cut', (s.chan (.w w)).withdrawn⟩) :
    StandsAt crash' hot' cut' (s.addCause w k) w := by
  refine addCause_stands hs.position hs.brake (fun hm => ?_) hcauses
  have := hs.bridge
  rwa [hm] at this

/-- R104: a removed cause frees a window that has no other. -/
theorem removeCause_stands {k : Cause} {crash' hot' cut' : Bool} {c : ChannelRec}
    (hs : WindowStands crash hot cut (s.winRec w) c) (hdrive : (s.chan (.w w)).drive = c.drive)
    (hcauses : (s.winRec w).causes.put k false = ⟨crash', hot', cut', (s.chan (.w w)).withdrawn⟩) :
    StandsAt crash' hot' cut' (s.removeCause w k) w := by
  obtain ⟨hrun, hposition, -, hinhibit, hbrake, hbridge⟩ := hs
  unfold State.removeCause StandsAt
  dsimp only
  rw [State.setWin_self]
  by_cases hm : (s.winRec w).motion = .inhibited
  · have hoff : (s.chan (.w w)).drive = .off := by
      rw [hdrive]
      rwa [hm] at hbridge
    have hnobrake : ¬ (s.winRec w).brake.isSome = true := fun h => by
      rw [hbrake h] at hm
      cases hm
    cases hno : State.noCause ((s.winRec w).causes.put k false)
    · refine ⟨.of_not_run fun _ => ?_, hposition.of_eq, hcauses, ?_, fun hb => absurd hb hnobrake, ?_⟩ <;>
        simp [hm, hno, bridgeStands, hoff]
    · refine ⟨.of_not_run fun _ => ?_, hposition.of_eq, hcauses, ?_, fun hb => absurd hb hnobrake, ?_⟩ <;>
        simp [hm, hno, bridgeStands, hoff]
  · have hfree : State.noCause (s.winRec w).causes = true := by
      refine Classical.byContradiction fun h => ?_
      exact hm (hinhibit.mpr (by simpa using h))
    refine ⟨?_, hposition.of_eq, hcauses, ?_, ?_, ?_⟩
    · exact hrun.cleared (by simp [hm]) (fun h => h) fun h => h
    · simp [hm, noCause_of_put k hfree]
    · simpa [hm] using hbrake
    · simpa [hm, hdrive] using hbridge

/-- R107: a soft reset ends the motion, and leaves the causes. -/
theorem StandsAt.softStop (hs : StandsAt crash hot cut s w) : StandsAt crash hot cut (s.softStop w) w := by
  unfold State.softStop
  extract_lets r stopped
  refine StandsAt.setWin (WindowStands.record (?_ : StandsAt crash hot cut stopped w))
  unfold stopped
  split
  next hrunning =>
    have hfree : State.noCause r.causes = true := hs.free fun hm => by
      rw [show r.motion = _ from hm] at hrunning
      cases hrunning
    unfold StandsAt
    rw [if_pos hfree, State.stopMotion_winRec, State.stopMotion_chan]
    exact ⟨.of_not_run nofun, hs.position.of_eq, hs.causes, by simp [show State.noCause (s.winRec w).causes = true from
      hfree], nofun, Or.inl rfl⟩
  next hrunning =>
    unfold StandsAt
    rw [show ((s.setWin w { r with brake := none }).offChan (.w w)).winRec w = _ from State.setWin_self s w _,
      show ((s.setWin w { r with brake := none }).offChan (.w w)).chan (.w w) = _ from State.setChan_self ..]
    refine ⟨.of_not_run fun k hk => ?_, hs.position.of_eq, hs.causes, hs.inhibit, nofun, ?_⟩
    · rw [show r.motion = _ from hk] at hrunning
      exact hrunning rfl
    · show bridgeStands r.motion .off
      cases hm : r.motion with
      | idle => exact Or.inl rfl
      | inhibited => rfl
      | run _ | dwell _ | reverse _ => exact absurd (by rw [hm]; rfl) hrunning

end Motions

end Sys2Proof.Machine
end

section
/-! The window law over the whole state: timers, samples and requests of one window, the operations on all four, and the
blocks that leave the windows alone. -/

namespace Sys2Proof.Machine
open Sys2Proof

/-! ### Timers, samples and diagnostics of one window -/

section OneWindow
variable (s : State) (w : Window)

theorem OnlyWindow.stallEnd : OnlyWindow s (s.stallEnd w) w := by
  unfold State.stallEnd
  dsimp only
  split
  · split
    · exact (OnlyWindow.setWin _ w _).after (.reach s w _)
    · exact (OnlyWindow.takeStall _ w).after ((OnlyWindow.setWin _ w _).after (.reach s w _))
  · exact .refl s w

theorem OnlyWindow.startEnd : OnlyWindow s (s.startEnd w) w := by
  unfold State.startEnd
  dsimp only
  split
  · split
    · exact (OnlyWindow.takeStall _ w).after ((OnlyWindow.setWin _ w _).after (.reach s w _))
    · exact (OnlyWindow.setWin _ w _).after (.reach s w _)
  · exact .refl s w

theorem OnlyWindow.dwellExpiry : OnlyWindow s (s.dwellExpiry w) w := by
  unfold State.dwellExpiry
  split
  · exact (OnlyWindow.endDwell _ w).after (.reach s w _)
  · exact .refl s w

theorem OnlyWindow.brakeExpiry : OnlyWindow s (s.brakeExpiry w) w := by
  unfold State.brakeExpiry
  dsimp only
  split
  · exact (OnlyWindow.setChan _ w _).after ((OnlyWindow.setWin _ w _).after (.reach s w _))
  · exact .refl s w

theorem OnlyWindow.panelExpiry : OnlyWindow s (s.panelExpiry w) w := by
  unfold State.panelExpiry
  dsimp only
  split
  · exact (OnlyWindow.neutral _ w _).after ((OnlyWindow.setWin _ w _).after (.reach s w _))
  · exact .refl s w

theorem OnlyWindow.recordPanel (pos : SwitchPos) : OnlyWindow s (s.recordPanel w pos) w := by
  unfold State.recordPanel
  dsimp only
  split <;> exact .setWin s w _

theorem OnlyWindow.panelFrame (pos : SwitchPos) : OnlyWindow s (s.panelFrame w pos).state w := by
  unfold State.panelFrame
  dsimp only
  split
  · exact (OnlyWindow.neutral _ w _).after (.recordPanel s w pos)
  · dsimp only
    split
    · exact (OnlyWindow.press _ w _ _ _).after (.recordPanel s w pos)
    · exact .recordPanel s w pos

theorem OnlyWindow.localEvent (prev pos : SwitchPos) : OnlyWindow s (s.localEvent w prev pos) w := by
  unfold State.localEvent
  repeat' split
  · exact .neutral s w _
  · exact .refl s w
  · exact .press s w _ _ _

theorem OnlyWindow.forget (x : ForgetWhat) : OnlyWindow s (s.forget w x) w := by
  cases x with
  | references => exact .setRefs s w _
  | normalisation => exact .setWin s w _
  | both => exact (OnlyWindow.setWin _ w _).after (.setRefs s w _)

theorem OnlyWindow.restore (x : State.Restore) : OnlyWindow s (s.restore x) x.window :=
  (OnlyWindow.setWin _ _ _).after (.setRefs s _ _)

theorem OnlyWindow.faultFound (k : DetectKind) : OnlyWindow s (s.faultFound (.w w) k) w := by
  have hset : OnlyWindow s (s.setChan (.w w) ((s.chan (.w w)).setResult k .fault)) w := .setChan s w _
  unfold State.faultFound
  dsimp only
  split
  · exact OnlyWindow.after (t := s.setChan (.w w) ((s.chan (.w w)).setResult k .fault)) { OnlyWindow.refl _ w with } hset
  · exact OnlyWindow.after (t := s.setChan (.w w) ((s.chan (.w w)).setResult k .fault)) { OnlyWindow.refl _ w with } hset

theorem OnlyWindow.withdraw : OnlyWindow s (s.withdraw (.w w)) w := by
  unfold State.withdraw
  split
  · exact .refl s w
  · exact (OnlyWindow.addCause _ w .fault).after ((OnlyWindow.setChan _ w _).after (.setChan s w _))

theorem OnlyWindow.detectOvercurrent : OnlyWindow s (s.detectOvercurrent (.w w)) w := by
  have hwithdrawn : OnlyWindow s (((s.faultFound (.w w) .overcurrent).offChan (.w w)).withdraw (.w w)) w :=
    (OnlyWindow.withdraw _ w).after ((OnlyWindow.setChan _ w _).after (.faultFound s w _))
  unfold State.detectOvercurrent
  dsimp only
  split
  · exact (OnlyWindow.trigger _ w _).after hwithdrawn
  · exact hwithdrawn

theorem OnlyWindow.judgeShort (k : DetectKind) (held clean : Bool) :
    OnlyWindow s (s.judgeShort (.w w) k held clean) w := by
  unfold State.judgeShort
  repeat' split
  · exact (OnlyWindow.withdraw _ w).after (.faultFound s w k)
  · exact .setChan s w _
  · exact .refl s w
  · exact .refl s w

theorem OnlyWindow.testOff (f : Finding) : OnlyWindow s (s.testOff (.w w) f) w := by
  unfold State.testOff
  dsimp only
  split
  · exact (OnlyWindow.judgeShort _ w _ _ _).after (.judgeShort s w _ _ _)
  · exact .refl s w

theorem OnlyWindow.clearChan : OnlyWindow s (s.clearChan (.w w)) w := by
  unfold State.clearChan
  dsimp only
  split
  · exact (OnlyWindow.removeCause _ w .fault).after (.setChan s w _)
  · exact .setChan s w _

theorem OnlyWindow.takeDeclared (p : Option Int) : OnlyWindow s (s.takeDeclared w p) w := by
  unfold State.takeDeclared
  repeat' split
  · exact .takePinch s w _ _
  · exact .refl s w
  · exact .refl s w

theorem OnlyWindow.sampleOutcome (p : Option Int) (pinch jam : Bool) :
    OnlyWindow s (s.sampleOutcome w p pinch jam) w := by
  unfold State.sampleOutcome
  split
  · exact .refl s w
  · exact .takeDeclared s w p
  · exact .detectOvercurrent s w
  · dsimp only
    have hcounted : OnlyWindow s { s with freeCount := s.freeCount + 1 } w := .of_only (Only.freeCount s _) rfl rfl
    split
    · exact (OnlyWindow.detectOvercurrent _ w).after ((OnlyWindow.takeDeclared _ w p).after hcounted)
    · exact (OnlyWindow.takeDeclared _ w p).after ((OnlyWindow.detectOvercurrent _ w).after hcounted)

theorem OnlyWindow.addSample (x : Sample) : OnlyWindow s (s.addSample w x) w := by
  unfold State.addSample
  extract_lets ringed
  have hringed : OnlyWindow s ringed w := .setRing s w _
  split
  · exact hringed
  · split
    · extract_lets noted
      have hnoted : OnlyWindow s noted w := OnlyWindow.after (t := ringed) { OnlyWindow.refl _ w with } hringed
      split
      · exact (OnlyWindow.completeBuffer _ w _ _).after hnoted
      · exact hnoted
    all_goals exact hringed

theorem OnlyWindow.feedStroke (x : Sample) : OnlyWindow s (s.feedStroke w x) w := by
  unfold State.feedStroke
  repeat' split
  · exact .setRefs s w _
  · exact .refl s w
  · exact .refl s w

theorem OnlyWindow.sample (i v : Nat) : OnlyWindow s (s.sample w i v) w := by
  unfold State.sample
  split
  · exact .refl s w
  · exact (OnlyWindow.sampleOutcome _ w _ _ _).after ((OnlyWindow.addSample _ w _).after ((OnlyWindow.setChan _ w _).after
      ((OnlyWindow.feedStroke _ w _).after (.setPinch s w _))))

end OneWindow

/-! ### What leaves the windows and their bridges as they stand -/

/-- The window records, the bridges' drives and withdrawals, and the conditions of the causes are the same. -/
structure WinFrame (s t : State) : Prop where
  records : t.win.recs = s.win.recs
  bridge : ∀ w, (t.chan (.w w)).drive = (s.chan (.w w)).drive
  withdrawn : ∀ w, (t.chan (.w w)).withdrawn = (s.chan (.w w)).withdrawn
  latch : t.crash.latch = s.crash.latch
  temp : t.mon.temp = s.mon.temp
  supply : t.mon.supply = s.mon.supply

namespace WinFrame
variable {s t u : State}

theorem refl (s : State) : WinFrame s s := ⟨rfl, fun _ => rfl, fun _ => rfl, rfl, rfl, rfl⟩

theorem after (k : WinFrame t u) (h : WinFrame s t) : WinFrame s u where
  records := k.records.trans h.records
  bridge w := (k.bridge w).trans (h.bridge w)
  withdrawn w := (k.withdrawn w).trans (h.withdrawn w)
  latch := k.latch.trans h.latch
  temp := k.temp.trans h.temp
  supply := k.supply.trans h.supply

theorem of_only {ps : List Part} (h : Only ps s t)
    (hd : [Part.win, .crash, .mon].all (fun x => !ps.contains x) = true := by rfl) : WinFrame s t := by
  have hmem : ∀ x ∈ [Part.win, .crash, .mon], x ∉ ps := fun x hx => by simpa using List.all_eq_true.mp hd x hx
  have hwin : t.win = s.win := h.same .win (hmem _ (by decide))
  have hcrash : t.crash = s.crash := h.same .crash (hmem _ (by decide))
  have hmon : t.mon = s.mon := h.same .mon (hmem _ (by decide))
  exact ⟨by rw [hwin], fun w => by rw [State.chan, hmon]; rfl, fun w => by rw [State.chan, hmon]; rfl,
    by rw [hcrash], by rw [hmon], by rw [hmon]⟩

theorem foldl {β : Type} {f : State → β → State} (hf : ∀ t a, WinFrame t (f t a)) :
    ∀ (l : List β) (s : State), WinFrame s (l.foldl f s)
  | [], s => refl s
  | a :: l, s => (foldl hf l (f s a)).after (hf s a)

/-- An actuator channel is written. -/
theorem setAct (s : State) (a : Actuator) (x : ChannelRec) : WinFrame s (s.setChan (.act a) x) :=
  ⟨rfl, fun w => by rw [State.setChan_chan, if_neg nofun], fun w => by rw [State.setChan_chan, if_neg nofun], rfl, rfl, rfl⟩

/-- A channel is written with the same drive and withdrawal. -/
theorem setChan (s : State) (ch : Channel) {x : ChannelRec} (hd : x.drive = (s.chan ch).drive)
    (hw : x.withdrawn = (s.chan ch).withdrawn) : WinFrame s (s.setChan ch x) := by
  refine ⟨rfl, fun w => ?_, fun w => ?_, rfl, rfl, rfl⟩ <;> rw [State.setChan_chan] <;> split
  next h => rw [hd, ← h]
  next => rfl
  next h => rw [hw, ← h]
  next => rfl

theorem setFlags (s : State) (f : StickyFlags → StickyFlags) : WinFrame s (s.setFlags f) :=
  ⟨rfl, fun _ => rfl, fun _ => rfl, rfl, rfl, rfl⟩

theorem faultFound (s : State) (ch : Channel) (k : DetectKind) : WinFrame s (s.faultFound ch k) := by
  have hset : WinFrame s (s.setChan ch ((s.chan ch).setResult k .fault)) :=
    .setChan s ch (by cases k <;> rfl) (by cases k <;> rfl)
  unfold State.faultFound
  dsimp only
  split
  · exact (WinFrame.setFlags _ _).after hset
  · exact (of_only (State.raiseFault_only _ ch _)).after ((WinFrame.setFlags _ _).after hset)

theorem countCurrent (s : State) (ch : Channel) (code : Nat) : WinFrame s (s.countCurrent ch code) :=
  .setChan s ch rfl rfl

end WinFrame

section StandsAt
variable {crash hot cut : Bool} {s t : State} {w : Window}

theorem WindowStands.channel {r : WindowRec} {c c' : ChannelRec} (h : WindowStands crash hot cut r c)
    (hd : c'.drive = c.drive) (hw : c'.withdrawn = c.withdrawn) : WindowStands crash hot cut r c' :=
  ⟨h.run, h.position, hw ▸ h.causes, h.inhibit, h.brake, hd ▸ h.bridge⟩

theorem StandsAt.frame (hs : StandsAt crash hot cut s w) (h : WinFrame s t) : StandsAt crash hot cut t w := by
  unfold StandsAt at hs ⊢
  rw [show t.winRec w = s.winRec w by rw [State.winRec, h.records]; rfl]
  exact hs.channel (h.bridge w) (h.withdrawn w)

theorem StandsAt.reach (hs : StandsAt crash hot cut s w) (n : Nat) : StandsAt crash hot cut (s.reach n) w :=
  hs.only (State.reach_only s n)

/-! ### The law of one window over its timers, samples and requests -/

theorem StandsAt.stallEnd (hs : StandsAt crash hot cut s w) : StandsAt crash hot cut (s.stallEnd w) w := by
  unfold State.stallEnd
  dsimp only
  split
  next n _ =>
    split
    · exact StandsAt.setWin (WindowStands.record (hs.reach n))
    · exact StandsAt.takeStall (StandsAt.setWin (WindowStands.record (hs.reach n)))
  next => exact hs

theorem StandsAt.startEnd (hs : StandsAt crash hot cut s w) : StandsAt crash hot cut (s.startEnd w) w := by
  unfold State.startEnd
  dsimp only
  split
  next n _ =>
    split
    · exact StandsAt.takeStall (StandsAt.setWin (WindowStands.record (hs.reach n)))
    · exact StandsAt.setWin (WindowStands.record (hs.reach n))
  next => exact hs

theorem StandsAt.dwellExpiry (hs : StandsAt crash hot cut s w) : StandsAt crash hot cut (s.dwellExpiry w) w := by
  unfold State.dwellExpiry
  split
  next n _ => exact (hs.reach n).endDwell
  next => exact hs

theorem StandsAt.brakeExpiry (hs : StandsAt crash hot cut s w) : StandsAt crash hot cut (s.brakeExpiry w) w := by
  unfold State.brakeExpiry
  split
  next n hbrake =>
    have hidle : (s.winRec w).motion = .idle := hs.brake (by simp [hbrake])
    extract_lets reached
    have hreached : StandsAt crash hot cut reached w := hs.reach n
    have hmotion : (reached.winRec w).motion = .idle := hidle
    unfold StandsAt
    rw [show ((reached.setWin w { reached.winRec w with brake := none }).offChan (.w w)).winRec w = _ from
        State.setWin_self reached w _,
      show ((reached.setWin w { reached.winRec w with brake := none }).offChan (.w w)).chan (.w w) = _ from
        State.setChan_self ..]
    refine ⟨hreached.run.cleared rfl (fun h => h) fun h => h, hreached.position.of_eq, hreached.causes, hreached.inhibit,
      nofun, ?_⟩
    show bridgeStands (reached.winRec w).motion .off
    rw [hmotion]
    exact Or.inl rfl
  next => exact hs

theorem StandsAt.panelExpiry (hs : StandsAt crash hot cut s w) : StandsAt crash hot cut (s.panelExpiry w) w := by
  unfold State.panelExpiry
  dsimp only
  split
  next n _ => exact StandsAt.neutral (StandsAt.setWin (WindowStands.record (hs.reach n))) _
  next => exact hs

theorem StandsAt.recordPanel (hs : StandsAt crash hot cut s w) (pos : SwitchPos) :
    StandsAt crash hot cut (s.recordPanel w pos) w := by
  unfold State.recordPanel
  dsimp only
  split <;> exact StandsAt.setWin (WindowStands.record hs)

theorem StandsAt.panelFrame (hs : StandsAt crash hot cut s w) (pos : SwitchPos) :
    StandsAt crash hot cut (s.panelFrame w pos).state w := by
  have hrecorded := hs.recordPanel pos
  unfold State.panelFrame
  dsimp only
  split
  · exact hrecorded.neutral _
  · dsimp only
    split
    · exact hrecorded.press _ _ _
    · exact hrecorded

theorem StandsAt.localEvent (hs : StandsAt crash hot cut s w) (prev pos : SwitchPos) :
    StandsAt crash hot cut (s.localEvent w prev pos) w := by
  unfold State.localEvent
  repeat' split
  · exact hs.neutral _
  · exact hs
  · exact hs.press _ _ _

/-- R134: a window that is not running forgets its place. -/
theorem StandsAt.forgetNormalisation (hs : StandsAt crash hot cut s w) (hm : (s.winRec w).motion.running = false) :
    StandsAt crash hot cut (s.forgetNormalisation w) w := by
  refine StandsAt.setWin (WindowStands.placed hs hs.position.lost (.of_not_run fun k hk => ?_))
  rw [show (s.winRec w).motion = _ from hk] at hm
  cases hm

theorem StandsAt.forget (hs : StandsAt crash hot cut s w) (hm : (s.winRec w).motion.running = false) (x : ForgetWhat) :
    StandsAt crash hot cut (s.forget w x) w := by
  have hrefs : StandsAt crash hot cut (s.forgetReferences w) w := hs.only (State.forgetReferences_only s w)
  cases x with
  | references => exact hrefs
  | normalisation => exact hs.forgetNormalisation hm
  | both => exact hrefs.forgetNormalisation hm

/-- R133: an IDLE, unnormalised window takes a restored place. -/
theorem StandsAt.restore (x : State.Restore) (hs : StandsAt crash hot cut s x.window)
    (hmay : State.mayRestore (s.winRec x.window) = true) (hlow : -64 ≤ x.position) (hhigh : x.position ≤ 4095) :
    StandsAt crash hot cut (s.restore x) x.window := by
  obtain ⟨hidle, hn⟩ : (s.winRec x.window).motion = .idle ∧ (s.winRec x.window).normalised = false := by
    simpa [State.mayRestore] using hmay
  obtain ⟨-, htop, hcount, hlimited⟩ := hs.position
  have hnotop : (s.winRec x.window).topCorrection = none := by
    cases hc : (s.winRec x.window).topCorrection with
    | none => rfl
    | some p =>
      rw [hc] at htop
      rw [hn] at htop
      exact absurd htop.1 nofun
  refine StandsAt.setWin (WindowStands.placed hs ⟨⟨rfl, hlow, hhigh⟩, ?_, hcount, hlimited⟩ (.of_not_run fun k hk => ?_))
  · show (match (s.winRec x.window).topCorrection with | some p => _ | none => _)
    rw [hnotop]
    trivial
  · rw [show (s.winRec x.window).motion = _ from hk] at hidle
    cases hidle

/-- R155: a withdrawn W channel stands with its window's cause FAULT. -/
theorem withdrawn_stands (hposition : PositionLaw (s.winRec w))
    (hbrake : (s.winRec w).brake.isSome = true → (s.winRec w).motion = .idle)
    (hcauses : ∃ b, (s.winRec w).causes = ⟨crash, hot, cut, b⟩) :
    StandsAt crash hot cut (((s.offChan (.w w)).setChan (.w w) { (s.offChan (.w w)).chan (.w w) with
      withdrawn := true }).addCause w .fault) w := by
  have hchan : ((s.offChan (.w w)).setChan (.w w) { (s.offChan (.w w)).chan (.w w) with
      withdrawn := true }).chan (.w w) = { (s.chan (.w w)).ended .off with withdrawn := true } := by
    rw [State.setChan_self]
    exact congrArg (fun c : ChannelRec => { c with withdrawn := true }) (State.setChan_self s (.w w) _)
  obtain ⟨b, hb⟩ := hcauses
  refine addCause_stands (s := (s.offChan (.w w)).setChan (.w w) _) hposition hbrake (fun _ => ?_) ?_
  · rw [hchan]
    rfl
  · rw [hchan, show ((s.offChan (.w w)).setChan (.w w) _).winRec w = s.winRec w from rfl, hb]
    rfl

theorem StandsAt.withdraw (hs : StandsAt crash hot cut s w) : StandsAt crash hot cut (s.withdraw (.w w)) w := by
  unfold State.withdraw
  split
  · exact hs
  · exact withdrawn_stands hs.position hs.brake ⟨_, hs.causes⟩

theorem StandsAt.judgeShort (hs : StandsAt crash hot cut s w) (k : DetectKind) (held clean : Bool) :
    StandsAt crash hot cut (s.judgeShort (.w w) k held clean) w := by
  unfold State.judgeShort
  repeat' split
  · exact (hs.frame (.faultFound s _ k)).withdraw
  · exact hs.frame (.setChan s _ (by cases k <;> rfl) (by cases k <;> rfl))
  · exact hs
  · exact hs

theorem StandsAt.testOff (hs : StandsAt crash hot cut s w) (f : Finding) :
    StandsAt crash hot cut (s.testOff (.w w) f) w := by
  unfold State.testOff
  dsimp only
  split
  · exact (hs.judgeShort _ _ _).judgeShort _ _ _
  · exact hs

theorem StandsAt.detectOvercurrent (hs : StandsAt crash hot cut s w) :
    StandsAt crash hot cut (s.detectOvercurrent (.w w)) w := by
  have hfound := hs.frame (.faultFound s (.w w) .overcurrent)
  have hwithdrawn : StandsAt crash hot cut (((s.faultFound (.w w) .overcurrent).offChan (.w w)).withdraw (.w w)) w := by
    generalize s.faultFound (.w w) .overcurrent = t at hfound
    have hchan : (t.offChan (.w w)).chan (.w w) = (t.chan (.w w)).ended .off := State.setChan_self t (.w w) _
    unfold State.withdraw
    split
    next hwithdrawn =>
      have hinhibited : (t.winRec w).motion = .inhibited := by
        rw [hfound.inhibit, hfound.causes]
        rw [hchan] at hwithdrawn
        simp [State.noCause, show (t.chan (.w w)).withdrawn = true from hwithdrawn]
      unfold StandsAt
      rw [hchan]
      refine ⟨hfound.run, hfound.position, hfound.causes, hfound.inhibit, hfound.brake, ?_⟩
      show bridgeStands (t.winRec w).motion .off
      rw [hinhibited]
      rfl
    next => exact withdrawn_stands hfound.position hfound.brake ⟨_, hfound.causes⟩
  unfold State.detectOvercurrent
  dsimp only
  split
  · exact hwithdrawn.trigger w _
  · exact hwithdrawn

theorem StandsAt.clearChan (hs : StandsAt crash hot cut s w) : StandsAt crash hot cut (s.clearChan (.w w)) w := by
  unfold State.clearChan
  dsimp only
  have hchan : (s.setChan (.w w) (State.cleared (s.chan (.w w)))).chan (.w w) = State.cleared (s.chan (.w w)) :=
    State.setChan_self s (.w w) _
  split
  · refine removeCause_stands (s := s.setChan (.w w) _) (c := s.chan (.w w)) hs (by rw [hchan]; rfl) ?_
    rw [hchan, show (s.setChan (.w w) _).winRec w = s.winRec w from rfl, hs.causes]
    rfl
  next hno =>
    refine hs.frame (.setChan s _ rfl ?_)
    simpa [State.cleared] using hno

theorem StandsAt.takeDeclared (hs : StandsAt crash hot cut s w) (p : Option Int) :
    StandsAt crash hot cut (s.takeDeclared w p) w := by
  unfold State.takeDeclared
  repeat' split
  next hup =>
    refine hs.takePinch (fun hm => ?_) _ _
    rw [hm] at hup
    cases hup
  next => exact hs
  next => exact hs

theorem StandsAt.sampleOutcome (hs : StandsAt crash hot cut s w) (p : Option Int) (pinch jam : Bool) :
    StandsAt crash hot cut (s.sampleOutcome w p pinch jam) w := by
  have hcounted : StandsAt crash hot cut { s with freeCount := s.freeCount + 1 } w := hs.only (Only.freeCount s _)
  unfold State.sampleOutcome
  split
  · exact hs
  · exact hs.takeDeclared p
  · exact hs.detectOvercurrent
  · dsimp only
    split
    · exact (hcounted.takeDeclared p).detectOvercurrent
    · exact hcounted.detectOvercurrent.takeDeclared p

theorem StandsAt.sample (hs : StandsAt crash hot cut s w) (i v : Nat) : StandsAt crash hot cut (s.sample w i v) w := by
  unfold State.sample
  split
  · exact hs
  · extract_lets ic x pinch jam computed fed sampled
    have hfed : StandsAt crash hot cut fed w :=
      (hs.only (State.setPinch_only s w _) : StandsAt crash hot cut computed w).only (State.feedStroke_only computed w x)
    exact ((hfed.frame (.countCurrent fed _ _)).only (State.addSample_only _ w x)).sampleOutcome _ _ _

end StandsAt

end Sys2Proof.Machine
end

section
/-! The window law over the whole part (R84, R85, R94, R104), and the statement that every step keeps it. -/

namespace Sys2Proof.Machine
open Sys2Proof

/-! ### The lock sequencer, the crash operations and the diagnostics leave the windows as they stand -/

namespace WinFrame
variable (s : State)

theorem offChan (a : Actuator) : WinFrame s (s.offChan (.act a)) := .setAct s a _

theorem setOp (a : Actuator) (o : Option Op) : WinFrame s (s.setOp a o) := .of_only (State.setOp_only s a o)

theorem setQueue (q : List Entry) : WinFrame s (s.setQueue q) := .of_only (State.setQueue_only s q)

theorem finishIfDone : WinFrame s s.finishIfDone := .of_only (State.finishIfDone_only s)

theorem confirmEnd (a : Actuator) (v : Bool) : WinFrame s (s.confirmEnd a v) := .of_only (State.confirmEnd_only s a v)

theorem raiseActuationFailed (c : Closure) (why : FailReason) (p : Option Port) :
    WinFrame s (s.raiseActuationFailed c why p) := .of_only (State.raiseActuationFailed_only s c why p)

theorem dropOp (a : Actuator) : WinFrame s (s.dropOp a) := by
  unfold State.dropOp
  extract_lets dropped
  refine (WinFrame.setOp _ a none).after ?_
  unfold dropped
  repeat' split
  · exact .offChan s a
  · exact .refl s
  · exact .refl s

theorem endSuccess (a : Actuator) : WinFrame s (s.endSuccess a) :=
  (WinFrame.finishIfDone _).after ((WinFrame.confirmEnd _ a true).after (.dropOp s a))

theorem endFailed (a : Actuator) (why : FailReason) : WinFrame s (s.endFailed a why) :=
  (WinFrame.finishIfDone _).after ((WinFrame.raiseActuationFailed _ _ why _).after
    ((WinFrame.confirmEnd _ a false).after (.dropOp s a)))

theorem startPulse (a : Actuator) (o : Op) : WinFrame s (s.startPulse a o) :=
  (WinFrame.of_only (State.addHeat_only _ a)).after ((WinFrame.setAct _ a _).after (.setOp s a _))

theorem pulseCheck (a : Actuator) : WinFrame s (s.pulseCheck a) := by
  unfold State.pulseCheck
  repeat' split
  · exact .refl s
  · exact .endFailed s a _
  · exact .endFailed s a _
  · exact .refl s
  · exact .startPulse s a _

theorem grantSlot : WinFrame s s.grantSlot := by
  unfold State.grantSlot
  split
  · exact .refl s
  · extract_lets granted
    refine (WinFrame.pulseCheck granted _).after ?_
    unfold granted
    split
    · exact .setOp s _ _
    · exact .refl s

theorem endPulse (a : Actuator) (o : Op) : WinFrame s (s.endPulse a o) := by
  cases a with
  | l _ | c _ => exact (WinFrame.setOp _ _ _).after (.offChan s _)
  | t1 => exact .endSuccess s .t1

theorem endSettle (a : Actuator) (o : Op) : WinFrame s (s.endSettle a o) := by
  unfold State.endSettle
  repeat' split
  · exact .endSuccess s a
  · exact .endFailed s a _
  · exact .setOp s a _

theorem dropPulse (a : Actuator) : WinFrame s (s.dropPulse a) := by
  unfold State.dropPulse
  repeat' split
  · exact (WinFrame.setOp _ a _).after (.offChan s a)
  · exact .refl s
  · exact .refl s

theorem resumePulse (a : Actuator) : WinFrame s (s.resumePulse a) := by
  unfold State.resumePulse
  repeat' split
  · exact .pulseCheck s a
  · exact .refl s
  · exact .refl s

theorem thermalAbort (a : Actuator) : WinFrame s (s.thermalAbort a) := by
  unfold State.thermalAbort
  repeat' split
  · exact .refl s
  · exact (WinFrame.raiseActuationFailed _ _ _ _).after ((WinFrame.confirmEnd _ a _).after (.dropOp s a))
  · exact .refl s

theorem thermalAborts : WinFrame s s.thermalAborts := (WinFrame.finishIfDone _).after (WinFrame.foldl thermalAbort _ s)

theorem driveCrash (c : Closure) (n : Nat) : WinFrame s (s.driveCrash c n) :=
  (WinFrame.of_only (State.addHeat_only _ (.l c))).after ((WinFrame.setAct _ (.l c) _).after (.setOp s (.l c) _))

theorem refreshCrash : WinFrame s s.refreshCrash := by
  refine WinFrame.foldl (fun t c => ?_) _ s
  split
  · exact .driveCrash t c 4
  · exact .refl t

theorem abortOrdinary (a : Actuator) : WinFrame s (s.abortOrdinary a) := by
  unfold State.abortOrdinary
  repeat' split
  · exact .refl s
  · exact .dropOp s a
  · exact .refl s

theorem clearRunningLock : WinFrame s s.clearRunningLock := by
  unfold State.clearRunningLock
  repeat' split
  · exact (WinFrame.setQueue _ _).after (WinFrame.foldl abortOrdinary _ s)
  · exact .refl s
  · exact .refl s

theorem returnChild : WinFrame s s.returnChild := by
  unfold State.returnChild
  repeat' split
  · exact (WinFrame.setQueue _ _).after ((WinFrame.of_only (State.writeChildConfirmed_only _ _ _)).after
      (.abortOrdinary s _))
  · exact .refl s
  · exact .refl s

theorem endCrashPulse (c : Closure) (o : Op) : WinFrame s (s.endCrashPulse c o) :=
  (WinFrame.setOp _ _ _).after (.offChan s _)

theorem failCrash (c : Closure) (why : FailReason) : WinFrame s (s.failCrash c why) :=
  (WinFrame.raiseActuationFailed _ c why none).after ((WinFrame.of_only (State.writeConfirmed_only _ c false)).after
    (.dropOp s _))

theorem endCrashSettle (c : Closure) (o : Op) : WinFrame s (s.endCrashSettle c o) := by
  unfold State.endCrashSettle
  repeat' split
  · exact (WinFrame.of_only (State.writeConfirmed_only _ c true)).after (.dropOp s _)
  · exact .failCrash s c _
  · exact .driveCrash s c _

theorem abortCrash (c : Closure) : WinFrame s (s.abortCrash c) := by
  unfold State.abortCrash
  repeat' split
  · exact (WinFrame.of_only (State.writeConfirmed_only _ c _)).after (.dropOp s _)
  · exact .refl s
  · exact .refl s

theorem softConfirm (c : Closure) : WinFrame s (s.softConfirm c) := by
  unfold State.softConfirm
  repeat' split
  · exact .abortCrash s c
  · exact .refl s
  · exact .of_only (State.writeConfirmed_only s c false)

theorem withdraw (a : Actuator) : WinFrame s (s.withdraw (.act a)) := by
  unfold State.withdraw
  split
  · exact .refl s
  · exact (WinFrame.setAct _ a _).after (.offChan s a)

theorem overcurrentEnd (a : Actuator) : WinFrame s (s.overcurrentEnd a) := by
  unfold State.overcurrentEnd
  repeat' split
  · exact .failCrash s _ _
  · exact .endFailed s _ _
  · exact .refl s
  · exact .refl s

theorem detectOvercurrent (a : Actuator) : WinFrame s (s.detectOvercurrent (.act a)) :=
  (WinFrame.overcurrentEnd _ a).after ((WinFrame.withdraw _ a).after ((WinFrame.offChan _ a).after (.faultFound s _ _)))

theorem measure (a : Actuator) (code : Nat) : WinFrame s (s.measure a code) := by
  unfold State.measure
  dsimp only
  repeat' split
  · exact (WinFrame.detectOvercurrent _ a).after (.countCurrent s _ code)
  · exact .countCurrent s _ code
  · exact .refl s

theorem drivePoint (ch : Channel) : WinFrame s (s.drivePoint ch) := by
  have hjudge : ∀ t : State, WinFrame t (t.judgeOpenLoad ch) := fun t => by
    unfold State.judgeOpenLoad
    repeat' split
    · exact .faultFound t ch _
    · exact .setChan t ch rfl rfl
    · exact .refl t
    · exact .refl t
  have hclean : ∀ t : State, WinFrame t (t.cleanDrive ch) := fun t => by
    unfold State.cleanDrive
    dsimp only
    split
    · exact .setChan t ch rfl rfl
    · exact .refl t
  unfold State.drivePoint
  dsimp only
  split
  next n _ =>
    split
    · have hmark : WinFrame s ((s.reach (n + Config.openLoadPoint)).setChan ch { s.chan ch with judged := true }) :=
        WinFrame.after (t := s.reach (n + Config.openLoadPoint)) (.setChan _ ch rfl rfl) (.of_only (State.reach_only s _))
      exact (hclean _).after ((hjudge _).after hmark)
    · exact .refl s
  next => exact .refl s

theorem judgeShort (a : Actuator) (k : DetectKind) (held clean : Bool) :
    WinFrame s (s.judgeShort (.act a) k held clean) := by
  unfold State.judgeShort
  repeat' split
  · exact (WinFrame.withdraw _ a).after (.faultFound s _ k)
  · exact .setAct s a _
  · exact .refl s
  · exact .refl s

theorem testOff (a : Actuator) (f : Finding) : WinFrame s (s.testOff (.act a) f) := by
  unfold State.testOff
  dsimp only
  split
  · exact (WinFrame.judgeShort _ a _ _ _).after (.judgeShort s a _ _ _)
  · exact .refl s

theorem clearCounts : WinFrame s s.clearCounts := by
  refine WinFrame.foldl (fun t ch => ?_) _ s
  split
  · exact .refl t
  · exact .setChan t ch rfl rfl

end WinFrame

/-! ### The law of the four windows -/

/-- The conditions of the causes CRASH, THERMAL and SUPPLY are the same in two states. -/
structure Conditions (s t : State) : Prop where
  latch : t.crash.latch = s.crash.latch
  temp : t.mon.temp = s.mon.temp
  supply : t.mon.supply = s.mon.supply

theorem ActFrame.conditions {s t : State} (h : ActFrame s t) : Conditions s t := ⟨by rw [h.crash], h.temp, h.supply⟩

theorem WinFrame.conditions {s t : State} (h : WinFrame s t) : Conditions s t := ⟨h.latch, h.temp, h.supply⟩

theorem Conditions.after {s t u : State} (k : Conditions t u) (h : Conditions s t) : Conditions s u :=
  ⟨k.latch.trans h.latch, k.temp.trans h.temp, k.supply.trans h.supply⟩

section Stand
variable {crash hot cut crash' hot' cut' : Bool} {s t : State} {w : Window}

theorem WindowsStand.frame (hs : WindowsStand crash hot cut s) (h : WinFrame s t) : WindowsStand crash hot cut t :=
  fun w => StandsAt.frame (hs w) h

theorem WindowsStand.only (hs : WindowsStand crash hot cut s) {ps : List Part} (h : Only ps s t)
    (hd : [Part.win, .mon].all (fun x => !ps.contains x) = true := by rfl) : WindowsStand crash hot cut t :=
  fun w => StandsAt.only (hs w) h hd

/-- One window changes, and stands. -/
theorem WindowsStand.change (hs : WindowsStand crash hot cut s) (h : OnlyWindow s t w)
    (hw : StandsAt crash hot cut t w) : WindowsStand crash hot cut t := fun v => by
  by_cases hv : v = w
  · exact hv ▸ hw
  · exact StandsAt.same (hs v) (.of_onlyWindow h hv)

/-- R104: a cause comes into force on the four windows. -/
theorem WindowsStand.addCauseAll (hs : WindowsStand crash hot cut s) {k : Cause}
    (hk : ∀ b, (Causes.put ⟨crash, hot, cut, b⟩ k true) = ⟨crash', hot', cut', b⟩) :
    WindowsStand crash' hot' cut' (s.addCauseAll k) := fun w => by
  obtain ⟨t, hst, -, hafter⟩ := foldl_window (f := fun s w => State.addCause s w k) (fun t v => .addCause t v k)
    (fun t v => State.addCause_only t v k) s w
  have ht : StandsAt crash hot cut t w := StandsAt.same (hs w) hst
  exact StandsAt.same (ht.addCause (by rw [ht.causes]; exact hk _)) hafter

/-- R104: a cause ends on the four windows. -/
theorem WindowsStand.removeCauseAll (hs : WindowsStand crash hot cut s) {k : Cause}
    (hk : ∀ b, (Causes.put ⟨crash, hot, cut, b⟩ k false) = ⟨crash', hot', cut', b⟩) :
    WindowsStand crash' hot' cut' (s.removeCauseAll k) := fun w => by
  obtain ⟨t, hst, -, hafter⟩ := foldl_window (f := fun s w => State.removeCause s w k) (fun t v => .removeCause t v k)
    (fun t v => State.removeCause_only t v k) s w
  have ht : StandsAt crash hot cut t w := StandsAt.same (hs w) hst
  exact StandsAt.same (removeCause_stands ht rfl (by rw [ht.causes]; exact hk _)) hafter

end Stand

section Law
variable {s t : State} {w : Window}

theorem windowLaw_restsOn : RestsOn [.win, .crash, .mon] WindowLaw := fun s t h hs => by
  have hwin : t.win = s.win := h .win (by decide)
  have hcrash : t.crash = s.crash := h .crash (by decide)
  have hmon : t.mon = s.mon := h .mon (by decide)
  unfold WindowLaw InhibitLaw BridgeLaw State.winRec State.chan at hs ⊢
  rwa [hwin, hcrash, hmon]

theorem WindowLaw.only (hs : WindowLaw s) {ps : List Part} (h : Only ps s t)
    (hd : [Part.win, .crash, .mon].all (fun x => !ps.contains x) = true := by rfl) : WindowLaw t :=
  windowLaw_restsOn.only h hd hs

/-- The law of the windows under the same conditions. -/
theorem WindowLaw.of_stand (h : Conditions s t)
    (ht : WindowsStand s.crash.latch (decide (s.mon.temp = .hot)) (decide (s.mon.supply = .cut)) t) : WindowLaw t := by
  rw [windowLaw_iff, h.latch, h.temp, h.supply]
  exact ht

theorem WindowLaw.frame (hs : WindowLaw s) (h : WinFrame s t) : WindowLaw t :=
  .of_stand h.conditions (((windowLaw_iff s).mp hs).frame h)

/-- An operation on one window that keeps its law, under the same conditions. -/
theorem WindowLaw.window (hs : WindowLaw s) (hframe : ActFrame s t) (hone : OnlyWindow s t w)
    (hw : ∀ {crash hot cut}, StandsAt crash hot cut s w → StandsAt crash hot cut t w) : WindowLaw t := by
  have hstand := (windowLaw_iff s).mp hs
  exact .of_stand hframe.conditions (hstand.change hone (hw (hstand w)))

/-! ### Temperature, supply and crash (R42, R46, R52, R104) -/

theorem Conditions.of_only {ps : List Part} (h : Only ps s t)
    (hd : [Part.win, .crash, .mon].all (fun x => !ps.contains x) = true := by rfl) : Conditions s t :=
  (WinFrame.of_only h hd).conditions

/-- The windows stand as the new temperature asks once it is handed to them. -/
theorem handTemp_stands {crash cut : Bool} (old new : TempState) (hs : WindowsStand crash (decide (old = .hot)) cut s) :
    WindowsStand crash (decide (new = .hot)) cut (s.handTemp old new) ∧ Conditions s (s.handTemp old new) := by
  have hmark : ∀ (t : State) f, Only [.refs] t (t.markAllStrokes f) := fun t f => State.markAllStrokes_only t f
  have hremove : WindowsStand crash true cut s →
      WindowsStand crash false cut (s.removeCauseAll .thermal) ∧ Conditions s (s.removeCauseAll .thermal) :=
    fun h => ⟨h.removeCauseAll fun _ => rfl, (ActFrame.removeCauseAll s _).conditions⟩
  have hadd : WindowsStand crash false cut s → WindowsStand crash true cut ((s.addCauseAll .thermal).thermalAborts) ∧
      Conditions s ((s.addCauseAll .thermal).thermalAborts) :=
    fun h => ⟨(h.addCauseAll fun _ => rfl).frame (.thermalAborts _),
      (WinFrame.thermalAborts _).conditions.after (ActFrame.addCauseAll s _).conditions⟩
  unfold State.handTemp
  split
  case h_4 | h_5 => exact hadd hs
  case h_6 => exact hremove hs
  case h_7 =>
    obtain ⟨hstand, hcond⟩ := hremove hs
    exact ⟨hstand.only (hmark _ _), (Conditions.of_only (hmark _ _)).after hcond⟩
  case h_8 => exact ⟨hs.only (hmark _ _), .of_only (hmark _ _)⟩
  all_goals exact ⟨hs, rfl, rfl, rfl⟩

theorem handSupply_stands {crash hot : Bool} (old new : SupplyState) (hs : WindowsStand crash hot (decide (old = .cut)) s) :
    WindowsStand crash hot (decide (new = .cut)) (s.handSupply old new) ∧ Conditions s (s.handSupply old new) := by
  have hmark : ∀ (t : State) f, Only [.refs] t (t.markAllStrokes f) := fun t f => State.markAllStrokes_only t f
  have hdrop : ∀ t : State, WinFrame t t.dropPulses := fun t => WinFrame.foldl WinFrame.dropPulse _ t
  have hresume : ∀ t : State, WinFrame t t.resumePulses := fun t => WinFrame.foldl WinFrame.resumePulse _ t
  have hremove : WindowsStand crash hot true s →
      WindowsStand crash hot false (s.removeCauseAll .supply) ∧ Conditions s (s.removeCauseAll .supply) :=
    fun h => ⟨h.removeCauseAll fun _ => rfl, (ActFrame.removeCauseAll s _).conditions⟩
  unfold State.handSupply
  split
  case h_4 | h_5 =>
    exact ⟨(hs.addCauseAll fun _ => rfl).frame (hdrop _),
      (hdrop _).conditions.after (ActFrame.addCauseAll s _).conditions⟩
  case h_6 =>
    obtain ⟨hstand, hcond⟩ := hremove hs
    exact ⟨hstand.frame (hresume _), (hresume _).conditions.after hcond⟩
  case h_7 =>
    obtain ⟨hstand, hcond⟩ := hremove hs
    exact ⟨(hstand.only (hmark _ _)).frame (hresume _),
      (hresume _).conditions.after ((Conditions.of_only (hmark _ _)).after hcond)⟩
  case h_8 => exact ⟨hs.only (hmark _ _), .of_only (hmark _ _)⟩
  all_goals exact ⟨hs, rfl, rfl, rfl⟩

theorem WindowLaw.measureTemp (hs : WindowLaw s) (d : Int) : WindowLaw (s.measureTemp d) := by
  have hstand := (windowLaw_iff s).mp hs
  unfold State.measureTemp
  extract_lets old new before measured flagged
  have hflagged : WindowsStand s.crash.latch (decide (old = .hot)) (decide (s.mon.supply = .cut)) flagged := hstand
  split
  next hsame =>
    rw [windowLaw_iff]
    show WindowsStand s.crash.latch (decide (new = .hot)) (decide (s.mon.supply = .cut)) flagged
    rw [hsame]
    exact hflagged
  next =>
    obtain ⟨hhanded, hcond⟩ := handTemp_stands old new (hflagged.only (State.raiseThermal_only flagged))
    exact .of_stand (s := flagged.raiseThermal) hcond hhanded

theorem WindowLaw.measureSupply (hs : WindowLaw s) (v : Nat) : WindowLaw (s.measureSupply v) := by
  have hstand := (windowLaw_iff s).mp hs
  unfold State.measureSupply
  extract_lets old new before measured flagged
  have hflagged : WindowsStand s.crash.latch (decide (s.mon.temp = .hot)) (decide (old = .cut)) flagged := hstand
  split
  next hsame =>
    rw [windowLaw_iff]
    show WindowsStand s.crash.latch (decide (s.mon.temp = .hot)) (decide (new = .cut)) flagged
    rw [hsame]
    exact hflagged
  next =>
    obtain ⟨hhanded, hcond⟩ := handSupply_stands old new (hflagged.only (State.raiseSupply_only flagged))
    exact .of_stand (s := flagged.raiseSupply) hcond hhanded

theorem WindowLaw.crashEvent (hs : WindowLaw s) : WindowLaw s.crashEvent := by
  have hstand := (windowLaw_iff s).mp hs
  unfold State.crashEvent
  split
  next hlatch =>
    rw [hlatch] at hstand
    have hraised : Only [.notices] s s.raiseCrash := State.raiseCrash_only s
    have hcaused := (hstand.only hraised).addCauseAll (k := .crash) fun _ => rfl
    refine WindowLaw.frame (WindowLaw.of_stand (s := s) ?_ (hlatch.symm ▸ hcaused))
      ((WinFrame.refreshCrash _).after (.returnChild _))
    exact (ActFrame.addCauseAll _ .crash).conditions.after (.of_only hraised)
  next =>
    unfold State.firstCrash
    extract_lets before latched cleared crashed
    have hcleared : WinFrame latched cleared :=
      (WinFrame.of_only (State.setRelock_only _ none)).after ((WinFrame.returnChild _).after
        ((WinFrame.clearRunningLock _).after (.of_only (State.clearPending_only latched))))
    have hgoals : Only [.closures, .notices] cleared cleared.crashGoals := State.crashGoals_only cleared
    have hlatched : WindowsStand s.crash.latch (decide (s.mon.temp = .hot)) (decide (s.mon.supply = .cut)) latched := hstand
    have hcaused := ((hlatched.frame hcleared).only hgoals).addCauseAll (k := .crash) fun _ => rfl
    have hlaw : WindowLaw (cleared.crashGoals.addCauseAll .crash) :=
      WindowLaw.of_stand (s := latched)
        ((ActFrame.addCauseAll _ .crash).conditions.after ((Conditions.of_only hgoals).after hcleared.conditions)) hcaused
    exact (hlaw.only (State.raiseCrash_only _)).frame (WinFrame.foldl (fun t c => .driveCrash t c 4) _ _)

theorem WindowLaw.crashTimer (hs : WindowLaw s) : WindowLaw s.crashTimer := by
  have hdetector : ∀ n d, WindowLaw ((s.reach n).setDetector d none) := fun n d =>
    hs.frame ⟨rfl, fun _ => rfl, fun _ => rfl, rfl, rfl, rfl⟩
  unfold State.crashTimer
  split
  · exact (hdetector _ _).crashEvent
  · exact hdetector _ _
  · exact hs

theorem WindowLaw.crashLine (hs : WindowLaw s) (b : Bool) : WindowLaw (s.crashLine b) := by
  refine hs.frame ?_
  unfold State.crashLine
  dsimp only
  split
  · exact ⟨rfl, fun _ => rfl, fun _ => rfl, rfl, rfl, rfl⟩
  · split <;> exact ⟨rfl, fun _ => rfl, fun _ => rfl, rfl, rfl, rfl⟩

theorem WindowLaw.clearCrash (hs : WindowLaw s) : WindowLaw s.clearCrash := by
  have hstand := (windowLaw_iff s).mp hs
  unfold State.clearCrash
  split
  next hlatch =>
    extract_lets before
    have hfreed : WindowsStand false (decide (s.mon.temp = .hot)) (decide (s.mon.supply = .cut))
        (State.removeCauseAll { s with crash := { before with latch := false } } .crash) := by
      rw [hlatch] at hstand
      exact WindowsStand.removeCauseAll (s := { s with crash := { before with latch := false } }) hstand fun _ => rfl
    exact .of_stand (s := { s with crash := { before with latch := false } }) (ActFrame.removeCauseAll _ _).conditions hfreed
  next => exact hs

/-! ### Sessions, power and lockout -/

theorem WindowLaw.endHeld (hs : WindowLaw s) (f : RunHolder → Bool) (w : Window) : WindowLaw (s.endHeld f w) :=
  hs.window (.endHeld s f w) (.endHeld s w f) fun h => h.endHeld f

theorem WindowLaw.endHeldAll (hs : WindowLaw s) (f : RunHolder → Bool) : WindowLaw (s.endHeldAll f) :=
  foldl_keeps (fun _ w h => h.endHeld f w) _ hs

theorem WindowLaw.stopRetained (hs : WindowLaw s) : WindowLaw s.stopRetained := by
  have hstopped : WindowLaw { s with win := { s.win with retained := none } } :=
    hs.frame ⟨rfl, fun _ => rfl, fun _ => rfl, rfl, rfl, rfl⟩
  unfold State.stopRetained
  dsimp only
  repeat' split
  · exact hstopped.endHeldAll _
  · exact hstopped
  · exact hs

theorem WindowLaw.endSession (hs : WindowLaw s) : WindowLaw s.endSession := by
  unfold State.endSession
  split
  · exact (hs.only (State.setSession_only s none)).endHeldAll _
  · exact hs

theorem WindowLaw.comfortAll (hs : WindowLaw s) (dir : Dir) (h : RunHolder) : WindowLaw (s.comfortAll dir h) :=
  foldl_keeps (fun t w ht => ht.window (.comfortOn t w dir h) (.comfortOn t w dir h) fun k => k.comfortOn dir h) _ hs

theorem WindowLaw.replaceSession (hs : WindowLaw s) (i : Fin 8) (d : ComfortDir) : WindowLaw (s.replaceSession i d) := by
  unfold State.replaceSession
  extract_lets ended
  refine WindowLaw.only (s := ended) ?_ (State.setSession_only _ _)
  unfold ended
  repeat' split
  · exact hs
  · exact hs.endHeldAll _
  · exact hs

theorem WindowLaw.fobAction (hs : WindowLaw s) (i : Fin 8) (x : FobAction) (tag : Byte) :
    WindowLaw (s.fobAction i x tag).state := by
  have hcomfort : ∀ d, WindowLaw (s.comfortReply i d tag).state := by
    intro d
    unfold State.comfortReply
    split
    · exact hs.only (State.renewSession_only s)
    · exact ((hs.only (State.offer_only s _)).comfortAll _ _).replaceSession i d
  cases x with
  | lock | unlock => exact hs.only (State.offer_only s _)
  | tailgate => exact (hs.only (State.offer_only s _)).only (State.offer_only _ _)
  | comfortClose | comfortOpen => exact hcomfort _
  | comfortStop => exact hs.endSession

theorem WindowLaw.ownCredential (hs : WindowLaw s) (tag : Byte) (q : List Byte) :
    WindowLaw (State.ownCredential tag q s).state := by
  unfold State.ownCredential
  split
  next i x _ _ =>
    unfold State.credential
    split
    · exact hs
    · exact hs
    unfold State.judgeFrame
    generalize classify (s.slotAt i) s.now (fieldAt q 1 3) (some x) = v
    have hcounter := hs.only (State.applyCounter_only s i (fieldAt q 1 3) (some x) v)
    cases v with
    | duplicate => exact hcounter.only (State.renewByDuplicate_only _ i x)
    | stale | resyncNeeded => exact hcounter
    | accepted =>
      dsimp only
      split
      · exact hcounter.fobAction i x tag
      · exact hcounter
  next => exact hs

theorem WindowLaw.writeFob (hs : WindowLaw s) (i : Fin 8) (f : FobSlot) : WindowLaw (s.writeFob i f) := by
  have hwritten := hs.only (State.setSlot_only s i f)
  unfold State.writeFob
  dsimp only
  repeat' split
  · exact hwritten.endSession
  · exact hwritten
  · exact hwritten

theorem WindowLaw.writeLockout (hs : WindowLaw s) (on : Bool) : WindowLaw (s.writeLockout on) := by
  have hwritten : WindowLaw { s with win := { s.win with rearLockout := on } } :=
    hs.frame ⟨rfl, fun _ => rfl, fun _ => rfl, rfl, rfl, rfl⟩
  unfold State.writeLockout
  dsimp only
  split
  · exact (hwritten.endHeld _ _).endHeld _ _
  · exact hwritten

theorem WindowLaw.writeMode (hs : WindowLaw s) (m : VehicleMode) : WindowLaw (s.writeMode m) := by
  unfold State.writeMode
  extract_lets had before written
  have hwritten : WindowLaw written := hs.frame ⟨rfl, fun _ => rfl, fun _ => rfl, rfl, rfl, rfl⟩
  split
  · exact hwritten.endHeldAll _
  · exact hwritten

theorem WindowLaw.applyConfig (hs : WindowLaw s) (g : Configuration) (group : Group) : WindowLaw (s.applyConfig g group) := by
  unfold State.applyConfig
  extract_lets old configured passive locked shifted
  have hpassive : WindowLaw passive := by
    have hconfigured : WindowLaw configured := hs.only (Only.config s g)
    unfold passive
    split
    · exact hconfigured.only (Only.touch configured _)
    · exact hconfigured
  have hlocked : WindowLaw locked := by
    unfold locked
    split
    · refine foldl_keeps (fun t r ht => ?_) _ hpassive
      unfold State.lockoutByPolicy
      split
      · exact ht.endHeld _ _
      · exact ht
    · exact hpassive
  have hshifted : WindowLaw shifted := foldl_keeps (fun t w ht => ht.only (State.shiftWritten_only old t w)) _ hlocked
  split
  · exact hshifted.frame (.clearCounts _)
  · exact hshifted

/-! ### Restore and forget (R133, R134, R166) -/

theorem WindowLaw.judgeRestore (hs : WindowLaw s) (content : List Byte) : WindowLaw (s.judgeRestore content).state := by
  unfold State.judgeRestore
  split
  · exact hs
  next zones _ =>
    split
    · exact hs
    next x hx =>
      split
      next hmay =>
        have hrange : -64 ≤ x.position ∧ x.position ≤ 4095 := by
          unfold State.restoreOf at hx
          dsimp only at hx
          split at hx
          · split at hx
            next hin =>
              cases hx
              simp only [Bool.and_eq_true, decide_eq_true_eq] at hin
              exact hin.1
            next => cases hx
          · cases hx
        have hframe : ActFrame s (s.restore x) :=
          (ActFrame.setWin _ x.window _).after (.of_only (State.setRefs_only s x.window _) rfl)
        exact hs.window hframe (.restore s x) fun h => h.restore x hmay hrange.1 hrange.2
      next => exact hs

theorem WindowLaw.ownWindowRestore (hs : WindowLaw s) (q : List Byte) : WindowLaw (State.ownWindowRestore q s).state := by
  have hstaging : ∀ x, WindowLaw (s.setStaging x) := fun x => hs.only (State.setStaging_only s x)
  have hsegment : ∀ x, WindowLaw (s.addSegment x).state := fun x => by
    unfold State.addSegment
    split
    · exact (hstaging none).judgeRestore _
    · exact hstaging _
  unfold State.ownWindowRestore
  dsimp only
  repeat' split
  · exact hs
  · exact hsegment _
  · exact hsegment _
  · exact hstaging none
  · exact hs

theorem WindowLaw.ownWindowForget (hs : WindowLaw s) (q : List Byte) : WindowLaw (State.ownWindowForget q s).state := by
  unfold State.ownWindowForget
  split
  next w x _ _ =>
    split
    · exact hs
    next hno =>
      exact hs.window (.of_only (State.forget_only s w x) rfl) (.forget s w x) fun h => h.forget (by simpa using hno) x
  next => exact hs

theorem WindowLaw.clearChan (hs : WindowLaw s) (ch : Channel) : WindowLaw (s.clearChan ch) := by
  cases ch with
  | w w =>
    refine hs.window ?_ (.clearChan s w) fun h => h.clearChan
    unfold State.clearChan
    dsimp only
    split
    · exact (ActFrame.setWin _ w _).after (.setW s w _)
    · exact .setW s w _
  | act a => exact hs.frame (.setAct s a _)

theorem WindowLaw.testOff (hs : WindowLaw s) (ch : Channel) (f : Finding) : WindowLaw (s.testOff ch f) := by
  cases ch with
  | w w =>
    have hjudge : ∀ (t : State) k held clean, ActFrame t (t.judgeShort (.w w) k held clean) := fun t k held clean => by
      unfold State.judgeShort
      repeat' split
      · exact (ActFrame.withdraw _ w).after (.faultFound t w k)
      · exact .setW t w _
      · exact .refl t
      · exact .refl t
    refine hs.window ?_ (.testOff s w f) fun h => h.testOff f
    unfold State.testOff
    dsimp only
    split
    · exact (hjudge _ _ _ _).after (hjudge _ _ _ _)
    · exact .refl s
  | act a => exact hs.frame (.testOff s a f)

theorem WindowLaw.owner (hs : WindowLaw s) (k : Kind) (p : Port) (tag : Byte) (q : List Byte) :
    WindowLaw (ownerOf k p tag q s).state := by
  cases k with
  | credential => exact hs.ownCredential tag q
  | windowSwitch =>
    show WindowLaw (State.ownWindowSwitch q s).state
    unfold State.ownWindowSwitch
    split
    next w pos _ _ => exact hs.window (.panelFrame s w pos) (.panelFrame s w pos) fun h => h.panelFrame pos
    next => exact hs
  | rearLockout =>
    show WindowLaw (State.ownRearLockout q s).state
    unfold State.ownRearLockout
    split
    · exact hs.writeLockout _
    · exact hs
  | comfort =>
    show WindowLaw (State.ownComfort q s).state
    unfold State.ownComfort
    split
    · exact hs.comfortAll _ _
    · exact hs.comfortAll _ _
    · exact hs.endHeldAll _
    · exact hs
  | vehicleMode =>
    show WindowLaw (State.ownVehicleMode q s).state
    unfold State.ownVehicleMode
    split
    · exact hs.writeMode _
    · exact hs
  | crashClear =>
    show WindowLaw (State.ownCrashClear q s).state
    unfold State.ownCrashClear
    split
    · exact hs.clearCrash
    · exact hs
  | windowRestore => exact hs.ownWindowRestore q
  | windowForget => exact hs.ownWindowForget q
  | clearFault =>
    show WindowLaw (State.ownClearFault q s).state
    unfold State.ownClearFault
    repeat' split
    · exact hs
    · exact hs.clearChan _
    · exact hs
  | clearStatus => exact hs.frame ⟨rfl, fun _ => rfl, fun _ => rfl, rfl, rfl, rfl⟩
  | configWrite =>
    show WindowLaw (State.ownConfigWrite q s).state
    unfold State.ownConfigWrite
    repeat' split
    · exact hs.applyConfig _ _
    · exact hs
    · exact hs
  | fobWrite =>
    show WindowLaw (State.ownFobWrite q s).state
    unfold State.ownFobWrite
    repeat' split
    · exact hs.writeFob _ _
    · exact hs
    · exact hs
  | _ => exact hs.only (ownerOf_only _ p tag q s)

/-! ### Lines, starts and resets -/

theorem WindowLaw.startHead (hs : WindowLaw s) : WindowLaw s.startHead := by
  have hkind : ∀ (t : State) k e, WindowLaw t → WindowLaw (t.startKind k e) := fun t k e ht => by
    cases k with
    | childSet r st =>
      show WindowLaw (t.startChild r st)
      unfold State.startChild
      extract_lets written locked v
      have hwritten : WindowLaw written := ht.only (State.writeChildGoal_only t r st)
      have hlocked : WindowLaw locked := by
        unfold locked
        split
        · exact hwritten.endHeld _ _
        · exact hwritten
      split
      · exact hlocked.only (State.setOp_only _ _ _)
      · exact hlocked
    | releaseTailgate =>
      exact (ht.only (State.startRelease_only t _)).only (State.relockAtStart_only _ _ _)
    | lockAll | superlockAll | unlockAll | unlockDriver | unlockOne _ | unlockTailgate =>
      exact (foldl_keeps (fun t c h => h.only (State.startOn_only _ _ t c)) _ ht).only (State.relockAtStart_only _ _ _)
  unfold State.startHead
  split
  · exact hs
  · extract_lets fail k running refused
    refine (hkind _ _ _ ?_).only (State.finishIfDone_only _)
    have hrunning : WindowLaw running := hs.only (State.setQueue_only s _)
    unfold refused
    cases fail with
    | some why => exact hrunning.only (State.raiseSuperlockRefused_only _ _ _)
    | none => exact hrunning

theorem WindowLaw.latchExpiry (hs : WindowLaw s) (c : Closure) (f : Feed LatchLevel) : WindowLaw (s.latchExpiry c f) := by
  have hajar : ∀ t : State, WindowLaw t → WindowLaw (t.latchAjar c) := fun t ht => by
    have hrelock := (ht.only (State.setRelock_only t none)).only (State.superlockRelock_only _)
    unfold State.latchAjar
    dsimp only
    split
    · exact hrelock.stopRetained
    · exact hrelock
  have hwritten : ∀ r, WindowLaw (s.writeClosure c r) := fun r => hs.only (State.writeClosure_only s c r)
  unfold State.latchExpiry
  dsimp only
  repeat' split
  · exact (hs.only (State.setClosure_only s c _)).only (State.raiseLockChanged_only _ c)
  · exact hs
  · exact hajar _ (hwritten _)
  · exact hwritten _

theorem WindowLaw.debounce (hs : WindowLaw s) (l : Line) : WindowLaw (s.debounce l) := by
  have hsettled : ∀ n y, WindowLaw ((s.reach n).setSensing y) := fun n y =>
    (hs.only (State.reach_only s n)).only (State.setSensing_only _ y)
  unfold State.debounce
  cases l with
  | latch c =>
    dsimp only
    split
    · exact (hsettled _ _).latchExpiry c _
    · exact hs
  | localSwitch w =>
    dsimp only
    split
    · split
      · split
        · exact hsettled _ _
        · exact (hsettled _ _).window (.localEvent _ _ _ _) (.localEvent _ _ _ _) fun h => h.localEvent _ _
      · exact hsettled _ _
    · exact hs
  | feedback c =>
    dsimp only
    split
    · exact (hsettled _ _).only (State.feedbackExpiry_only _ c _)
    · exact hs
  | child r =>
    dsimp only
    split
    · exact (hsettled _ _).only (State.childExpiry_only _ r _)
    · exact hs
  | handle c =>
    dsimp only
    split
    · exact (hsettled _ _).only (State.contactEvent_only _ _ _ fun t => State.handlePull_only t c)
    · exact hs
  | keyLock =>
    dsimp only
    split
    · exact (hsettled _ _).only (State.contactEvent_only _ _ _ State.keyLockContact_only)
    · exact hs
  | keyUnlock =>
    dsimp only
    split
    · exact (hsettled _ _).only (State.contactEvent_only _ _ _ State.keyUnlockContact_only)
    · exact hs
  | touch x =>
    dsimp only
    split
    · exact (hsettled _ _).only (State.contactEvent_only _ _ _ fun t => State.touched_only t x)
    · exact hs

theorem windowLaw_fullReset (s : State) : WindowLaw s.fullReset := by
  intro w
  have hrecord : s.fullReset.winRec w = .reset := Windows.get_all w _
  have hchan : s.fullReset.chan (.w w) = .reset := by cases w <;> rfl
  unfold InhibitLaw BridgeLaw
  rw [hrecord, hchan]
  exact ⟨trivial, ⟨rfl, trivial, by decide, by decide⟩, ⟨by decide, rfl, ⟨nofun, nofun⟩, ⟨nofun, nofun⟩, rfl⟩, nofun, Or.inl rfl⟩

theorem WindowLaw.released (hs : WindowLaw s) (cause : ResetCause) (deg : Int) (v : Nat) :
    WindowLaw (s.released cause deg v) := by
  have hdetector : WinFrame s s.startDetector := by
    unfold State.startDetector
    split
    · exact ⟨rfl, fun _ => rfl, fun _ => rfl, rfl, rfl, rfl⟩
    · exact .refl s
  exact (((hs.frame hdetector).only (State.raiseRestarted_only _ cause)).measureTemp deg).measureSupply v

theorem WindowLaw.softReset (hs : WindowLaw s) : WindowLaw s.softReset := by
  unfold State.softReset
  extract_lets cleared stopped confirmed
  have hcleared : WindowLaw cleared :=
    (hs.frame (WinFrame.foldl .abortOrdinary _ s)).only (State.clearQueue_only _)
  have hstopped : WindowLaw stopped :=
    foldl_keeps (fun t w h => h.window (.softStop t w) (.softStop t w) fun k => k.softStop) _ hcleared
  have hconfirmed : WindowLaw confirmed :=
    (hstopped.frame (WinFrame.foldl .softConfirm _ _)).only (Only.foldl State.softChild_only _ _)
  clear_value confirmed
  have hidle : WindowLaw confirmed.softIdle := hconfirmed.frame ⟨rfl, fun _ => rfl, fun _ => rfl, rfl, rfl, rfl⟩
  refine WindowLaw.only ?_ (State.raiseRestarted_only _ .soft)
  unfold State.softCrash
  split
  · exact hidle.frame (.refreshCrash _)
  · exact hidle

theorem WindowLaw.responseSent (hs : WindowLaw s) (p : Port) : WindowLaw (s.responseSent p) := by
  have hidle : WindowLaw (s.idlePort p) := hs.only (State.idlePort_only s p)
  unfold State.responseSent
  dsimp only
  split
  · split
    · exact hidle.softReset
    · exact hidle
  · exact hs

theorem WindowLaw.live (hs : WindowLaw s) {f : State → State} (hf : WindowLaw s → WindowLaw (f s)) :
    WindowLaw (s.live f) := by
  unfold State.live
  split
  · exact hs
  · exact hf hs

theorem WindowLaw.powerOn (s : State) (deg : Int) (v : Nat) : WindowLaw (s.powerOn deg v) := by
  unfold State.powerOn
  dsimp only
  split
  · exact windowLaw_fullReset s
  · exact (windowLaw_fullReset s).released _ deg v

theorem WindowLaw.releaseReset (hs : WindowLaw s) (deg : Int) (v : Nat) : WindowLaw (s.releaseReset deg v) := by
  unfold State.releaseReset
  split
  · exact (windowLaw_fullReset _).released _ deg v
  · exact hs

theorem WindowLaw.retainedExpiry (hs : WindowLaw s) : WindowLaw s.retainedExpiry := by
  unfold State.retainedExpiry
  split
  · exact (hs.only (State.reach_only s _)).stopRetained
  · exact hs

theorem WindowLaw.keepAliveEnd (hs : WindowLaw s) : WindowLaw s.keepAliveEnd := by
  unfold State.keepAliveEnd
  split
  · exact (hs.only (State.reach_only s _)).endSession
  · exact hs

/-! ### Timers of the operations -/

theorem WinFrame.pulseExpiry (s : State) (a : Actuator) : WinFrame s (s.pulseExpiry a) := by
  unfold State.pulseExpiry
  split
  · exact (WinFrame.endPulse _ a _).after (.of_only (State.reach_only s _))
  · exact .refl s

theorem WinFrame.settleExpiry (s : State) (a : Actuator) : WinFrame s (s.settleExpiry a) := by
  unfold State.settleExpiry
  split
  · exact (WinFrame.endSettle _ a _).after (.of_only (State.reach_only s _))
  · exact .refl s

theorem WinFrame.crashPulseExpiry (s : State) (c : Closure) : WinFrame s (s.crashPulseExpiry c) := by
  unfold State.crashPulseExpiry
  split
  · exact (WinFrame.endCrashPulse _ c _).after (.of_only (State.reach_only s _))
  · exact .refl s

theorem WinFrame.crashSettleExpiry (s : State) (c : Closure) : WinFrame s (s.crashSettleExpiry c) := by
  unfold State.crashSettleExpiry
  split
  · exact (WinFrame.endCrashSettle _ c _).after (.of_only (State.reach_only s _))
  · exact .refl s

end Law

/-- Every command keeps the window law. -/
theorem exec_keeps_windowLaw (c : Instr) (s t : State) (ht : exec c s = .next t) (hs : WindowLaw s) : WindowLaw t := by
  have howner := fun k p tag q s (h : WindowLaw s) => h.owner k p tag q
  cases c using Instr.casesRequest
  case request k p tag q => exact windowLaw_restsOn.exec_request rfl howner ht hs
  case linkByteReceived p b => exact windowLaw_restsOn.exec_linkByte rfl howner ht hs
  case unknownKindRequest p tag kind q => exact windowLaw_restsOn.exec_unknownKind rfl howner ht hs
  case debounceExpiry l => cases ht; exact hs.live fun h => h.debounce l
  case crashLineChange b => cases ht; exact hs.crashLine b
  case crashDetectorTimer => cases ht; exact hs.live fun h => h.crashTimer
  case crashPulseEnd c => cases ht; exact hs.live fun h => h.frame (.crashPulseExpiry s c)
  case crashSettleEnd c => cases ht; exact hs.live fun h => h.frame (.crashSettleExpiry s c)
  case powerOn deg v => cases ht; exact WindowLaw.powerOn s deg v
  case resetLineAssert => cases ht; exact windowLaw_fullReset _
  case resetLineRelease deg v => cases ht; exact hs.releaseReset deg v
  case responseSent p => cases ht; exact hs.live fun h => h.responseSent p
  case commandStart =>
    cases ht
    refine hs.live fun h => ?_
    unfold State.tryHead
    split
    · exact h.startHead
    · exact h
  case slotGrant => cases ht; exact hs.live fun h => h.frame (.grantSlot s)
  case pulseEnd a => cases ht; exact hs.live fun h => h.frame (.pulseExpiry s a)
  case settleEnd a => cases ht; exact hs.live fun h => h.frame (.settleExpiry s a)
  case keepAliveExpiry => cases ht; exact hs.live fun h => h.keepAliveEnd
  case ripplePulse w => cases ht; exact hs.live fun h => h.window (.ripple s w) (.ripple s w) fun k => k.ripple
  case windowSample w i v =>
    cases ht
    exact hs.live fun h => h.window (.sample s w i v) (.sample s w i v) fun k => k.sample i v
  case startWindowEnd w => cases ht; exact hs.live fun h => h.window (.startEnd s w) (.startEnd s w) fun k => k.startEnd
  case stallTimerExpiry w => cases ht; exact hs.live fun h => h.window (.stallEnd s w) (.stallEnd s w) fun k => k.stallEnd
  case dwellEnd w => cases ht; exact hs.live fun h => h.window (.dwellExpiry s w) (.dwellExpiry s w) fun k => k.dwellExpiry
  case brakeEnd w => cases ht; exact hs.live fun h => h.window (.brakeExpiry s w) (.brakeExpiry s w) fun k => k.brakeExpiry
  case panelRefreshExpiry w =>
    cases ht
    exact hs.live fun h => h.window (.panelExpiry s w) (.panelExpiry s w) fun k => k.panelExpiry
  case retainedPowerExpiry => cases ht; exact hs.live fun h => h.retainedExpiry
  case actuatorCurrentMeasurement a code => cases ht; exact hs.live fun h => h.frame (.measure s a code)
  case openLoadJudgement ch => cases ht; exact hs.live fun h => h.frame (.drivePoint s ch)
  case offStateTick f =>
    cases ht
    refine hs.live fun h => foldl_keeps (fun _ ch ht => ht.testOff ch _) _ ?_
    exact h.frame ⟨rfl, fun _ => rfl, fun _ => rfl, rfl, rfl, rfl⟩
  case temperatureMeasurement deg => cases ht; exact hs.live fun h => h.measureTemp deg
  case supplyMeasurement v => cases ht; exact hs.live fun h => h.measureSupply v
  all_goals exact hs.only (exec_event_only ht)

/-- Settles O58: an operation on one window keeps that window's law and leaves the other windows; a cause comes into force
and ends on the four windows as its condition does; every other block leaves the windows as they stand. -/
theorem windowLawKept : Obligations.WindowLawKept := fun s hs t ht =>
  windowLaw_restsOn.step rfl rfl exec_keeps_windowLaw s hs t ht

end Sys2Proof.Machine
end

section
/-! The trace law over the operations of the trace store and of one window (R137 to R144). -/

namespace Sys2Proof.Machine
open Sys2Proof

/-! ### The law of the store, for windows that run as said -/

/-- The law of the trace store, where a FILLING record may stand on the windows that `runs` names. -/
structure TraceStands (runs : Window → Bool) (s : State) : Prop where
  rings : ∀ w, (s.trace.rings.get w).length ≤ 16
  once : s.trace.captures.Nodup
  listed : ∀ i, i ∈ s.trace.captures ↔ s.isFree i = false
  filling : ∀ i r, s.bufferAt i = .filling r → runs r.window = true ∧ r.pre.length ≤ 16 ∧ r.post.length < 8
  alone : ∀ i j r r', s.bufferAt i = .filling r → s.bufferAt j = .filling r' → r.window = r'.window → i = j
  complete : ∀ i r x, s.bufferAt i = .complete r x → r.pre.length ≤ 16 ∧ r.post.length ≤ 8
  cursor : ∀ c, s.trace.cursor = some c → s.isComplete c.buffer = true

/-- The window is running. -/
def State.runsAt (s : State) (w : Window) : Bool := (s.winRec w).motion.running

theorem traceLaw_iff (s : State) : TraceLaw s ↔ TraceStands s.runsAt s := by
  refine ⟨?_, ?_⟩
  · rintro ⟨hrings, honce, hlisted, hfilling, halone, hcomplete, hcursor⟩
    exact ⟨hrings, honce, hlisted, hfilling, halone, hcomplete, hcursor⟩
  · rintro ⟨hrings, honce, hlisted, hfilling, halone, hcomplete, hcursor⟩
    exact ⟨hrings, honce, hlisted, hfilling, halone, hcomplete, hcursor⟩

section Store
variable {runs runs' : Window → Bool} {s t : State} {w : Window} {i : Fin 8}

theorem State.isFree_iff (s : State) (i : Fin 8) : s.isFree i = true ↔ s.bufferAt i = .free := by
  unfold State.isFree
  split <;> simp_all

theorem State.isComplete_iff (s : State) (i : Fin 8) : s.isComplete i = true ↔ ∃ r x, s.bufferAt i = .complete r x := by
  unfold State.isComplete
  split <;> simp_all

theorem State.fillsFor_iff (s : State) (w : Window) (i : Fin 8) :
    s.fillsFor w i = true ↔ ∃ r, s.bufferAt i = .filling r ∧ r.window = w := by
  unfold State.fillsFor
  split <;> simp_all

theorem mem_eight (i : Fin 8) : i ∈ eight := by
  revert i
  decide

/-- R139: the buffer found for a window holds its FILLING record. -/
theorem State.fillingBuffer_some (h : s.fillingBuffer w = some i) : ∃ r, s.bufferAt i = .filling r ∧ r.window = w :=
  (s.fillsFor_iff w i).mp (List.find?_some h)

theorem State.fillingBuffer_none (h : s.fillingBuffer w = none) {r : TraceRec} (hi : s.bufferAt i = .filling r) :
    r.window ≠ w := fun hw => List.find?_eq_none.mp h i (mem_eight i) ((s.fillsFor_iff w i).mpr ⟨r, hi, hw⟩)

theorem State.firstFree_some (h : s.firstFree = some i) : s.bufferAt i = .free :=
  (s.isFree_iff i).mp (List.find?_some h)

theorem TraceStands.same (hs : TraceStands runs s) (h : t.trace = s.trace) : TraceStands runs t := by
  obtain ⟨hrings, honce, hlisted, hfilling, halone, hcomplete, hcursor⟩ := hs
  have hbuffer : ∀ i, t.bufferAt i = s.bufferAt i := fun i => by rw [State.bufferAt, h]; rfl
  exact ⟨by rwa [h], by rwa [h], by simpa only [h, State.isFree, hbuffer] using hlisted, by simpa only [hbuffer] using hfilling,
    by simpa only [hbuffer] using halone, by simpa only [hbuffer] using hcomplete,
    by simpa only [h, State.isComplete, hbuffer] using hcursor⟩

/-- Other windows run, but those that hold a FILLING record do. -/
theorem TraceStands.widen (hs : TraceStands runs s) (h : ∀ i r, s.bufferAt i = .filling r → runs' r.window = true) :
    TraceStands runs' s :=
  { hs with filling := fun i r hi => ⟨h i r hi, (hs.filling i r hi).2⟩ }

/-- The record of a FILLING buffer is written, or completes. -/
theorem TraceStands.put (hs : TraceStands runs s) {r : TraceRec} (hr : s.bufferAt i = .filling r) {b : Buffer}
    (hfree : b ≠ .free)
    (hfilling : ∀ r', b = .filling r' → r'.window = r.window ∧ r'.pre.length ≤ 16 ∧ r'.post.length < 8)
    (hcomplete : ∀ r' x, b = .complete r' x → r'.pre.length ≤ 16 ∧ r'.post.length ≤ 8) :
    TraceStands runs (s.setBuffer i b) := by
  have hother : ∀ j, j ≠ i → (s.setBuffer i b).bufferAt j = s.bufferAt j := fun j hj => by
    rw [State.setBuffer_bufferAt, if_neg hj]
  have hself : (s.setBuffer i b).bufferAt i = b := by rw [State.setBuffer_bufferAt, if_pos rfl]
  have hwindow : ∀ j r', (s.setBuffer i b).bufferAt j = .filling r' →
      ∃ r'', s.bufferAt j = .filling r'' ∧ r'.window = r''.window := fun j r' hj => by
    by_cases h : j = i
    · subst h
      exact ⟨r, hr, (hfilling r' (hself.symm.trans hj)).1⟩
    · exact ⟨r', hother j h ▸ hj, rfl⟩
  refine ⟨hs.rings, hs.once, fun j => ?_, fun j r' hj => ?_, fun j k r' r'' hj hk h => ?_, fun j r' x hj => ?_, fun c hc => ?_⟩
  · show j ∈ s.trace.captures ↔ _
    rw [hs.listed, ← Bool.not_eq_true, ← Bool.not_eq_true, State.isFree_iff, State.isFree_iff]
    by_cases h : j = i
    · subst h
      simp [hself, hfree, hr]
    · rw [hother j h]
  · by_cases h : j = i
    · subst h
      obtain ⟨hw, hlengths⟩ := hfilling r' (hself.symm.trans hj)
      exact ⟨hw ▸ (hs.filling j r hr).1, hlengths⟩
    · exact hs.filling j r' (hother j h ▸ hj)
  · obtain ⟨rj, hj', hwj⟩ := hwindow j r' hj
    obtain ⟨rk, hk', hwk⟩ := hwindow k r'' hk
    exact hs.alone j k rj rk hj' hk' (hwj ▸ hwk ▸ h)
  · by_cases h : j = i
    · subst h
      exact hcomplete r' x (hself.symm.trans hj)
    · exact hs.complete j r' x (hother j h ▸ hj)
  · have hold := hs.cursor c hc
    rw [State.isComplete_iff] at hold ⊢
    by_cases h : c.buffer = i
    · rw [h, hr] at hold
      simp at hold
    · rwa [hother _ h]

/-! ### Completion (R141) -/

theorem State.completeBuffer_filling {r : TraceRec} (hr : s.bufferAt i = .filling r) (x : Completion) :
    s.completeBuffer i x = (s.setBuffer i (.complete r x)).raiseTraceReady := by
  unfold State.completeBuffer
  rw [hr]

theorem TraceStands.completeBuffer (hs : TraceStands runs s) (i : Fin 8) (x : Completion) :
    TraceStands runs (s.completeBuffer i x) := by
  unfold State.completeBuffer
  split
  next r hr =>
    obtain ⟨-, hpre, hpost⟩ := hs.filling i r hr
    exact TraceStands.same (s := s.setBuffer i (.complete r x))
      (hs.put hr nofun nofun fun r' x' h => by cases h; exact ⟨hpre, Nat.le_of_lt hpost⟩) rfl
  all_goals exact hs

/-- R141: the window's record completes, and no record fills for it. -/
theorem TraceStands.completeFilling (hs : TraceStands runs s) (w : Window) (x : Completion) :
    TraceStands (fun v => runs v && decide (v ≠ w)) (s.completeFilling w x) := by
  unfold State.completeFilling
  split
  next i hi =>
    obtain ⟨r, hr, hw⟩ := State.fillingBuffer_some hi
    refine (hs.completeBuffer i x).widen fun j r' hj => ?_
    have hold : j ≠ i ∧ s.bufferAt j = .filling r' := by
      rw [State.completeBuffer_filling hr x] at hj
      change (s.setBuffer i (.complete r x)).bufferAt j = _ at hj
      rw [State.setBuffer_bufferAt] at hj
      split at hj
      · cases hj
      next h => exact ⟨h, hj⟩
    obtain ⟨hne, hj'⟩ := hold
    have hwindow : r'.window ≠ w := fun h => hne (hs.alone j i r' r hj' hr (h.trans hw.symm))
    simp [(hs.filling j r' hj').1, hwindow]
  next hnone =>
    exact hs.widen fun j r hj => by simp [(hs.filling j r hj).1, State.fillingBuffer_none hnone hj]

/-! ### Rings, triggers and samples (R137 to R141) -/

theorem TraceStands.setRing (hs : TraceStands runs s) (w : Window) {l : List Sample} (hl : l.length ≤ 16) :
    TraceStands runs (s.setRing w l) :=
  { hs with
    rings := fun v => by
      by_cases h : v = w
      · rw [h]
        show ((s.trace.rings.set w l).get w).length ≤ 16
        rwa [Windows.get_set_self]
      · show ((s.trace.rings.set w l).get v).length ≤ 16
        rw [Windows.get_set_ne _ _ _ _ h]
        exact hs.rings v }

theorem ringAdd_length (l : List Sample) (x : Sample) : (State.ringAdd l x).length ≤ 16 := by
  unfold State.ringAdd
  rw [List.length_drop]
  omega

/-- R139, step 4: a FREE buffer takes the record of a window that fills none. -/
theorem TraceStands.opened (hs : TraceStands runs s) {r : TraceRec} (hfree : s.bufferAt i = .free)
    (hnone : ∀ j r', s.bufferAt j = .filling r' → r'.window ≠ r.window) (hpre : r.pre.length ≤ 16) (hpost : r.post = [])
    (ht : t.trace = { s.trace with
      buffers := s.trace.buffers.set i.val (.filling r) i.isLt, captures := s.trace.captures ++ [i] }) :
    TraceStands (fun v => runs v || decide (v = r.window)) t := by
  have hbuffer : ∀ j, t.bufferAt j = (s.setBuffer i (.filling r)).bufferAt j := fun j => by
    rw [State.bufferAt, ht]
    rfl
  have hother : ∀ j, j ≠ i → t.bufferAt j = s.bufferAt j := fun j hj => by
    rw [hbuffer, State.setBuffer_bufferAt, if_neg hj]
  have hself : t.bufferAt i = .filling r := by rw [hbuffer, State.setBuffer_bufferAt, if_pos rfl]
  have hnotlisted : i ∉ s.trace.captures := by
    rw [hs.listed, (s.isFree_iff i).mpr hfree]
    nofun
  refine ⟨by rw [ht]; exact hs.rings, ?_, fun j => ?_, fun j r' hj => ?_, fun j k r' r'' hj hk h => ?_, fun j r' x hj => ?_,
    fun c hc => ?_⟩
  · rw [ht]
    exact List.nodup_append.mpr ⟨hs.once, by simp, by simpa using fun j hj (h : j = i) => hnotlisted (h ▸ hj)⟩
  · rw [ht, List.mem_append, List.mem_singleton, hs.listed, ← Bool.not_eq_true, ← Bool.not_eq_true, State.isFree_iff,
      State.isFree_iff]
    by_cases h : j = i
    · subst h
      simp [hself]
    · simp [hother j h, h]
  · by_cases h : j = i
    · subst h
      cases hself.symm.trans hj
      exact ⟨by simp, hpre, by simp [hpost]⟩
    · obtain ⟨hrun, hlengths⟩ := hs.filling j r' (hother j h ▸ hj)
      exact ⟨by simp [hrun], hlengths⟩
  · by_cases hji : j = i <;> by_cases hki : k = i
    · rw [hji, hki]
    · subst hji
      cases hself.symm.trans hj
      exact absurd h.symm (hnone k r'' (hother k hki ▸ hk))
    · subst hki
      cases hself.symm.trans hk
      exact absurd h (hnone j r' (hother j hji ▸ hj))
    · exact hs.alone j k r' r'' (hother j hji ▸ hj) (hother k hki ▸ hk) h
  · by_cases h : j = i
    · subst h
      cases hself.symm.trans hj
    · exact hs.complete j r' x (hother j h ▸ hj)
  · rw [ht] at hc
    have hold := hs.cursor c hc
    rw [State.isComplete_iff] at hold ⊢
    by_cases h : c.buffer = i
    · rw [h, hfree] at hold
      simp at hold
    · rwa [hother _ h]

theorem TraceStands.openRecord (hs : TraceStands s.runsAt s) (hfree : s.bufferAt i = .free)
    (hnone : ∀ j r, s.bufferAt j = .filling r → r.window ≠ w) (k : TriggerKind) (n : Nat) :
    TraceStands s.runsAt (s.openRecord i w k n) := by
  unfold State.openRecord
  extract_lets r filled before listed
  have hlisted : TraceStands (fun v => s.runsAt v || decide (v = w)) listed :=
    hs.opened (r := r) hfree hnone (hs.rings w) rfl rfl
  have hself : listed.bufferAt i = .filling r := (State.setBuffer_bufferAt ..).trans (if_pos rfl)
  split
  next hrun =>
    refine hlisted.widen fun j r' hj => ?_
    have hruns := (hlisted.filling j r' hj).1
    by_cases h : r'.window = w
    · rw [h]
      exact hrun
    · simpa [h] using hruns
  next =>
    refine (hlisted.completeBuffer i .stopped).widen fun j r' hj => ?_
    rw [State.completeBuffer_filling hself] at hj
    change (listed.setBuffer i (.complete r .stopped)).bufferAt j = _ at hj
    rw [State.setBuffer_bufferAt] at hj
    split at hj
    · cases hj
    next h =>
      have hruns := (hlisted.filling j r' hj).1
      have hwindow : r'.window ≠ w := fun hw => h (hlisted.alone j i r' r hj hself hw)
      simpa [hwindow] using hruns

theorem State.triggerRefusal_none (h : s.triggerRefusal w = none) : s.firstFree ≠ none := by
  unfold State.triggerRefusal at h
  split at h
  · cases h
  · split at h
    · cases h
    next hno => simpa using hno

/-- Completing a record leaves the FREE buffers FREE. -/
theorem State.completeFilling_free (h : s.bufferAt i = .free) (w : Window) (x : Completion) :
    (s.completeFilling w x).bufferAt i = .free := by
  unfold State.completeFilling
  split
  next j hj =>
    obtain ⟨r, hr, -⟩ := State.fillingBuffer_some hj
    rw [State.completeBuffer_filling hr]
    show (s.setBuffer j _).bufferAt i = _
    rw [State.setBuffer_bufferAt, if_neg (fun hij => by rw [← hij, h] at hr; cases hr)]
    exact h
  next => exact h

theorem TraceStands.trigger (hs : TraceStands s.runsAt s) (w : Window) (k : TriggerKind) :
    TraceStands s.runsAt (s.trigger w k) := by
  have hadvanced : TraceStands s.runsAt s.advanceSequence :=
    ⟨hs.rings, hs.once, hs.listed, hs.filling, hs.alone, hs.complete, hs.cursor⟩
  unfold State.trigger
  dsimp only
  split
  · exact hadvanced.same rfl
  · exact hadvanced
  next i _ hfree =>
    have hcompleted := hadvanced.completeFilling w .overlap
    have hframe := State.completeFilling_only s.advanceSequence w .overlap
    have hruns : (s.advanceSequence.completeFilling w .overlap).runsAt = s.runsAt := by
      funext v
      rw [State.runsAt, State.winRec, hframe.same .win (by decide)]
      rfl
    have hstands : TraceStands s.runsAt (s.advanceSequence.completeFilling w .overlap) :=
      hcompleted.widen fun j r hj => (Bool.and_eq_true_iff.mp (hcompleted.filling j r hj).1).1
    rw [← hruns] at hstands ⊢
    refine hstands.openRecord (State.completeFilling_free (s := s.advanceSequence)
      (State.firstFree_some (s := s) hfree) w .overlap) (fun j r hj => ?_) k _
    simpa using (Bool.and_eq_true_iff.mp (hcompleted.filling j r hj).1).2

theorem TraceStands.addSample (hs : TraceStands runs s) (w : Window) (x : Sample) : TraceStands runs (s.addSample w x) := by
  unfold State.addSample
  extract_lets ringed
  have hringed : TraceStands runs ringed := hs.setRing w (ringAdd_length _ x)
  split
  · exact hringed
  next i _ =>
    split
    next r hr =>
      obtain ⟨-, hpre, hpost⟩ := hringed.filling i r hr
      have hlength : (r.post ++ [x]).length = r.post.length + 1 := List.length_append
      split
      next =>
        rw [State.completeBuffer_filling (r := { r with post := r.post ++ [x] })
          ((State.setBuffer_bufferAt ..).trans (if_pos rfl))]
        have hput : TraceStands runs (ringed.setBuffer i (.complete { r with post := r.post ++ [x] } .eight)) :=
          hringed.put hr nofun nofun fun r' y h => by
            cases h
            exact ⟨hpre, by simpa using Nat.succ_le_of_lt hpost⟩
        refine hput.same ?_
        show TraceStore.mk _ _ _ _ _ _ = TraceStore.mk _ _ _ _ _ _
        simp only [TraceStore.mk.injEq]
        exact ⟨rfl, Vector.set_set .., rfl, rfl, rfl, rfl⟩
      next hmore =>
        refine hringed.put hr nofun (fun r' h => ?_) nofun
        cases h
        exact ⟨rfl, hpre, by rw [hlength]; omega⟩
    all_goals exact hringed

end Store

end Sys2Proof.Machine
end

section
/-! The trace law over the whole part (R137 to R147), and the statement that every step keeps it. -/

namespace Sys2Proof.Machine
open Sys2Proof

section Motions
variable {s t : State}

theorem traceLaw_restsOn : RestsOn [.trace, .win] TraceLaw := fun s t h hs => by
  have htrace : t.trace = s.trace := h .trace (by decide)
  have hwin : t.win = s.win := h .win (by decide)
  rw [traceLaw_iff] at hs ⊢
  have hruns : t.runsAt = s.runsAt := by
    funext w
    rw [State.runsAt, State.winRec, hwin]
    rfl
  rw [hruns]
  exact hs.same htrace

theorem TraceLaw.only (hs : TraceLaw s) {ps : List Part} (h : Only ps s t)
    (hd : [Part.trace, .win].all (fun x => !ps.contains x) = true := by rfl) : TraceLaw t :=
  traceLaw_restsOn.only h hd hs

/-- The windows that ran run on, and the store stays. -/
theorem TraceLaw.ease (hs : TraceLaw s) (htrace : t.trace = s.trace) (hruns : ∀ w, s.runsAt w = true → t.runsAt w = true) :
    TraceLaw t := by
  rw [traceLaw_iff] at hs ⊢
  exact (hs.same htrace).widen fun i r hi => hruns _ (hs.filling i r (by rwa [State.bufferAt, htrace] at hi)).1

theorem TraceLaw.records (hs : TraceLaw s) (htrace : t.trace = s.trace) (hrecs : t.win.recs = s.win.recs) : TraceLaw t :=
  hs.ease htrace fun w h => by rwa [State.runsAt, State.winRec, hrecs]

theorem TraceLaw.setWin (hs : TraceLaw s) (w : Window) {r : WindowRec}
    (h : (s.winRec w).motion.running = true → r.motion.running = true) : TraceLaw (s.setWin w r) := by
  refine hs.ease rfl fun v hv => ?_
  unfold State.runsAt at hv ⊢
  rw [State.setWin_winRec]
  split
  next hvw =>
    rw [hvw] at hv
    exact h hv
  next => exact hv

/-- A record written with the same motion. -/
theorem TraceLaw.record (hs : TraceLaw s) (w : Window) {r : WindowRec} (h : r.motion = (s.winRec w).motion := by rfl) :
    TraceLaw (s.setWin w r) := hs.setWin w fun hrun => h ▸ hrun

theorem TraceLaw.trigger (hs : TraceLaw s) (w : Window) (k : TriggerKind) : TraceLaw (s.trigger w k) := by
  rw [traceLaw_iff] at hs ⊢
  have hruns : (s.trigger w k).runsAt = s.runsAt := by
    funext v
    rw [State.runsAt, State.winRec, (State.trigger_only s w k).same .win (by decide)]
    rfl
  rw [hruns]
  exact hs.trigger w k

/-! ### Motion of a window -/

theorem TraceLaw.stopMotion (hs : TraceLaw s) (w : Window) (m : Motion) (braked : Bool) (x : Completion) :
    TraceLaw (s.stopMotion w m braked x) := by
  have hone := OnlyWindow.stopMotion s w m braked x
  rw [traceLaw_iff] at hs ⊢
  have hcompleted : ∀ t : State, t.trace = s.trace → TraceStands (fun v => s.runsAt v && decide (v ≠ w)) (t.completeFilling w x) :=
    fun t ht => (hs.same ht).completeFilling w x
  suffices hstops : TraceStands (fun v => s.runsAt v && decide (v ≠ w)) (s.stopMotion w m braked x) by
    refine hstops.widen fun i r hi => ?_
    obtain ⟨hruns, hne⟩ := Bool.and_eq_true_iff.mp (hstops.filling i r hi).1
    rw [State.runsAt, hone.recs _ (by simpa using hne)]
    exact hruns
  unfold State.stopMotion
  dsimp only
  cases braked <;> exact hcompleted _ rfl

theorem TraceLaw.toIdle (hs : TraceLaw s) (w : Window) : TraceLaw (s.toIdle w) := hs.stopMotion w _ _ _

theorem TraceLaw.toDwell (hs : TraceLaw s) (w : Window) (p : Pending) : TraceLaw (s.toDwell w p) :=
  (hs.setWin w fun _ => rfl).records (t := s.toDwell w p) rfl rfl

theorem TraceLaw.launch (hs : TraceLaw s) (w : Window) (k : RunRec) : TraceLaw (s.launch w k) := by
  have hforgotten : TraceLaw (s.carryOutForget w) := hs.only (State.carryOutForget_only s w)
  unfold State.launch State.driveRun
  generalize s.carryOutForget w = t at hforgotten
  extract_lets c started pinched
  have hpinched : TraceLaw pinched :=
    (hforgotten.setWin w fun _ => rfl : TraceLaw started).only (State.setPinch_only started w _)
  have hringed : TraceLaw (pinched.setRing w []) := by
    rw [traceLaw_iff] at hpinched ⊢
    exact hpinched.setRing w (Nat.zero_le _)
  exact ((hringed.only (State.startStroke_only _ w k.dir c)).only (State.setChan_only _ _ _))

theorem TraceLaw.startRun (hs : TraceLaw s) (w : Window) (dir : Dir) (kind : RunKind) (holder : RunHolder) :
    TraceLaw (s.startRun w dir kind holder) := by
  rw [State.startRun_eq]
  split
  · exact (hs.launch w _).toIdle w
  · exact hs.launch w _

theorem TraceLaw.startReverse (hs : TraceLaw s) (w : Window) (x : Int) : TraceLaw (s.startReverse w x) := by
  have hstarted : TraceLaw (s.setWin w (State.startedRec (s.winRec w) (.reverse x) .down s.now)) := hs.setWin w fun _ => rfl
  exact (hstarted.only (State.setPinch_only _ w _)).only (State.setChan_only _ _ _)

theorem TraceLaw.setAwait (hs : TraceLaw s) (w : Window) (x : RunHolder) (v : Bool) : TraceLaw (s.setAwait w x v) := by
  cases x with
  | panel | localSw => exact hs.record w
  | comfortB | comfortK _ => exact hs

theorem TraceLaw.tap (hs : TraceLaw s) (w : Window) (x : RunHolder) : TraceLaw (s.tap w x) := (hs.toIdle w).setAwait w x true

theorem TraceLaw.press (hs : TraceLaw s) (w : Window) (x : RunHolder) (prev pos : SwitchPos) :
    TraceLaw (s.press w x prev pos) := by
  unfold State.press
  split
  · exact hs
  dsimp only
  split
  · exact hs.startRun w _ _ _
  · split
    · split
      · exact hs.setWin w fun _ => rfl
      · exact hs.toDwell w _
    all_goals
      split
      · exact hs
      · exact hs.tap w x
  · split
    · exact hs.setWin w fun _ => rfl
    all_goals
      split
      · exact hs
      · exact hs.tap w x
  all_goals exact hs

theorem TraceLaw.neutral (hs : TraceLaw s) (w : Window) (x : RunHolder) : TraceLaw (s.neutral w x) := by
  unfold State.neutral
  dsimp only
  split
  · exact (hs.setAwait w x false).toIdle w
  · exact hs.setAwait w x false

theorem TraceLaw.endHeld (hs : TraceLaw s) (f : RunHolder → Bool) (w : Window) : TraceLaw (s.endHeld f w) := by
  unfold State.endHeld
  split
  · exact hs.toIdle w
  · exact hs

theorem TraceLaw.endHeldAll (hs : TraceLaw s) (f : RunHolder → Bool) : TraceLaw (s.endHeldAll f) :=
  foldl_keeps (fun _ w h => h.endHeld f w) _ hs

theorem TraceLaw.comfortOn (hs : TraceLaw s) (w : Window) (dir : Dir) (h : RunHolder) : TraceLaw (s.comfortOn w dir h) := by
  unfold State.comfortOn
  split
  · unfold State.comfortStart
    dsimp only
    split
    · exact hs.startRun w _ _ _
    · split
      · exact hs.setWin w fun _ => rfl
      · exact hs.toDwell w _
    · exact hs.setWin w fun _ => rfl
    all_goals exact hs
  · exact hs

/-! ### Pinches, stalls and pulses -/

theorem TraceLaw.takePinch (hs : TraceLaw s) (w : Window) (x : PinchCause) (p : Int) : TraceLaw (s.takePinch w x p) := by
  unfold State.takePinch
  extract_lets c marked dwelling r count counted raised
  have hdwelling : TraceLaw dwelling := TraceLaw.toDwell (s := marked) (hs.only (State.markStroke_only s w _)) w _
  have hcounted : TraceLaw counted := hdwelling.record w
  exact (hcounted.only (State.raiseWindowEvent_only counted w _)).trigger w _

theorem TraceLaw.unexpectedStall (hs : TraceLaw s) (w : Window) : TraceLaw (s.unexpectedStall w) :=
  ((hs.toIdle w).only (State.raiseWindowEvent_only _ w _)).trigger w _

theorem TraceLaw.bottomReached (hs : TraceLaw s) (w : Window) : TraceLaw (s.bottomReached w) := by
  unfold State.bottomReached
  extract_lets r full counted
  have hcounted : TraceLaw counted := by
    unfold counted
    split
    · exact hs.record w
    · exact hs
  exact hcounted.toIdle w

theorem TraceLaw.topStop (hs : TraceLaw s) (w : Window) (p : Int) : TraceLaw (s.topStop w p) := by
  unfold State.topStop
  extract_lets before placed
  have hplaced : TraceLaw placed := hs.record w
  exact (hplaced.only (State.judgeStroke_only placed w)).toIdle w

theorem TraceLaw.normalise (hs : TraceLaw s) (w : Window) : TraceLaw (s.normalise w) := by
  unfold State.normalise
  extract_lets before placed
  have hplaced : TraceLaw placed := hs.record w
  exact ((hplaced.toIdle w).only (State.raiseWindowEvent_only _ w _)).only (State.raiseContextChanged_only _ w)

theorem TraceLaw.takeStall (hs : TraceLaw s) (w : Window) : TraceLaw (s.takeStall w) := by
  unfold State.takeStall
  dsimp only
  split
  · exact hs
  · repeat' split
    · exact hs.topStop w _
    · exact hs.takePinch w _ _
    · exact hs.unexpectedStall w
  · exact hs.normalise w
  · split
    · exact hs.bottomReached w
    · exact hs.unexpectedStall w
  · exact hs.toIdle w

theorem TraceLaw.loseNormalisation (hs : TraceLaw s) (w : Window) : TraceLaw (s.loseNormalisation w) := by
  unfold State.loseNormalisation
  extract_lets before lost marked stopped
  have hlost : TraceLaw lost := hs.record w
  have hmarked : TraceLaw marked := hlost.only (State.markStroke_only lost w _)
  have hstopped : TraceLaw stopped := by
    unfold stopped
    split
    · exact hmarked.toIdle w
    all_goals exact hmarked
  exact (hstopped.only (State.raiseWindowEvent_only _ w _)).only (State.raiseContextChanged_only _ w)

theorem TraceLaw.count (hs : TraceLaw s) (w : Window) (dir : Dir) (p : Int) : TraceLaw (s.count w dir p) := by
  unfold State.count
  cases dir with
  | up =>
    dsimp only
    split
    · exact hs.loseNormalisation w
    · exact hs.record w
  | down =>
    dsimp only
    split
    · exact TraceLaw.bottomReached (hs.record w) w
    · exact hs.record w

theorem TraceLaw.ripple (hs : TraceLaw s) (w : Window) : TraceLaw (s.ripple w) := by
  have htimed : TraceLaw (s.pulseTiming w) := hs.only (State.pulseTiming_only s w)
  unfold State.ripple
  extract_lets timed before pulsed r
  have hpulsed : TraceLaw pulsed := htimed.record w
  split
  · exact hpulsed.count w _ _
  · exact hpulsed

theorem TraceLaw.endDwell (hs : TraceLaw s) (w : Window) : TraceLaw (s.endDwell w) := by
  unfold State.endDwell
  dsimp only
  split
  · split
    · exact hs.startRun w _ _ _
    · exact hs.toIdle w
  · exact hs.startReverse w _
  all_goals exact hs

/-! ### Causes and soft reset -/

theorem TraceLaw.addCause (hs : TraceLaw s) (w : Window) (k : Cause) : TraceLaw (s.addCause w k) := by
  unfold State.addCause
  extract_lets r caused
  have hcaused : TraceLaw caused := hs.record w
  split
  · exact hcaused
  · exact hcaused.stopMotion w _ _ _

theorem TraceLaw.removeCause (hs : TraceLaw s) (w : Window) (k : Cause) : TraceLaw (s.removeCause w k) := by
  refine hs.setWin w fun hrun => ?_
  dsimp only
  split
  next hm =>
    obtain ⟨hinhibited, -⟩ : (s.winRec w).motion = .inhibited ∧ _ := by simpa using hm
    rw [hinhibited] at hrun
    cases hrun
  next => exact hrun

theorem TraceLaw.addCauseAll (hs : TraceLaw s) (k : Cause) : TraceLaw (s.addCauseAll k) :=
  foldl_keeps (fun _ w h => h.addCause w k) _ hs

theorem TraceLaw.removeCauseAll (hs : TraceLaw s) (k : Cause) : TraceLaw (s.removeCauseAll k) :=
  foldl_keeps (fun _ w h => h.removeCause w k) _ hs

theorem TraceLaw.softStop (hs : TraceLaw s) (w : Window) : TraceLaw (s.softStop w) := by
  unfold State.softStop
  extract_lets r stopped
  refine TraceLaw.record (s := stopped) ?_ w
  unfold stopped
  split
  · exact hs.stopMotion w _ _ _
  · exact TraceLaw.only (s := s.setWin w { r with brake := none }) (hs.record w) (State.setChan_only _ _ _)

/-! ### Timers, frames and samples of a window -/

theorem TraceLaw.reach (hs : TraceLaw s) (n : Nat) : TraceLaw (s.reach n) := hs.only (State.reach_only s n)

theorem TraceLaw.stallEnd (hs : TraceLaw s) (w : Window) : TraceLaw (s.stallEnd w) := by
  unfold State.stallEnd
  dsimp only
  split
  · split
    · exact (hs.reach _).record w
    · exact TraceLaw.takeStall ((hs.reach _).record w) w
  · exact hs

theorem TraceLaw.startEnd (hs : TraceLaw s) (w : Window) : TraceLaw (s.startEnd w) := by
  unfold State.startEnd
  dsimp only
  split
  · split
    · exact TraceLaw.takeStall ((hs.reach _).record w) w
    · exact (hs.reach _).record w
  · exact hs

theorem TraceLaw.dwellExpiry (hs : TraceLaw s) (w : Window) : TraceLaw (s.dwellExpiry w) := by
  unfold State.dwellExpiry
  split
  · exact (hs.reach _).endDwell w
  · exact hs

theorem TraceLaw.brakeExpiry (hs : TraceLaw s) (w : Window) : TraceLaw (s.brakeExpiry w) := by
  unfold State.brakeExpiry
  split
  next n _ =>
    have hended : TraceLaw ((s.reach n).setWin w { (s.reach n).winRec w with brake := none }) := (hs.reach n).record w
    exact hended.only (State.setChan_only _ _ _)
  next => exact hs

theorem TraceLaw.panelExpiry (hs : TraceLaw s) (w : Window) : TraceLaw (s.panelExpiry w) := by
  unfold State.panelExpiry
  dsimp only
  split
  · exact TraceLaw.neutral ((hs.reach _).record w) w _
  · exact hs

theorem TraceLaw.panelFrame (hs : TraceLaw s) (w : Window) (pos : SwitchPos) : TraceLaw (s.panelFrame w pos).state := by
  have hrecorded : TraceLaw (s.recordPanel w pos) := by
    unfold State.recordPanel
    dsimp only
    split <;> exact hs.record w
  unfold State.panelFrame
  dsimp only
  split
  · exact hrecorded.neutral w _
  · dsimp only
    split
    · exact hrecorded.press w _ _ _
    · exact hrecorded

theorem TraceLaw.localEvent (hs : TraceLaw s) (w : Window) (prev pos : SwitchPos) : TraceLaw (s.localEvent w prev pos) := by
  unfold State.localEvent
  repeat' split
  · exact hs.neutral w _
  · exact hs
  · exact hs.press w _ _ _

theorem TraceLaw.forget (hs : TraceLaw s) (w : Window) (x : ForgetWhat) : TraceLaw (s.forget w x) := by
  have hrefs : TraceLaw (s.forgetReferences w) := hs.only (State.forgetReferences_only s w)
  cases x with
  | references => exact hrefs
  | normalisation => exact hs.record w
  | both => exact hrefs.record w

theorem TraceLaw.restore (hs : TraceLaw s) (x : State.Restore) : TraceLaw (s.restore x) :=
  TraceLaw.record (hs.only (State.setRefs_only s x.window _)) x.window

theorem TraceLaw.withdraw (hs : TraceLaw s) (ch : Channel) : TraceLaw (s.withdraw ch) := by
  have hoff : ∀ x, TraceLaw ((s.offChan ch).setChan ch x) := fun x =>
    (hs.only (State.setChan_only s ch _)).only (State.setChan_only _ ch x)
  unfold State.withdraw
  split
  · exact hs
  · cases ch with
    | w w => exact (hoff _).addCause w .fault
    | act a => exact hoff _

theorem TraceLaw.faultFound (hs : TraceLaw s) (ch : Channel) (k : DetectKind) : TraceLaw (s.faultFound ch k) :=
  hs.only (State.faultFound_only s ch k)

theorem TraceLaw.detectOvercurrent (hs : TraceLaw s) (ch : Channel) : TraceLaw (s.detectOvercurrent ch) := by
  have hwithdrawn : TraceLaw (((s.faultFound ch .overcurrent).offChan ch).withdraw ch) :=
    ((hs.faultFound ch _).only (State.setChan_only _ ch _)).withdraw ch
  unfold State.detectOvercurrent
  dsimp only
  cases ch with
  | w w =>
    dsimp only
    split
    · exact hwithdrawn.trigger w _
    · exact hwithdrawn
  | act a => exact hwithdrawn.only (State.overcurrentEnd_only _ a)

theorem TraceLaw.testOff (hs : TraceLaw s) (ch : Channel) (f : Finding) : TraceLaw (s.testOff ch f) := by
  have hjudge : ∀ {t : State}, TraceLaw t → ∀ k held clean, TraceLaw (t.judgeShort ch k held clean) := by
    intro t ht k held clean
    unfold State.judgeShort
    repeat' split
    · exact (ht.faultFound ch k).withdraw ch
    · exact ht.only (State.setChan_only t ch _)
    · exact ht
    · exact ht
  unfold State.testOff
  dsimp only
  split
  · exact hjudge (hjudge hs _ _ _) _ _ _
  · exact hs

theorem TraceLaw.clearChan (hs : TraceLaw s) (ch : Channel) : TraceLaw (s.clearChan ch) := by
  have hcleared := hs.only (State.setChan_only s ch (State.cleared (s.chan ch)))
  unfold State.clearChan
  cases ch with
  | w w =>
    dsimp only
    split
    · exact hcleared.removeCause w .fault
    · exact hcleared
  | act a => exact hcleared

theorem TraceLaw.takeDeclared (hs : TraceLaw s) (w : Window) (p : Option Int) : TraceLaw (s.takeDeclared w p) := by
  unfold State.takeDeclared
  repeat' split
  · exact hs.takePinch w _ _
  · exact hs
  · exact hs

theorem TraceLaw.addSample (hs : TraceLaw s) (w : Window) (x : Sample) : TraceLaw (s.addSample w x) := by
  rw [traceLaw_iff] at hs ⊢
  have hruns : (s.addSample w x).runsAt = s.runsAt := by
    funext v
    rw [State.runsAt, State.winRec, (State.addSample_only s w x).same .win (by decide)]
    rfl
  rw [hruns]
  exact hs.addSample w x

theorem TraceLaw.sampleOutcome (hs : TraceLaw s) (w : Window) (p : Option Int) (pinch jam : Bool) :
    TraceLaw (s.sampleOutcome w p pinch jam) := by
  have hcounted : TraceLaw { s with freeCount := s.freeCount + 1 } := hs.only (Only.freeCount s _)
  unfold State.sampleOutcome
  split
  · exact hs
  · exact hs.takeDeclared w _
  · exact hs.detectOvercurrent _
  · dsimp only
    split
    · exact (hcounted.takeDeclared w _).detectOvercurrent _
    · exact (hcounted.detectOvercurrent _).takeDeclared w _

theorem TraceLaw.sample (hs : TraceLaw s) (w : Window) (i v : Nat) : TraceLaw (s.sample w i v) := by
  unfold State.sample
  split
  · exact hs
  · extract_lets ic x pinch jam computed fed sampled
    have hfed : TraceLaw fed :=
      (hs.only (State.setPinch_only s w _) : TraceLaw computed).only (State.feedStroke_only computed w x)
    have hsampled : TraceLaw sampled := (hfed.only (State.countCurrent_only fed _ _)).addSample w x
    exact hsampled.sampleOutcome w _ _ _

end Motions

end Sys2Proof.Machine
end

section
/-! What every command keeps of the windows' records, pinch states, references, traces and settings: a property that the
operations on one window keep is kept by the operations built from them. -/

namespace Sys2Proof.Machine
open Sys2Proof

/-- The property speaks of the windows, the trace store and the configuration alone, and the operations on one window, the
requests of the trace store and of the configuration, and the full resets keep it. -/
structure Kept (P : State → Prop) : Prop where
  only : ∀ {ps s t}, Only ps s t → [Part.win, .pinch, .refs, .trace, .config].all (fun x => !ps.contains x) = true →
    P s → P t
  settings : ∀ (s : State) (x : WindowCtl), x.recs = s.win.recs → P s → P { s with win := x }
  endHeld : ∀ (s : State) f w, P s → P (s.endHeld f w)
  comfortOn : ∀ (s : State) w dir h, P s → P (s.comfortOn w dir h)
  panelFrame : ∀ (s : State) w pos, P s → P (s.panelFrame w pos).state
  localEvent : ∀ (s : State) w prev pos, P s → P (s.localEvent w prev pos)
  addCause : ∀ (s : State) w k, P s → P (s.addCause w k)
  removeCause : ∀ (s : State) w k, P s → P (s.removeCause w k)
  markStroke : ∀ (s : State) w f, P s → P (s.markStroke w f)
  softStop : ∀ (s : State) w, P s → P (s.softStop w)
  ripple : ∀ (s : State) w, P s → P (s.ripple w)
  sample : ∀ (s : State) w i v, P s → P (s.sample w i v)
  startEnd : ∀ (s : State) w, P s → P (s.startEnd w)
  stallEnd : ∀ (s : State) w, P s → P (s.stallEnd w)
  dwellExpiry : ∀ (s : State) w, P s → P (s.dwellExpiry w)
  brakeExpiry : ∀ (s : State) w, P s → P (s.brakeExpiry w)
  panelExpiry : ∀ (s : State) w, P s → P (s.panelExpiry w)
  detectOvercurrent : ∀ (s : State) ch, P s → P (s.detectOvercurrent ch)
  testOff : ∀ (s : State) ch f, P s → P (s.testOff ch f)
  clearChan : ∀ (s : State) ch, P s → P (s.clearChan ch)
  judgeRestore : ∀ (s : State) content, P s → P (s.judgeRestore content).state
  forget : ∀ (s : State) w x, P s → P (s.forget w x)
  trace : ∀ k ∈ [Kind.traceTrigger, .traceRead, .traceRewind, .traceClear, .timeTagReset], ∀ p tag q s, P s →
    P (ownerOf k p tag q s).state
  config : ∀ k ∈ [Kind.configWrite, .configFreeze], ∀ p tag q s, P s → P (ownerOf k p tag q s).state
  fullReset : ∀ s : State, P s.fullReset

/-- While the reset line is asserted nothing changes; otherwise what the operation keeps is kept. -/
theorem live_keeps {P : State → Prop} {s : State} {f : State → State} (hf : P s → P (f s)) (hs : P s) : P (s.live f) := by
  unfold State.live
  split
  · exact hs
  · exact hf hs

namespace Kept
variable {P : State → Prop} (hP : Kept P) {s t : State}
include hP

theorem endHeldAll (f : RunHolder → Bool) (hs : P s) : P (s.endHeldAll f) := foldl_keeps (fun t w h => hP.endHeld t f w h) _ hs

theorem stopRetained (hs : P s) : P s.stopRetained := by
  have hstopped : P { s with win := { s.win with retained := none } } := hP.settings s { s.win with retained := none } rfl hs
  unfold State.stopRetained
  dsimp only
  repeat' split
  · exact hP.endHeldAll _ hstopped
  · exact hstopped
  · exact hs

theorem endSession (hs : P s) : P s.endSession := by
  unfold State.endSession
  split
  · exact hP.endHeldAll _ (hP.only (State.setSession_only s none) rfl hs)
  · exact hs

theorem comfortAll (dir : Dir) (h : RunHolder) (hs : P s) : P (s.comfortAll dir h) :=
  foldl_keeps (fun t w ht => hP.comfortOn t w dir h ht) _ hs

theorem replaceSession (i : Fin 8) (d : ComfortDir) (hs : P s) : P (s.replaceSession i d) := by
  unfold State.replaceSession
  extract_lets ended
  refine hP.only (s := ended) (State.setSession_only _ _) rfl ?_
  unfold ended
  repeat' split
  · exact hs
  · exact hP.endHeldAll _ hs
  · exact hs

theorem offer (c : Command) (hs : P s) : P (s.offer c) := hP.only (State.offer_only s c) rfl hs

theorem fobAction (i : Fin 8) (x : FobAction) (tag : Byte) (hs : P s) : P (s.fobAction i x tag).state := by
  have hcomfort : ∀ d, P (s.comfortReply i d tag).state := by
    intro d
    unfold State.comfortReply
    split
    · exact hP.only (State.renewSession_only s) rfl hs
    · exact hP.replaceSession i d (hP.comfortAll _ _ (hP.offer _ hs))
  cases x with
  | lock | unlock => exact hP.offer _ hs
  | tailgate => exact hP.offer _ (hP.offer _ hs)
  | comfortClose | comfortOpen => exact hcomfort _
  | comfortStop => exact hP.endSession hs

theorem ownCredential (tag : Byte) (q : List Byte) (hs : P s) : P (State.ownCredential tag q s).state := by
  unfold State.ownCredential
  split
  next i x _ _ =>
    unfold State.credential
    split
    · exact hs
    · exact hs
    unfold State.judgeFrame
    generalize classify (s.slotAt i) s.now (fieldAt q 1 3) (some x) = v
    have hcounter := hP.only (State.applyCounter_only s i (fieldAt q 1 3) (some x) v) rfl hs
    cases v with
    | duplicate => exact hP.only (State.renewByDuplicate_only _ i x) rfl hcounter
    | stale | resyncNeeded => exact hcounter
    | accepted =>
      dsimp only
      split
      · exact hP.fobAction i x tag hcounter
      · exact hcounter
  next => exact hs

theorem writeFob (i : Fin 8) (f : FobSlot) (hs : P s) : P (s.writeFob i f) := by
  have hwritten := hP.only (State.setSlot_only s i f) rfl hs
  unfold State.writeFob
  dsimp only
  repeat' split
  · exact hP.endSession hwritten
  · exact hwritten
  · exact hwritten

theorem writeLockout (on : Bool) (hs : P s) : P (s.writeLockout on) := by
  have hwritten : P { s with win := { s.win with rearLockout := on } } := hP.settings s { s.win with rearLockout := on } rfl hs
  unfold State.writeLockout
  dsimp only
  split
  · exact hP.endHeld _ _ _ (hP.endHeld _ _ _ hwritten)
  · exact hwritten

theorem writeMode (m : VehicleMode) (hs : P s) : P (s.writeMode m) := by
  unfold State.writeMode
  extract_lets had before written
  have hwritten : P written := hP.settings s _ rfl hs
  split
  · exact hP.endHeldAll _ hwritten
  · exact hwritten

theorem addCauseAll (k : Cause) (hs : P s) : P (s.addCauseAll k) := foldl_keeps (fun t w h => hP.addCause t w k h) _ hs

theorem removeCauseAll (k : Cause) (hs : P s) : P (s.removeCauseAll k) := foldl_keeps (fun t w h => hP.removeCause t w k h) _ hs

theorem markAllStrokes (f : Marks → Marks) (hs : P s) : P (s.markAllStrokes f) :=
  foldl_keeps (fun t w h => hP.markStroke t w f h) _ hs

/-! ### Requests -/

theorem ownWindowRestore (q : List Byte) (hs : P s) : P (State.ownWindowRestore q s).state := by
  have hstaging : ∀ x, P (s.setStaging x) := fun x => hP.only (State.setStaging_only s x) rfl hs
  have hsegment : ∀ x, P (s.addSegment x).state := fun x => by
    unfold State.addSegment
    split
    · exact hP.judgeRestore _ _ (hstaging none)
    · exact hstaging _
  unfold State.ownWindowRestore
  dsimp only
  repeat' split
  · exact hs
  · exact hsegment _
  · exact hsegment _
  · exact hstaging none
  · exact hs

theorem owner (k : Kind) (p : Port) (tag : Byte) (q : List Byte) (s : State) (hs : P s) : P (ownerOf k p tag q s).state := by
  cases k with
  | credential => exact hP.ownCredential tag q hs
  | windowSwitch =>
    show P (State.ownWindowSwitch q s).state
    unfold State.ownWindowSwitch
    split
    · exact hP.panelFrame s _ _ hs
    · exact hs
  | rearLockout =>
    show P (State.ownRearLockout q s).state
    unfold State.ownRearLockout
    split
    · exact hP.writeLockout _ hs
    · exact hs
  | comfort =>
    show P (State.ownComfort q s).state
    unfold State.ownComfort
    split
    · exact hP.comfortAll _ _ hs
    · exact hP.comfortAll _ _ hs
    · exact hP.endHeldAll _ hs
    · exact hs
  | vehicleMode =>
    show P (State.ownVehicleMode q s).state
    unfold State.ownVehicleMode
    split
    · exact hP.writeMode _ hs
    · exact hs
  | crashClear =>
    show P (State.ownCrashClear q s).state
    unfold State.ownCrashClear
    split
    · show P s.clearCrash
      unfold State.clearCrash
      split
      · exact hP.removeCauseAll _ (hP.only (Only.crash s _) rfl hs)
      · exact hs
    · exact hs
  | windowRestore => exact hP.ownWindowRestore q hs
  | windowForget =>
    show P (State.ownWindowForget q s).state
    unfold State.ownWindowForget
    repeat' split
    · exact hs
    · exact hP.forget s _ _ hs
    · exact hs
  | traceTrigger => exact hP.trace .traceTrigger (by decide) p tag q s hs
  | traceRead => exact hP.trace .traceRead (by decide) p tag q s hs
  | traceRewind => exact hP.trace .traceRewind (by decide) p tag q s hs
  | traceClear => exact hP.trace .traceClear (by decide) p tag q s hs
  | timeTagReset => exact hP.trace .timeTagReset (by decide) p tag q s hs
  | clearFault =>
    show P (State.ownClearFault q s).state
    unfold State.ownClearFault
    repeat' split
    · exact hs
    · exact hP.clearChan s _ hs
    · exact hs
  | configWrite => exact hP.config .configWrite (by decide) p tag q s hs
  | configFreeze => exact hP.config .configFreeze (by decide) p tag q s hs
  | fobWrite =>
    show P (State.ownFobWrite q s).state
    unfold State.ownFobWrite
    repeat' split
    · exact hP.writeFob _ _ hs
    · exact hs
    · exact hs
  | _ => exact hP.only (ownerOf_only _ p tag q s) rfl hs

/-! ### Crash, temperature, supply, starts, lines and resets -/

theorem handTemp (old new : TempState) (hs : P s) : P (s.handTemp old new) := by
  unfold State.handTemp
  split
  case h_4 | h_5 => exact hP.only (State.thermalAborts_only _) rfl (hP.addCauseAll _ hs)
  case h_6 => exact hP.removeCauseAll _ hs
  case h_7 => exact hP.markAllStrokes _ (hP.removeCauseAll _ hs)
  case h_8 => exact hP.markAllStrokes _ hs
  all_goals exact hs

theorem measureTemp (d : Int) (hs : P s) : P (s.measureTemp d) := by
  unfold State.measureTemp
  extract_lets old new before measured flagged
  have hmeasured : P measured := hP.only (Only.mon s _) rfl hs
  have hflagged : P flagged := hP.only (State.setFlags_only measured _) rfl hmeasured
  split
  · exact hflagged
  · exact hP.handTemp old new (hP.only (State.raiseThermal_only flagged) rfl hflagged)

theorem handSupply (old new : SupplyState) (hs : P s) : P (s.handSupply old new) := by
  unfold State.handSupply
  split
  case h_4 | h_5 => exact hP.only (State.dropPulses_only _) rfl (hP.addCauseAll _ hs)
  case h_6 => exact hP.only (State.resumePulses_only _) rfl (hP.removeCauseAll _ hs)
  case h_7 => exact hP.only (State.resumePulses_only _) rfl (hP.markAllStrokes _ (hP.removeCauseAll _ hs))
  case h_8 => exact hP.markAllStrokes _ hs
  all_goals exact hs

theorem measureSupply (v : Nat) (hs : P s) : P (s.measureSupply v) := by
  unfold State.measureSupply
  extract_lets old new before measured flagged
  have hmeasured : P measured := hP.only (Only.mon s _) rfl hs
  have hflagged : P flagged := hP.only (State.setFlags_only measured _) rfl hmeasured
  split
  · exact hflagged
  · exact hP.handSupply old new (hP.only (State.raiseSupply_only flagged) rfl hflagged)

theorem crashEvent (hs : P s) : P s.crashEvent := by
  unfold State.crashEvent
  split
  · have hcaused : P (s.raiseCrash.addCauseAll .crash) := hP.addCauseAll _ (hP.only (State.raiseCrash_only s) rfl hs)
    exact hP.only (State.refreshCrash_only _) rfl (hP.only (State.returnChild_only _) rfl hcaused)
  · unfold State.firstCrash
    extract_lets before latched cleared crashed
    have hlatched : P latched := hP.only (Only.crash s _) rfl hs
    have hcleared : P cleared :=
      hP.only (State.setRelock_only _ none) rfl (hP.only (State.returnChild_only _) rfl
        (hP.only (State.clearRunningLock_only _) rfl (hP.only (State.clearPending_only latched) rfl hlatched)))
    have hcaused := hP.addCauseAll .crash (hP.only (State.crashGoals_only cleared) rfl hcleared)
    have hcrashed : P crashed := hP.only (State.raiseCrash_only _) rfl hcaused
    exact hP.only (Only.foldl (fun t c => State.createCrash_only t c) _ crashed) rfl hcrashed

theorem startHead (hs : P s) : P s.startHead := by
  have hkind : ∀ (t : State) k e, P t → P (t.startKind k e) := fun t k e ht => by
    cases k with
    | childSet r st =>
      show P (t.startChild r st)
      unfold State.startChild
      extract_lets written locked v
      have hwritten : P written := hP.only (State.writeChildGoal_only t r st) rfl ht
      have hlocked : P locked := by
        unfold locked
        split
        · exact hP.endHeld _ _ _ hwritten
        · exact hwritten
      split
      · exact hP.only (State.setOp_only _ _ _) rfl hlocked
      · exact hlocked
    | releaseTailgate =>
      exact hP.only (State.relockAtStart_only _ _ _) rfl (hP.only (State.startRelease_only t _) rfl ht)
    | lockAll | superlockAll | unlockAll | unlockDriver | unlockOne _ | unlockTailgate =>
      exact hP.only (State.relockAtStart_only _ _ _) rfl
        (foldl_keeps (fun t c h => hP.only (State.startOn_only _ _ t c) rfl h) _ ht)
  unfold State.startHead
  split
  · exact hs
  · extract_lets fail k running refused
    refine hP.only (State.finishIfDone_only _) rfl (hkind _ _ _ ?_)
    have hrunning : P running := hP.only (State.setQueue_only s _) rfl hs
    unfold refused
    cases fail with
    | some why => exact hP.only (State.raiseSuperlockRefused_only _ _ _) rfl hrunning
    | none => exact hrunning

theorem latchExpiry (c : Closure) (f : Feed LatchLevel) (hs : P s) : P (s.latchExpiry c f) := by
  have hajar : ∀ t : State, P t → P (t.latchAjar c) := fun t ht => by
    have hrelock := hP.only (State.superlockRelock_only _) rfl (hP.only (State.setRelock_only t none) rfl ht)
    unfold State.latchAjar
    dsimp only
    split
    · exact hP.stopRetained hrelock
    · exact hrelock
  have hwritten : ∀ r, P (s.writeClosure c r) := fun r => hP.only (State.writeClosure_only s c r) rfl hs
  unfold State.latchExpiry
  dsimp only
  repeat' split
  · exact hP.only (State.raiseLockChanged_only _ c) rfl (hP.only (State.setClosure_only s c _) rfl hs)
  · exact hs
  · exact hajar _ (hwritten _)
  · exact hwritten _

theorem debounce (l : Line) (hs : P s) : P (s.debounce l) := by
  have hsettled : ∀ n y, P ((s.reach n).setSensing y) := fun n y =>
    hP.only (State.setSensing_only _ y) rfl (hP.only (State.reach_only s n) rfl hs)
  unfold State.debounce
  cases l with
  | latch c =>
    dsimp only
    split
    · exact hP.latchExpiry c _ (hsettled _ _)
    · exact hs
  | localSwitch w =>
    dsimp only
    split
    · split
      · split
        · exact hsettled _ _
        · exact hP.localEvent _ _ _ _ (hsettled _ _)
      · exact hsettled _ _
    · exact hs
  | feedback c =>
    dsimp only
    split
    · exact hP.only (State.feedbackExpiry_only _ c _) rfl (hsettled _ _)
    · exact hs
  | child r =>
    dsimp only
    split
    · exact hP.only (State.childExpiry_only _ r _) rfl (hsettled _ _)
    · exact hs
  | handle c =>
    dsimp only
    split
    · exact hP.only (State.contactEvent_only _ _ _ fun t => State.handlePull_only t c) rfl (hsettled _ _)
    · exact hs
  | keyLock =>
    dsimp only
    split
    · exact hP.only (State.contactEvent_only _ _ _ State.keyLockContact_only) rfl (hsettled _ _)
    · exact hs
  | keyUnlock =>
    dsimp only
    split
    · exact hP.only (State.contactEvent_only _ _ _ State.keyUnlockContact_only) rfl (hsettled _ _)
    · exact hs
  | touch x =>
    dsimp only
    split
    · exact hP.only (State.contactEvent_only _ _ _ fun t => State.touched_only t x) rfl (hsettled _ _)
    · exact hs

theorem released (cause : ResetCause) (d : Int) (v : Nat) (hs : P s) : P (s.released cause d v) :=
  hP.measureSupply v (hP.measureTemp d (hP.only (State.raiseRestarted_only _ cause) rfl
    (hP.only (State.startDetector_only s) rfl hs)))

theorem softReset (hs : P s) : P s.softReset := by
  unfold State.softReset
  extract_lets cleared stopped confirmed
  have hcleared : P cleared :=
    hP.only (State.clearQueue_only _) rfl (hP.only (Only.foldl State.abortOrdinary_only _ s) rfl hs)
  have hstopped : P stopped := foldl_keeps (fun t w h => hP.softStop t w h) _ hcleared
  have hconfirmed : P confirmed :=
    hP.only (Only.foldl State.softChild_only _ _) rfl (hP.only (Only.foldl State.softConfirm_only _ _) rfl hstopped)
  clear_value confirmed
  have hretained : P { confirmed with win := { confirmed.win with retained := none } } :=
    hP.settings confirmed { confirmed.win with retained := none } rfl hconfirmed
  have hidle : P confirmed.softIdle := by
    refine hP.only (ps := [.touch, .fobs, .staging, .softResetDue]) ⟨fun x hx => ?_⟩ rfl hretained
    cases x <;> first | rfl | exact absurd (by decide) hx
  refine hP.only (State.raiseRestarted_only _ .soft) rfl ?_
  unfold State.softCrash
  split
  · exact hP.only (State.refreshCrash_only _) rfl hidle
  · exact hidle

theorem responseSent (p : Port) (hs : P s) : P (s.responseSent p) := by
  have hidle : P (s.idlePort p) := hP.only (State.idlePort_only s p) rfl hs
  unfold State.responseSent
  dsimp only
  split
  · split
    · exact hP.softReset hidle
    · exact hidle
  · exact hs

theorem rests : RestsOn [.win, .pinch, .refs, .trace, .config] P := fun s t h hs => by
  refine hP.only (ps := Part.list.filter fun x => ! [Part.win, .pinch, .refs, .trace, .config].contains x) ⟨fun x hx => ?_⟩ rfl hs
  refine h x ?_
  revert hx
  cases x <;> decide

/-- Every command keeps such a property. -/
theorem exec (c : Instr) (s t : State) (ht : exec c s = .next t) (hs : P s) : P t := by
  have howner := hP.owner
  cases c using Instr.casesRequest
  case request k p tag q => exact hP.rests.exec_request rfl howner ht hs
  case linkByteReceived p b => exact hP.rests.exec_linkByte rfl howner ht hs
  case unknownKindRequest p tag kind q => exact hP.rests.exec_unknownKind rfl howner ht hs
  case debounceExpiry l => cases ht; exact live_keeps (hP.debounce l) hs
  case crashDetectorTimer =>
    cases ht
    refine live_keeps (fun h => ?_) hs
    have hdetector : ∀ n d, P ((s.reach n).setDetector d none) := fun n d =>
      hP.only (State.setDetector_only _ d none) rfl (hP.only (State.reach_only s n) rfl h)
    unfold State.crashTimer
    split
    · exact hP.crashEvent (hdetector _ _)
    · exact hdetector _ _
    · exact h
  case powerOn deg v =>
    cases ht
    unfold State.powerOn
    dsimp only
    split
    · exact hP.fullReset s
    · exact hP.released _ deg v (hP.fullReset s)
  case resetLineAssert => cases ht; exact hP.fullReset _
  case resetLineRelease deg v =>
    cases ht
    unfold State.releaseReset
    split
    · exact hP.released _ deg v (hP.fullReset _)
    · exact hs
  case responseSent p => cases ht; exact live_keeps (hP.responseSent p) hs
  case commandStart =>
    cases ht
    refine live_keeps (fun h => ?_) hs
    unfold State.tryHead
    split
    · exact hP.startHead h
    · exact h
  case keepAliveExpiry =>
    cases ht
    refine live_keeps (fun h => ?_) hs
    unfold State.keepAliveEnd
    split
    · exact hP.endSession (hP.only (State.reach_only s _) rfl h)
    · exact h
  case ripplePulse w => cases ht; exact live_keeps (hP.ripple s w) hs
  case windowSample w i v => cases ht; exact live_keeps (hP.sample s w i v) hs
  case startWindowEnd w => cases ht; exact live_keeps (hP.startEnd s w) hs
  case stallTimerExpiry w => cases ht; exact live_keeps (hP.stallEnd s w) hs
  case dwellEnd w => cases ht; exact live_keeps (hP.dwellExpiry s w) hs
  case brakeEnd w => cases ht; exact live_keeps (hP.brakeExpiry s w) hs
  case panelRefreshExpiry w => cases ht; exact live_keeps (hP.panelExpiry s w) hs
  case retainedPowerExpiry =>
    cases ht
    refine live_keeps (fun h => ?_) hs
    unfold State.retainedExpiry
    split
    · exact hP.stopRetained (hP.only (State.reach_only s _) rfl h)
    · exact h
  case actuatorCurrentMeasurement a code =>
    cases ht
    refine live_keeps (fun h => ?_) hs
    have hcounted := hP.only (State.countCurrent_only s (.act a) code) rfl h
    unfold State.measure
    dsimp only
    repeat' split
    · exact hP.detectOvercurrent _ _ hcounted
    · exact hcounted
    · exact h
  case offStateTick f =>
    cases ht
    refine live_keeps (fun h => foldl_keeps (fun t ch ht => hP.testOff t ch _ ht) _ ?_) hs
    exact hP.only (Only.mon _ _) rfl (hP.only (State.reach_only s _) rfl h)
  case temperatureMeasurement deg => cases ht; exact live_keeps (hP.measureTemp deg) hs
  case supplyMeasurement v => cases ht; exact live_keeps (hP.measureSupply v) hs
  all_goals exact hP.only (exec_event_only ht) rfl hs

end Kept

end Sys2Proof.Machine
end

section
/-! The requests of the trace store (R142 to R147), and the statement that every step keeps the trace law. -/

namespace Sys2Proof.Machine
open Sys2Proof

section Requests
variable {runs : Window → Bool} {s t : State} {i : Fin 8}

/-- R144: a COMPLETE record is freed, and the cursor leaves it. -/
theorem TraceStands.freed (hs : TraceStands runs s) (i : Fin 8) : TraceStands runs ((s.freeBuffer i).setCursor none) := by
  have hother : ∀ j, j ≠ i → ((s.freeBuffer i).setCursor none).bufferAt j = s.bufferAt j := fun j hj => by
    show (s.setBuffer i .free).bufferAt j = _
    rw [State.setBuffer_bufferAt, if_neg hj]
  have hself : ((s.freeBuffer i).setCursor none).bufferAt i = .free := by
    show (s.setBuffer i .free).bufferAt i = _
    rw [State.setBuffer_bufferAt, if_pos rfl]
  have hheld : ∀ j b, ((s.freeBuffer i).setCursor none).bufferAt j = b → b ≠ .free → s.bufferAt j = b := fun j b hj hb => by
    by_cases h : j = i
    · rw [h, hself] at hj
      exact absurd hj.symm hb
    · rwa [hother j h] at hj
  refine ⟨hs.rings, hs.once.filter _, fun j => ?_, fun j r hj => hs.filling j r (hheld j _ hj nofun),
    fun j k r r' hj hk => hs.alone j k r r' (hheld j _ hj nofun) (hheld k _ hk nofun),
    fun j r x hj => hs.complete j r x (hheld j _ hj nofun), nofun⟩
  show j ∈ s.trace.captures.filter _ ↔ _
  rw [List.mem_filter, hs.listed, ← Bool.not_eq_true, ← Bool.not_eq_true, State.isFree_iff, State.isFree_iff]
  by_cases h : j = i
  · subst h
    simp [hself]
  · simp [hother j h, h]

theorem TraceStands.setCursor (hs : TraceStands runs s) {c : Option Cursor}
    (hc : ∀ k, c = some k → s.isComplete k.buffer = true) : TraceStands runs (s.setCursor c) :=
  ⟨hs.rings, hs.once, hs.listed, hs.filling, hs.alone, hs.complete, hc⟩

theorem TraceStands.readPart (hs : TraceStands runs s) (c : Cursor) : TraceStands runs (s.readPart c).state := by
  unfold State.readPart
  split
  next r x hr =>
    show TraceStands runs (s.advanceCursor c.buffer c.part r.parts)
    unfold State.advanceCursor
    split
    · exact hs.freed c.buffer
    · exact hs.setCursor fun k hk => by
        cases hk
        exact (s.isComplete_iff _).mpr ⟨r, x, hr⟩
  all_goals exact hs

/-- An empty store stands. -/
theorem TraceStands.empty (hrings : ∀ w, (s.trace.rings.get w).length ≤ 16)
    (hbuffers : s.trace.buffers = Vector.replicate 8 .free) (hcaptures : s.trace.captures = [])
    (hcursor : s.trace.cursor = none) : TraceStands runs s := by
  have hfree : ∀ i, s.bufferAt i = .free := fun i => by
    rw [State.bufferAt, hbuffers]
    exact Vector.getElem_replicate i.isLt
  refine ⟨hrings, by simp [hcaptures], fun i => by simp [hcaptures, (State.isFree_iff s i).mpr (hfree i)],
    fun i r h => ?_, fun i j r r' h => ?_, fun i r x h => ?_, by simp [hcursor]⟩ <;>
  · rw [hfree] at h
    cases h

theorem TraceLaw.stands (h : TraceStands s.runsAt t) (hwin : t.win = s.win) : TraceLaw t := by
  have hruns : t.runsAt = s.runsAt := by
    funext v
    rw [State.runsAt, State.winRec, hwin]
    rfl
  rw [traceLaw_iff, hruns]
  exact h

theorem TraceLaw.traceOwner (hs : TraceLaw s) {k : Kind}
    (hk : k ∈ [Kind.traceTrigger, .traceRead, .traceRewind, .traceClear, .timeTagReset]) (p : Port) (tag : Byte)
    (q : List Byte) : TraceLaw (ownerOf k p tag q s).state := by
  have hstands := (traceLaw_iff s).mp hs
  simp only [List.mem_cons, List.not_mem_nil, or_false] at hk
  rcases hk with rfl | rfl | rfl | rfl | rfl
  · show TraceLaw (State.ownTraceTrigger q s).state
    unfold State.ownTraceTrigger
    repeat' split
    · exact hs.trigger _ _
    · exact hs
    · exact hs
  · refine TraceLaw.stands (s := s) ?_ ((ownerOf_only .traceRead p tag q s).same .win (by decide))
    show TraceStands _ (State.ownTraceRead q s).state
    unfold State.ownTraceRead
    split
    · exact hstands.readPart _
    · exact hstands.readPart _
    · exact hstands
  · refine TraceLaw.stands (s := s) (hstands.setCursor fun k hk => ?_) rfl
    obtain ⟨c, hc, rfl⟩ := Option.map_eq_some_iff.mp hk
    exact hstands.cursor c hc
  · exact TraceLaw.stands (s := s) (.empty hstands.rings rfl rfl rfl) rfl
  · exact TraceLaw.stands (s := s)
      ⟨hstands.rings, hstands.once, hstands.listed, hstands.filling, hstands.alone, hstands.complete, hstands.cursor⟩ rfl

theorem traceLaw_fullReset (s : State) : TraceLaw s.fullReset :=
  (traceLaw_iff _).mpr (.empty (fun w => by cases w <;> exact Nat.zero_le _) rfl rfl rfl)

end Requests

/-- R83, R92, R135: a written configuration acts on the windows by the end of LOCAL runs alone. -/
theorem TraceLaw.applyConfig {s : State} (hs : TraceLaw s) (g : Configuration) (group : Group) :
    TraceLaw (s.applyConfig g group) := by
  unfold State.applyConfig
  extract_lets old configured passive locked shifted
  have hconfigured : TraceLaw configured := hs.only (Only.config s g)
  have hpassive : TraceLaw passive := by
    unfold passive
    split
    · exact hconfigured.only (Only.touch configured _)
    · exact hconfigured
  have hlocked : TraceLaw locked := by
    unfold locked
    split
    · refine foldl_keeps (fun t r ht => ?_) _ hpassive
      unfold State.lockoutByPolicy
      split
      · exact ht.endHeld _ _
      · exact ht
    · exact hpassive
  have hshifted : TraceLaw shifted := foldl_keeps (fun t w ht => ht.only (State.shiftWritten_only old t w)) _ hlocked
  split
  · exact hshifted.only (State.clearCounts_only _)
  · exact hshifted

/-- Every command keeps the trace law. -/
theorem traceLaw_kept : Kept TraceLaw where
  only h hd hs := by
    refine hs.only h (List.all_eq_true.mpr fun x hx => List.all_eq_true.mp hd x ?_)
    revert hx
    cases x <;> decide
  settings _ _ h hs := hs.records rfl h
  endHeld _ f w hs := hs.endHeld f w
  comfortOn _ w dir h hs := hs.comfortOn w dir h
  panelFrame _ w pos hs := hs.panelFrame w pos
  localEvent _ w prev pos hs := hs.localEvent w prev pos
  addCause _ w k hs := hs.addCause w k
  removeCause _ w k hs := hs.removeCause w k
  markStroke s w f hs := hs.only (State.markStroke_only s w f)
  softStop _ w hs := hs.softStop w
  ripple _ w hs := hs.ripple w
  sample _ w i v hs := hs.sample w i v
  startEnd _ w hs := hs.startEnd w
  stallEnd _ w hs := hs.stallEnd w
  dwellExpiry _ w hs := hs.dwellExpiry w
  brakeExpiry _ w hs := hs.brakeExpiry w
  panelExpiry _ w hs := hs.panelExpiry w
  detectOvercurrent _ ch hs := hs.detectOvercurrent ch
  testOff _ ch f hs := hs.testOff ch f
  clearChan _ ch hs := hs.clearChan ch
  judgeRestore s content hs := by
    unfold State.judgeRestore
    repeat' split
    · exact hs
    · exact hs
    · exact hs.restore _
    · exact hs
  forget _ w x hs := hs.forget w x
  trace _ hk p tag q _ hs := hs.traceOwner hk p tag q
  config k hk p tag q s hs := by
    simp only [List.mem_cons, List.not_mem_nil, or_false] at hk
    rcases hk with rfl | rfl
    · show TraceLaw (State.ownConfigWrite q s).state
      unfold State.ownConfigWrite
      repeat' split
      · exact hs.applyConfig _ _
      · exact hs
      · exact hs
    · exact hs.only (ownerOf_only .configFreeze p tag q s)
  fullReset := traceLaw_fullReset

/-- Settles O59: the store's operations keep the law for the windows that run, and a motion completes its window's FILLING
record as it ends. -/
theorem traceLawKept : Obligations.TraceLawKept := fun s hs t ht =>
  traceLaw_kept.rests.step rfl rfl traceLaw_kept.exec s hs t ht

end Sys2Proof.Machine
end

section
/-! The ranges of the calibration, the pinch computation and learning (R115, R117, R125, R130, R170), and the statement that
every step keeps them. -/

namespace Sys2Proof.Machine
open Sys2Proof

/-! ### Arithmetic -/

/-- R115, R130: a rounded step by at least a half goes no further than its whole distance. -/
theorem roundedShift_within {d : Int} {s : Nat} (hs : 1 ≤ s) :
    (0 ≤ d → 0 ≤ roundedShift d s ∧ roundedShift d s ≤ d) ∧ (d ≤ 0 → d ≤ roundedShift d s ∧ roundedShift d s ≤ 0) := by
  obtain ⟨n, rfl⟩ : ∃ n, s = n + 1 := ⟨s - 1, by omega⟩
  have hhalf : d / (2 ^ (n + 1) : Nat) = d / (2 ^ n : Nat) / 2 := by
    rw [Int.ediv_ediv_of_nonneg (Int.natCast_nonneg _), Nat.pow_succ, Int.natCast_mul]
    rfl
  have hpow : (1 : Int) ≤ (2 ^ n : Nat) := Int.ofNat_le.mpr Nat.one_le_two_pow
  unfold roundedShift
  rw [hhalf, Nat.add_sub_cancel]
  generalize hq : d / ((2 ^ n : Nat) : Int) = q
  refine ⟨fun hd => ?_, fun hd => ?_⟩
  · have hq0 : 0 ≤ q := hq ▸ Int.ediv_nonneg hd (by omega)
    have hqd : q ≤ d := hq ▸ Int.ediv_le_self _ hd
    omega
  · have hq0 : q ≤ 0 := hq ▸ Int.ediv_nonpos_of_nonpos_of_neg hd (by omega)
    have hmul : d * (2 ^ n : Nat) ≤ d := by
      have h := Int.mul_le_mul_of_nonpos_left hd hpow
      rwa [Int.mul_one] at h
    have hqd : d ≤ q := hq ▸ (Int.le_ediv_iff_mul_le (by omega)).mpr hmul
    omega

/-- A rounded step towards a value stays between the old value and that value. -/
theorem roundedStep_between {a b lo hi : Nat} {s : Nat} (hs : 1 ≤ s) (ha : lo ≤ a) (ha' : a ≤ hi) (hb : lo ≤ b) (hb' : b ≤ hi) :
    lo ≤ ((a : Int) + roundedShift ((b : Int) - a) s).toNat ∧ ((a : Int) + roundedShift ((b : Int) - a) s).toNat ≤ hi := by
  obtain ⟨hup, hdown⟩ := roundedShift_within (d := (b : Int) - a) hs
  rcases Int.le_total 0 ((b : Int) - a) with h | h
  · have := hup h
    omega
  · have := hdown h
    omega

/-- R113: a compensated current lies in its range. -/
theorem compensate_le {i gain : Nat} (hi : i ≤ 1023) (hg : gain ≤ 32767) : compensate i gain ≤ 2046 := by
  have hmul : i * gain ≤ 1023 * 32767 := Nat.mul_le_mul hi hg
  unfold compensate
  omega

/-- R115: the filter lies in its range. -/
theorem filterStep_le {f : Option Nat} {ic s : Nat} (hs : 1 ≤ s) (hf : ∀ n, f = some n → n ≤ 32736) (hic : ic ≤ 2046) :
    filterStep f ic s ≤ 32736 := by
  unfold filterStep
  cases f with
  | none => dsimp only; omega
  | some n =>
    have := (roundedStep_between (a := n) (b := ic * 16) (lo := 0) (hi := 32736) hs (Nat.zero_le _) (hf n rfl)
      (Nat.zero_le _) (by omega)).2
    simpa using this

theorem accumulate_le (p : Nat) (x : Int) (d : Nat) : accumulate p x d ≤ 65535 := by
  unfold accumulate clamp
  omega

/-- R130: a learned reference moves inside its range. -/
theorem teach_law {old : Option ZoneRef} {x : ZoneRef} (hold : ∀ r, old = some r → ZoneLaw r) (hx : ZoneLaw x) :
    ZoneLaw (teach old x) := by
  cases old with
  | none => exact hx
  | some r =>
    obtain ⟨hre, hri, hri'⟩ := hold r rfl
    obtain ⟨hxe, hxi, hxi'⟩ := hx
    obtain ⟨-, heffort⟩ := roundedStep_between (s := 2) (by decide) (Nat.zero_le r.effort) hre (Nat.zero_le x.effort) hxe
    obtain ⟨hlow, hhigh⟩ := roundedStep_between (s := 2) (by decide) hri hri' hxi hxi'
    exact ⟨heffort, hlow, hhigh⟩

/-! ### The ranges of one window and of the configuration -/

/-- R109, R115, R117, R118: the ranges of a window's pinch state. -/
structure PinchRanges (q : PinchState) : Prop where
  cal : ∀ c, q.cal = some c → CalLaw c
  filter : ∀ f, q.filter = some f → f ≤ 32736
  acc : q.acc ≤ 65535
  interval : q.lastInterval ≤ 255

/-- R127: the ranges of the samples of a stroke. -/
def StrokeRanges (k : Stroke) : Prop := ∀ (z : Fin 32) x, k.samples[z] = some x → ZoneLaw x ∧ x.effort ≤ 2046

/-- R125, R126: the ranges of a window's references. -/
structure RefRanges (r : RefState) : Prop where
  zones : ∀ (z : Fin 32) x, r.zones[z] = some x → ZoneLaw x
  learned : r.learned ≤ 255
  stroke : ∀ k, r.stroke = some k → StrokeRanges k

/-- R170: the ranges of the calibration groups and of the gains. -/
structure ConfigRanges (g : Configuration) : Prop where
  cal : ∀ w, CalLaw (g.cal.get w)
  gain : ∀ b : Fin 16, g.gain[b] ≤ 32767

theorem rangeLaw_iff (s : State) :
    RangeLaw s ↔ ConfigRanges s.config ∧ ∀ w, PinchRanges (s.pinchOf w) ∧ RefRanges (s.refsOf w) := by
  refine ⟨fun ⟨hcal, hgain, hw⟩ => ⟨⟨hcal, hgain⟩, fun w => ?_⟩, fun ⟨⟨hcal, hgain⟩, hw⟩ => ⟨hcal, hgain, fun w => ?_⟩⟩
  · obtain ⟨hcopy, hfilter, hacc, hinterval, hzones, hlearned, hstroke⟩ := hw w
    exact ⟨⟨hcopy, hfilter, hacc, hinterval⟩, hzones, hlearned, hstroke⟩
  · obtain ⟨⟨hcopy, hfilter, hacc, hinterval⟩, hzones, hlearned, hstroke⟩ := hw w
    exact ⟨hcopy, hfilter, hacc, hinterval, hzones, hlearned, hstroke⟩

section Law
variable {s t : State} {w : Window}

theorem rangeLaw_restsOn : RestsOn [.pinch, .refs, .config] RangeLaw := fun s t h hs => by
  have hpinch : t.pinch = s.pinch := h .pinch (by decide)
  have hrefs : t.refs = s.refs := h .refs (by decide)
  have hconfig : t.config = s.config := h .config (by decide)
  unfold RangeLaw State.calOf State.pinchOf State.refsOf at hs ⊢
  rwa [hpinch, hrefs, hconfig]

theorem RangeLaw.only (hs : RangeLaw s) {ps : List Part} (h : Only ps s t)
    (hd : [Part.pinch, .refs, .config].all (fun x => !ps.contains x) = true := by rfl) : RangeLaw t :=
  rangeLaw_restsOn.only h hd hs

theorem RangeLaw.config (hs : RangeLaw s) : ConfigRanges s.config := ((rangeLaw_iff s).mp hs).1

theorem RangeLaw.pinch (hs : RangeLaw s) (w : Window) : PinchRanges (s.pinchOf w) := (((rangeLaw_iff s).mp hs).2 w).1

theorem RangeLaw.refs (hs : RangeLaw s) (w : Window) : RefRanges (s.refsOf w) := (((rangeLaw_iff s).mp hs).2 w).2

theorem RangeLaw.setWin (hs : RangeLaw s) (w : Window) (r : WindowRec) : RangeLaw (s.setWin w r) := hs

theorem RangeLaw.setChan (hs : RangeLaw s) (ch : Channel) (r : ChannelRec) : RangeLaw (s.setChan ch r) := hs

theorem RangeLaw.setPinch (hs : RangeLaw s) (w : Window) {q : PinchState} (hq : PinchRanges q) :
    RangeLaw (s.setPinch w q) := by
  rw [rangeLaw_iff]
  refine ⟨hs.config, fun v => ⟨?_, hs.refs v⟩⟩
  rw [State.setPinch_pinchOf]
  split
  · exact hq
  · exact hs.pinch v

theorem RangeLaw.setRefs (hs : RangeLaw s) (w : Window) {r : RefState} (hr : RefRanges r) : RangeLaw (s.setRefs w r) := by
  rw [rangeLaw_iff]
  refine ⟨hs.config, fun v => ⟨hs.pinch v, ?_⟩⟩
  rw [State.setRefs_refsOf]
  split
  · exact hr
  · exact hs.refs v

/-- The calibration that a run works with lies in its ranges. -/
theorem RangeLaw.runCal (hs : RangeLaw s) (w : Window) : CalLaw (s.runCal w) := by
  unfold State.runCal
  cases hc : (s.pinchOf w).cal with
  | none => exact hs.config.cal w
  | some c => exact (hs.pinch w).cal c hc

/-! ### Strokes and references (R126 to R130, R134, R135) -/

theorem RangeLaw.endStroke (hs : RangeLaw s) (w : Window) : RangeLaw (s.endStroke w) :=
  hs.setRefs w { hs.refs w with stroke := nofun }

theorem RangeLaw.markStroke (hs : RangeLaw s) (w : Window) (f : Marks → Marks) : RangeLaw (s.markStroke w f) := by
  refine hs.setRefs w { hs.refs w with stroke := fun k hk => ?_ }
  obtain ⟨k', hk', rfl⟩ := Option.map_eq_some_iff.mp hk
  exact (hs.refs w).stroke k' hk'

theorem RangeLaw.startStroke (hs : RangeLaw s) (w : Window) (dir : Dir) (c : Cal) : RangeLaw (s.startStroke w dir c) := by
  unfold State.startStroke
  refine hs.setRefs w { hs.refs w with stroke := fun k hk z x hx => ?_ }
  split at hk
  · cases hk
    simp at hx
  · cases hk

theorem RangeLaw.forgetReferences (hs : RangeLaw s) (w : Window) : RangeLaw (s.forgetReferences w) :=
  hs.setRefs w { hs.refs w with zones := fun z x hx => by simp at hx, learned := Nat.zero_le _ }

theorem RangeLaw.carryOutForget (hs : RangeLaw s) (w : Window) : RangeLaw (s.carryOutForget w) := by
  unfold State.carryOutForget
  split
  · exact (hs.forgetReferences w).only (State.raiseContextChanged_only _ w)
  · exact hs

/-- R130: a stroke's samples teach values in their ranges. -/
theorem learnZones_law {k : Stroke} {zones : Vector (Option ZoneRef) 32} (hk : StrokeRanges k)
    (hzones : ∀ (z : Fin 32) x, zones[z] = some x → ZoneLaw x) (z : Fin 32) (x : ZoneRef)
    (hx : (learnZones k zones)[z] = some x) : ZoneLaw x := by
  unfold learnZones at hx
  simp only [Fin.getElem_fin, Vector.getElem_ofFn] at hx
  split at hx
  next y hy =>
    split at hx
    · cases hx
      exact teach_law (fun r hr => hzones z r hr) (hk z y hy).1
    · exact hzones z x hx
  next => exact hzones z x hx

theorem RangeLaw.judgeStroke (hs : RangeLaw s) (w : Window) : RangeLaw (s.judgeStroke w) := by
  unfold State.judgeStroke
  dsimp only
  split
  · exact hs
  next k hk =>
    split
    · refine RangeLaw.only (hs.setRefs w ⟨fun z x hx => ?_, Nat.min_le_left _ _, fun k hk => by cases hk⟩)
        (State.raiseContextChanged_only _ w)
      exact learnZones_law ((hs.refs w).stroke k hk) (hs.refs w).zones z x hx
    · exact hs.endStroke w

/-- R127: a sample of a stroke lies in its ranges. -/
theorem RangeLaw.writeZoneSample (hs : RangeLaw s) (w : Window) (z : Fin 32) {effort interval : Nat} (he : effort ≤ 2046)
    (hi : interval ≤ 255) : RangeLaw (s.writeZoneSample w z effort interval) := by
  refine hs.setRefs w { hs.refs w with stroke := fun k hk y x hx => ?_ }
  obtain ⟨k', hk', rfl⟩ := Option.map_eq_some_iff.mp hk
  simp only [Fin.getElem_fin, Vector.getElem_set] at hx
  split at hx
  · cases hx
    exact ⟨⟨by dsimp only; omega, by dsimp only; omega, by dsimp only; omega⟩, he⟩
  · exact (hs.refs w).stroke k' hk' y x hx

/-! ### Motions of a window -/

theorem RangeLaw.stopMotion (hs : RangeLaw s) (w : Window) (m : Motion) (braked : Bool) (x : Completion) :
    RangeLaw (s.stopMotion w m braked x) := by
  unfold State.stopMotion
  dsimp only
  refine RangeLaw.only ?_ (State.completeFilling_only _ w x)
  refine RangeLaw.endStroke ?_ w
  cases braked <;> exact hs

theorem RangeLaw.toIdle (hs : RangeLaw s) (w : Window) : RangeLaw (s.toIdle w) := hs.stopMotion w _ _ _

theorem RangeLaw.toDwell (hs : RangeLaw s) (w : Window) (p : Pending) : RangeLaw (s.toDwell w p) :=
  RangeLaw.endStroke (s := (s.setWin w _).brakeChan (.w w)) hs w

theorem RangeLaw.driveRun (hs : RangeLaw s) (w : Window) (k : RunRec) : RangeLaw (s.driveRun w k) := by
  unfold State.driveRun
  extract_lets c started pinched
  have hpinched : RangeLaw pinched :=
    RangeLaw.setPinch (s := started) hs w ⟨fun c' h => by cases h; exact hs.config.cal w, nofun, Nat.zero_le _, Nat.zero_le _⟩
  exact RangeLaw.setChan (RangeLaw.startStroke (RangeLaw.only hpinched (State.setRing_only pinched w [])) w k.dir c) _ _

theorem RangeLaw.startRun (hs : RangeLaw s) (w : Window) (dir : Dir) (kind : RunKind) (holder : RunHolder) :
    RangeLaw (s.startRun w dir kind holder) := by
  rw [State.startRun_eq]
  have hlaunch : ∀ k, RangeLaw (s.launch w k) := fun k => (hs.carryOutForget w).driveRun w k
  split
  · exact (hlaunch _).toIdle w
  · exact hlaunch _

theorem RangeLaw.startReverse (hs : RangeLaw s) (w : Window) (x : Int) : RangeLaw (s.startReverse w x) := by
  unfold State.startReverse
  refine RangeLaw.setChan (RangeLaw.setPinch (hs.setWin w _) w ?_) _ _
  exact ⟨(hs.pinch w).cal, fun f hf => (by cases hf), Nat.zero_le _, Nat.zero_le _⟩

theorem RangeLaw.setAwait (hs : RangeLaw s) (w : Window) (x : RunHolder) (v : Bool) : RangeLaw (s.setAwait w x v) :=
  hs.only (State.setAwait_only s w x v)

theorem RangeLaw.tap (hs : RangeLaw s) (w : Window) (x : RunHolder) : RangeLaw (s.tap w x) := (hs.toIdle w).setAwait w x true

theorem RangeLaw.press (hs : RangeLaw s) (w : Window) (x : RunHolder) (prev pos : SwitchPos) :
    RangeLaw (s.press w x prev pos) := by
  unfold State.press
  split
  · exact hs
  dsimp only
  split
  · exact hs.startRun w _ _ _
  · split
    · split
      · exact hs
      · exact hs.toDwell w _
    all_goals
      split
      · exact hs
      · exact hs.tap w x
  · split
    · exact hs
    all_goals
      split
      · exact hs
      · exact hs.tap w x
  all_goals exact hs

theorem RangeLaw.neutral (hs : RangeLaw s) (w : Window) (x : RunHolder) : RangeLaw (s.neutral w x) := by
  unfold State.neutral
  dsimp only
  split
  · exact (hs.setAwait w x false).toIdle w
  · exact hs.setAwait w x false

theorem RangeLaw.endHeld (hs : RangeLaw s) (f : RunHolder → Bool) (w : Window) : RangeLaw (s.endHeld f w) := by
  unfold State.endHeld
  split
  · exact hs.toIdle w
  · exact hs

theorem RangeLaw.comfortOn (hs : RangeLaw s) (w : Window) (dir : Dir) (h : RunHolder) : RangeLaw (s.comfortOn w dir h) := by
  unfold State.comfortOn
  split
  · unfold State.comfortStart
    dsimp only
    split
    · exact hs.startRun w _ _ _
    · split
      · exact hs
      · exact hs.toDwell w _
    all_goals exact hs
  · exact hs

/-! ### Pinches, stalls, pulses and samples -/

theorem RangeLaw.trigger (hs : RangeLaw s) (w : Window) (k : TriggerKind) : RangeLaw (s.trigger w k) :=
  hs.only (State.trigger_only s w k)

theorem RangeLaw.takePinch (hs : RangeLaw s) (w : Window) (x : PinchCause) (p : Int) : RangeLaw (s.takePinch w x p) := by
  unfold State.takePinch
  extract_lets c marked dwelling r count counted
  have hdwelling : RangeLaw dwelling := (hs.markStroke w _).toDwell w _
  exact (RangeLaw.only (s := counted) hdwelling (State.raiseWindowEvent_only counted w _)).trigger w _

theorem RangeLaw.unexpectedStall (hs : RangeLaw s) (w : Window) : RangeLaw (s.unexpectedStall w) :=
  ((hs.toIdle w).only (State.raiseWindowEvent_only _ w _)).trigger w _

theorem RangeLaw.bottomReached (hs : RangeLaw s) (w : Window) : RangeLaw (s.bottomReached w) := by
  unfold State.bottomReached
  extract_lets r full counted
  have hcounted : RangeLaw counted := by
    unfold counted
    split <;> exact hs
  exact hcounted.toIdle w

theorem RangeLaw.normalise (hs : RangeLaw s) (w : Window) : RangeLaw (s.normalise w) :=
  ((RangeLaw.toIdle (s := s.setWin w _) hs w).only (State.raiseWindowEvent_only _ w _)).only
    (State.raiseContextChanged_only _ w)

theorem RangeLaw.takeStall (hs : RangeLaw s) (w : Window) : RangeLaw (s.takeStall w) := by
  unfold State.takeStall
  dsimp only
  split
  · exact hs
  · repeat' split
    · exact (RangeLaw.judgeStroke (s := s.setWin w _) hs w).toIdle w
    · exact hs.takePinch w _ _
    · exact hs.unexpectedStall w
  · exact hs.normalise w
  · split
    · exact hs.bottomReached w
    · exact hs.unexpectedStall w
  · exact hs.toIdle w

theorem RangeLaw.loseNormalisation (hs : RangeLaw s) (w : Window) : RangeLaw (s.loseNormalisation w) := by
  unfold State.loseNormalisation
  extract_lets before lost marked stopped
  have hmarked : RangeLaw marked := RangeLaw.markStroke (s := lost) hs w _
  have hstopped : RangeLaw stopped := by
    unfold stopped
    split
    · exact hmarked.toIdle w
    all_goals exact hmarked
  exact (hstopped.only (State.raiseWindowEvent_only _ w _)).only (State.raiseContextChanged_only _ w)

theorem RangeLaw.count (hs : RangeLaw s) (w : Window) (dir : Dir) (p : Int) : RangeLaw (s.count w dir p) := by
  unfold State.count
  cases dir with
  | up =>
    dsimp only
    split
    · exact hs.loseNormalisation w
    · exact hs
  | down =>
    dsimp only
    split
    · exact RangeLaw.bottomReached (s := s.setWin w _) hs w
    · exact hs

theorem RangeLaw.ripple (hs : RangeLaw s) (w : Window) : RangeLaw (s.ripple w) := by
  have htimed : RangeLaw (s.pulseTiming w) := by
    unfold State.pulseTiming
    split
    · exact hs.setPinch w { hs.pinch w with interval := Nat.min_le_left _ _ }
    · exact hs
  unfold State.ripple
  extract_lets timed before pulsed r
  have hpulsed : RangeLaw pulsed := htimed
  split
  · exact hpulsed.count w _ _
  · exact hpulsed

theorem RangeLaw.sampleIc_le (hs : RangeLaw s) (i v : Nat) : s.sampleIc i v ≤ 2046 :=
  compensate_le (Nat.min_le_left _ _) (hs.config.gain _)

theorem RangeLaw.samplePinch (hs : RangeLaw s) (w : Window) (ph : SamplePhase) {ic : Nat} (hic : ic ≤ 2046) :
    PinchRanges (s.samplePinch w ph ic) := by
  obtain ⟨-, -, -, -, -, hshift, -⟩ := hs.runCal w
  cases ph with
  | start => exact { hs.pinch w with }
  | run | reverse =>
    exact { hs.pinch w with
      filter := fun f hf => by
        cases hf
        exact filterStep_le hshift (hs.pinch w).filter hic
      acc := accumulate_le _ _ _ }

theorem RangeLaw.feedStroke (hs : RangeLaw s) (w : Window) {x : Sample} (hx : x.phase = .run → x.effort ≤ 2046) :
    RangeLaw (s.feedStroke w x) := by
  unfold State.feedStroke
  split
  · split
    next hrun =>
      obtain ⟨hphase, -⟩ : x.phase = .run ∧ _ := by simpa using hrun
      exact hs.writeZoneSample w _ (hx hphase) (hs.pinch w).interval
    next => exact hs
  · exact hs

theorem RangeLaw.addCause (hs : RangeLaw s) (w : Window) (k : Cause) : RangeLaw (s.addCause w k) := by
  unfold State.addCause
  extract_lets r caused
  split
  · exact hs
  · exact RangeLaw.stopMotion (s := caused) hs w _ _ _

theorem RangeLaw.withdraw (hs : RangeLaw s) (ch : Channel) : RangeLaw (s.withdraw ch) := by
  unfold State.withdraw
  split
  · exact hs
  · cases ch with
    | w w => exact RangeLaw.addCause (s := (s.offChan (.w w)).setChan (.w w) _) hs w .fault
    | act a => exact hs

theorem RangeLaw.detectOvercurrent (hs : RangeLaw s) (ch : Channel) : RangeLaw (s.detectOvercurrent ch) := by
  have hwithdrawn : RangeLaw (((s.faultFound ch .overcurrent).offChan ch).withdraw ch) :=
    RangeLaw.withdraw (RangeLaw.setChan (hs.only (State.faultFound_only s ch _)) ch _) ch
  unfold State.detectOvercurrent
  dsimp only
  cases ch with
  | w w =>
    dsimp only
    split
    · exact hwithdrawn.trigger w _
    · exact hwithdrawn
  | act a => exact hwithdrawn.only (State.overcurrentEnd_only _ a)

theorem RangeLaw.takeDeclared (hs : RangeLaw s) (w : Window) (p : Option Int) : RangeLaw (s.takeDeclared w p) := by
  unfold State.takeDeclared
  repeat' split
  · exact hs.takePinch w _ _
  · exact hs
  · exact hs

theorem RangeLaw.sampleOutcome (hs : RangeLaw s) (w : Window) (p : Option Int) (pinch jam : Bool) :
    RangeLaw (s.sampleOutcome w p pinch jam) := by
  have hcounted : RangeLaw { s with freeCount := s.freeCount + 1 } := hs.only (Only.freeCount s _)
  unfold State.sampleOutcome
  split
  · exact hs
  · exact hs.takeDeclared w _
  · exact hs.detectOvercurrent _
  · dsimp only
    split
    · exact (hcounted.takeDeclared w _).detectOvercurrent _
    · exact (hcounted.detectOvercurrent _).takeDeclared w _

theorem RangeLaw.sample (hs : RangeLaw s) (w : Window) (i v : Nat) : RangeLaw (s.sample w i v) := by
  unfold State.sample
  split
  · exact hs
  next ph _ =>
    extract_lets ic x pinch jam computed fed sampled
    have hic : ic ≤ 2046 := hs.sampleIc_le i v
    have hpinch := hs.samplePinch w ph hic
    have hx : x.phase = .run → x.effort ≤ 2046 := fun hphase => by
      have hph : ph = .run := hphase
      subst hph
      have hfilter := hpinch.filter _ rfl
      show filterStep (s.pinchOf w).filter ic (s.runCal w).s / 16 ≤ 2046
      omega
    have hfed : RangeLaw fed := (hs.setPinch w hpinch).feedStroke w hx
    have hsampled : RangeLaw sampled := (hfed.only (State.countCurrent_only fed _ _)).only (State.addSample_only _ w x)
    exact hsampled.sampleOutcome w _ _ _

/-! ### Configuration and window context (R133 to R135, R170) -/

theorem ranged_bounds {lo hi v : Nat} {α : Type} {x y : α} (h : ranged lo hi v x = some y) : lo ≤ v ∧ v ≤ hi ∧ x = y := by
  unfold ranged at h
  split at h
  next hin =>
    cases h
    simpa using hin
  next => cases h

theorem CalLaw.withItem {c c' : Cal} (hc : CalLaw c) {item v : Nat} (h : c.withItem item v = some c') : CalLaw c' := by
  unfold CalLaw at hc ⊢
  unfold Cal.withItem at h
  split at h
  · split at h
    · obtain ⟨hlow, hhigh, rfl⟩ := ranged_bounds h
      dsimp only
      omega
    · cases h
  case h_10 => cases h
  all_goals
    obtain ⟨hlow, hhigh, rfl⟩ := ranged_bounds h
    dsimp only
    omega

theorem ConfigRanges.withItem {g g' : Configuration} (hg : ConfigRanges g) {group : Group} {item index v : Nat}
    (h : g.withItem group item index v = some g') : ConfigRanges g' := by
  have hsame : ∀ {x : Configuration}, x.cal = g.cal → x.gain = g.gain → ConfigRanges x := fun hcal hgain =>
    ⟨by rw [hcal]; exact hg.cal, by rw [hgain]; exact hg.gain⟩
  cases group with
  | policy =>
    simp only [Configuration.withItem] at h
    split at h
    · split at h
      case h_5 =>
        split at h
        · cases h
          exact hsame rfl rfl
        · obtain ⟨-, -, rfl⟩ := ranged_bounds h
          exact hsame rfl rfl
      case h_6 => cases h
      all_goals
        obtain ⟨-, -, rfl⟩ := ranged_bounds h
        exact hsame rfl rfl
    · cases h
  | windowCal =>
    simp only [Configuration.withItem] at h
    split at h
    next w _ =>
      obtain ⟨c, hc, rfl⟩ := Option.map_eq_some_iff.mp h
      refine ⟨fun x => ?_, hg.gain⟩
      by_cases hx : x = w
      · rw [hx]
        show CalLaw ((g.cal.set w c).get w)
        rw [Windows.get_set_self]
        exact (hg.cal w).withItem hc
      · show CalLaw ((g.cal.set w c).get x)
        rw [Windows.get_set_ne _ _ _ _ hx]
        exact hg.cal x
    · cases h
  | supplyGain =>
    simp only [Configuration.withItem] at h
    split at h
    next hindex =>
      split at h
      · obtain ⟨-, hv, rfl⟩ := ranged_bounds h
        refine ⟨hg.cal, fun b => ?_⟩
        simp only [Fin.getElem_fin, Vector.getElem_set]
        split
        · exact hv
        · exact hg.gain b
      · cases h
    · cases h
  | diagMask =>
    simp only [Configuration.withItem] at h
    split at h
    · split at h
      · obtain ⟨-, -, rfl⟩ := ranged_bounds h
        exact hsame rfl rfl
      · cases h
    · split at h
      · obtain ⟨-, -, rfl⟩ := ranged_bounds h
        exact hsame rfl rfl
      · cases h
    · cases h
  | fobTable => cases h

theorem RangeLaw.shiftWritten (hs : RangeLaw s) (old : Configuration) (w : Window) :
    RangeLaw (State.shiftWritten old s w) := by
  have hforgotten : RangeLaw ((s.forgetReferences w).raiseContextChanged w) :=
    (hs.forgetReferences w).only (State.raiseContextChanged_only _ w)
  have hpending : ∀ z, RangeLaw (s.setRefs w { s.refsOf w with pendingForget := z }) := fun z =>
    hs.setRefs w { hs.refs w with }
  unfold State.shiftWritten
  split
  · exact hs
  · unfold State.changeShift
    dsimp only
    repeat' split
    · exact hpending _
    · exact hs
    · exact hforgotten
    · exact hpending _
    · exact hforgotten

theorem RangeLaw.applyConfig (hs : RangeLaw s) {g : Configuration} (hg : ConfigRanges g) (group : Group) :
    RangeLaw (s.applyConfig g group) := by
  unfold State.applyConfig
  extract_lets old configured passive locked shifted
  have hconfigured : RangeLaw configured := (rangeLaw_iff _).mpr ⟨hg, fun w => ⟨hs.pinch w, hs.refs w⟩⟩
  have hpassive : RangeLaw passive := by
    unfold passive
    split
    · exact hconfigured.only (Only.touch configured _)
    · exact hconfigured
  have hlocked : RangeLaw locked := by
    unfold locked
    split
    · refine foldl_keeps (fun t r ht => ?_) _ hpassive
      unfold State.lockoutByPolicy
      split
      · exact ht.endHeld _ _
      · exact ht
    · exact hpassive
  have hshifted : RangeLaw shifted := foldl_keeps (fun t w ht => ht.shiftWritten old w) _ hlocked
  split
  · exact hshifted.only (State.clearCounts_only _)
  · exact hshifted

/-- R165: the zone fields of a restore hold intervals of one byte. -/
theorem zoneFields_interval {n : Nat} {q : List Byte} {l : List (Byte × Option ZoneRef)} (h : State.zoneFields n q = some l)
    {f : Byte × Option ZoneRef} (hf : f ∈ l) {x : ZoneRef} (hx : f.2 = some x) : x.interval ≤ 255 := by
  induction n generalizing q l with
  | zero =>
    cases q with
    | nil =>
      cases h
      cases hf
    | cons _ _ => cases h
  | succ n ih =>
    cases q with
    | nil => cases h
    | cons m rest =>
      unfold State.zoneFields at h
      split at h
      · split at h
        next a b c more =>
          obtain ⟨l', hl', rfl⟩ := Option.map_eq_some_iff.mp h
          rcases List.mem_cons.mp hf with rfl | hf'
          · cases hx
            exact Nat.le_of_lt_succ c.isLt
          · exact ih hl' hf'
        next => cases h
      · obtain ⟨l', hl', rfl⟩ := Option.map_eq_some_iff.mp h
        rcases List.mem_cons.mp hf with rfl | hf'
        · cases hx
        · exact ih hl' hf'

/-- R133: a restore in range. -/
theorem restoreOf_ranges {content : List Byte} {zones : List (Byte × Option ZoneRef)} {n : Nat} {q : List Byte}
    {x : State.Restore} (hzones : State.zoneFields n q = some zones) (hx : State.restoreOf content zones = some x) :
    (∀ (z : Fin 32) y, x.zones[z] = some y → ZoneLaw y) ∧ x.count ≤ 255 := by
  unfold State.restoreOf at hx
  dsimp only at hx
  split at hx
  · split at hx
    next hin =>
      cases hx
      simp only [Bool.and_eq_true, List.all_eq_true] at hin
      refine ⟨fun z y hy => ?_, Nat.le_of_lt_succ (BitVec.isLt _)⟩
      simp only [Fin.getElem_fin, Vector.getElem_ofFn] at hy
      obtain ⟨f, hf, hfy⟩ := Option.bind_eq_some_iff.mp hy
      have hmem := List.mem_of_getElem? hf
      have hrange := hin.2 f hmem
      rw [State.zoneInRange, hfy] at hrange
      obtain ⟨heffort, hlow⟩ : y.effort ≤ 2047 ∧ 1 ≤ y.interval := by simpa using hrange
      exact ⟨heffort, hlow, zoneFields_interval hzones hmem hfy⟩
    next => cases hx
  · cases hx

theorem RangeLaw.judgeRestore (hs : RangeLaw s) (content : List Byte) : RangeLaw (s.judgeRestore content).state := by
  unfold State.judgeRestore
  split
  · exact hs
  next zones hzones =>
    split
    · exact hs
    next x hx =>
      obtain ⟨hrefs, hcount⟩ := restoreOf_ranges hzones hx
      split
      · have hwritten : RefRanges { s.refsOf x.window with
            zones := x.zones
            learned := x.count
            pendingForget := none } := ⟨hrefs, hcount, (hs.refs x.window).stroke⟩
        exact RangeLaw.setWin (hs.setRefs x.window hwritten) x.window _
      · exact hs

theorem rangeLaw_fullReset (s : State) : RangeLaw s.fullReset := by
  rw [rangeLaw_iff]
  have hcal : CalLaw Cal.default := by unfold CalLaw; decide
  refine ⟨⟨fun w => by cases w <;> exact hcal, fun b => ?_⟩, fun w => ?_⟩
  · have hgain : ∀ b : Fin 16, Configuration.reset.gain[b] ≤ 32767 := by decide
    exact hgain b
  · have hpinch : s.fullReset.pinchOf w = .reset := Windows.get_all w _
    have hrefs : s.fullReset.refsOf w = .reset := Windows.get_all w _
    rw [hpinch, hrefs]
    exact ⟨⟨nofun, nofun, by decide, by decide⟩, ⟨fun z x hx => by simp [RefState.reset] at hx, by decide, nofun⟩⟩

end Law

/-- Every command keeps the ranges. -/
theorem rangeLaw_kept : Kept RangeLaw where
  only h hd hs := by
    refine hs.only h (List.all_eq_true.mpr fun x hx => List.all_eq_true.mp hd x ?_)
    revert hx
    cases x <;> decide
  settings _ _ _ hs := hs
  endHeld _ f w hs := hs.endHeld f w
  comfortOn _ w dir h hs := hs.comfortOn w dir h
  panelFrame s w pos hs := by
    have hrecorded : RangeLaw (s.recordPanel w pos) := hs.only (State.recordPanel_only s w pos)
    unfold State.panelFrame
    dsimp only
    split
    · exact hrecorded.neutral w _
    · dsimp only
      split
      · exact hrecorded.press w _ _ _
      · exact hrecorded
  localEvent s w prev pos hs := by
    unfold State.localEvent
    repeat' split
    · exact hs.neutral w _
    · exact hs
    · exact hs.press w _ _ _
  addCause _ w k hs := hs.addCause w k
  removeCause s w k hs := hs.only (State.removeCause_only s w k)
  markStroke _ w f hs := hs.markStroke w f
  softStop s w hs := by
    unfold State.softStop
    extract_lets r stopped
    have hstopped : RangeLaw stopped := by
      unfold stopped
      split
      · exact hs.stopMotion w _ _ _
      · exact hs
    exact hstopped
  ripple _ w hs := hs.ripple w
  sample _ w i v hs := hs.sample w i v
  startEnd s w hs := by
    unfold State.startEnd
    dsimp only
    repeat' split
    · exact RangeLaw.takeStall (RangeLaw.setWin (hs.only (State.reach_only s _)) w _) w
    · exact RangeLaw.setWin (hs.only (State.reach_only s _)) w _
    · exact hs
  stallEnd s w hs := by
    unfold State.stallEnd
    dsimp only
    repeat' split
    · exact RangeLaw.setWin (hs.only (State.reach_only s _)) w _
    · exact RangeLaw.takeStall (RangeLaw.setWin (hs.only (State.reach_only s _)) w _) w
    · exact hs
  dwellExpiry s w hs := by
    unfold State.dwellExpiry
    split
    next n _ =>
      have hreached := hs.only (State.reach_only s n)
      unfold State.endDwell
      dsimp only
      repeat' split
      · exact hreached.startRun w _ _ _
      · exact hreached.toIdle w
      · exact hreached.startReverse w _
      all_goals exact hreached
    next => exact hs
  brakeExpiry s w hs := hs.only (State.brakeExpiry_only s w)
  panelExpiry s w hs := by
    unfold State.panelExpiry
    dsimp only
    split
    · exact RangeLaw.neutral (RangeLaw.setWin (hs.only (State.reach_only s _)) w _) w _
    · exact hs
  detectOvercurrent _ ch hs := hs.detectOvercurrent ch
  testOff s ch f hs := by
    have hjudge : ∀ {t : State}, RangeLaw t → ∀ k held clean, RangeLaw (t.judgeShort ch k held clean) := by
      intro t ht k held clean
      unfold State.judgeShort
      repeat' split
      · exact (ht.only (State.faultFound_only t ch k)).withdraw ch
      all_goals exact ht
    unfold State.testOff
    dsimp only
    split
    · exact hjudge (hjudge hs _ _ _) _ _ _
    · exact hs
  clearChan s ch hs := hs.only (State.clearChan_only s ch)
  judgeRestore _ content hs := hs.judgeRestore content
  forget s w x hs := by
    cases x with
    | references => exact hs.forgetReferences w
    | normalisation => exact hs
    | both => exact hs.forgetReferences w
  trace k hk p tag q s hs := by
    simp only [List.mem_cons, List.not_mem_nil, or_false] at hk
    rcases hk with rfl | rfl | rfl | rfl | rfl <;> exact hs.only (ownerOf_only _ p tag q s)
  config k hk p tag q s hs := by
    simp only [List.mem_cons, List.not_mem_nil, or_false] at hk
    rcases hk with rfl | rfl
    · show RangeLaw (State.ownConfigWrite q s).state
      unfold State.ownConfigWrite
      split
      · split
        next c hc => exact hs.applyConfig (hs.config.withItem hc) _
        next => exact hs
      · exact hs
    · show RangeLaw (State.ownConfigFreeze q s).state
      unfold State.ownConfigFreeze
      split <;> exact hs
  fullReset := rangeLaw_fullReset

/-- Settles O60: the filter and the learned values move by rounded steps that never leave the interval between the old and
the new value; the other values are clamped or checked where they are written. -/
theorem rangeLawKept : Obligations.RangeLawKept := fun s hs t ht =>
  rangeLaw_kept.rests.step rfl rfl rangeLaw_kept.exec s hs t ht

end Sys2Proof.Machine
end

section
/-! The port engines and the request decoder (R163, R164, R167): what a taken request leads to, the refusals of the decoder
and of the owners, frames byte by byte, and the statements on them. -/

namespace Sys2Proof.Machine
open Sys2Proof

variable {s : State} {p : Port} {k : Kind} {tag : Byte} {q : List Byte}

/-! ### Requests that are taken (R163, R167) -/

theorem State.live_of_held (hl : s.resetLine = true) (f : State → State) : s.live f = s := by
  simp [State.live, hl]

/-- A request row on a port that may take it is judged by its owner. -/
theorem exec_request (hk : s.canTake p) (k : Kind) (tag : Byte) (q : List Byte) :
    exec (k.command p tag q) s = .next (s.request k (ownerOf k p tag) p tag q) := by
  rw [exec_command, State.live_of_not_held hk.1]

/-- The decoder passes a payload of a length of the kind, on a port marked for it, that writes no frozen group. -/
theorem State.decoderRefusal_none (hleast : k.length.1 ≤ q.length) (hmost : q.length ≤ k.length.2)
    (hport : k.allows p = true) (hfrozen : s.writesFrozen k q = false) : s.decoderRefusal k p q = none := by
  simp [State.decoderRefusal, hport, hfrozen, Nat.not_lt.mpr hleast, Nat.not_lt.mpr hmost]

/-- A request that the decoder passes is answered with its owner's reply. -/
theorem exec_passed (hk : s.canTake p) (hd : s.decoderRefusal k p q = none) (tag : Byte) :
    exec (k.command p tag q) s = .next (State.answer p tag (ownerOf k p tag q s)) := by
  rw [exec_request hk, State.request_passed hk hd]

/-- A request that the decoder refuses is answered so with an empty payload. -/
theorem exec_undecoded (hk : s.canTake p) {code : Code} (hd : s.decoderRefusal k p q = some code) (tag : Byte) :
    exec (k.command p tag q) s = .next { s with ports := s.ports.set p (answered tag code []) } := by
  rw [exec_request hk, State.request_refused hk hd]

/-- A request that its owner refuses is answered so with an empty payload. -/
theorem exec_owner_refused (hk : s.canTake p) (hd : s.decoderRefusal k p q = none) {code : Code}
    (ho : ownerOf k p tag q s = s.refuse code) :
    exec (k.command p tag q) s = .next { s with ports := s.ports.set p (answered tag code []) } := by
  rw [exec_passed hk hd, ho]
  rfl

/-! ### The decoder's refusals (R167) -/

/-- R167, step 3: the requests that write a frozen group. -/
theorem State.writesFrozen_iff : s.writesFrozen k q = true ↔
    k = .configWrite ∧ (groups[byteOf q 0]?).any s.config.frozen.has = true ∨
      k = .fobWrite ∧ s.config.frozen.fobTable = true := by
  cases k with
  | configWrite =>
    change (match groups[byteOf q 0]? with | some g => s.config.frozen.has g | none => false) = true ↔ _
    cases groups[byteOf q 0]? <;> simp
  | fobWrite => simp [State.writesFrozen]
  | _ => simp [State.writesFrozen]

/-- Settles O8: a payload of a wrong length, a port that is not marked and a frozen group are the decoder's three
refusals, in this order. -/
theorem decoderRefusals : Obligations.DecoderRefusals := by
  intro s k p tag q hk
  refine ⟨fun hlength => exec_undecoded hk ?_ tag, fun hleast hmost =>
    ⟨fun hport => exec_undecoded hk ?_ tag, fun hport hfrozen => exec_undecoded hk ?_ tag⟩⟩
  · simp [State.decoderRefusal, hlength]
  · simp [State.decoderRefusal, hport, Nat.not_lt.mpr hleast, Nat.not_lt.mpr hmost]
  · simp [State.decoderRefusal, hport, Nat.not_lt.mpr hleast, Nat.not_lt.mpr hmost, State.writesFrozen_iff.mpr hfrozen]

/-! ### The owners' RANGE refusals (R167, step 4) -/

theorem pick_none {α : Type} {l : List α} {i : Nat} (h : l.length ≤ byteOf q i) : pick l q i = none :=
  List.getElem?_eq_none h

theorem ownLock_range (h : 6 ≤ byteOf q 0) : State.ownLock p tag q s = s.refuse .range := by
  simp [State.ownLock, pick_none (l := lockActions) h]

theorem ownChildSet_range (h : 2 ≤ byteOf q 0 ∨ 2 ≤ byteOf q 1) : State.ownChildSet p tag q s = s.refuse .range := by
  rcases h with h | h
  · simp [State.ownChildSet, pick_none (l := Rear.list) h]
  · simp [State.ownChildSet, pick_none (l := childStates) h]

theorem ownCredential_range (h : 8 ≤ byteOf q 0 ∨ 6 ≤ byteOf q 4) : State.ownCredential tag q s = s.refuse .range := by
  rcases h with h | h
  · simp [State.ownCredential, slotField, pick_none (l := eight) h]
  · simp [State.ownCredential, pick_none (l := fobActions) h]

theorem ownPassiveClaim_range (h : 5 ≤ byteOf q 0 ∨ 8 ≤ byteOf q 1 ∨ 3 ≤ byteOf q 5 ∨ 2 ≤ byteOf q 6) :
    State.ownPassiveClaim tag q s = s.refuse .range := by
  rcases h with h | h | h | h
  · simp [State.ownPassiveClaim, pick_none (l := TouchSource.list) h]
  · simp [State.ownPassiveClaim, slotField, pick_none (l := eight) h]
  · simp [State.ownPassiveClaim, pick_none (l := keyZones) h]
  · simp [State.ownPassiveClaim, flagAt, pick_none (l := [false, true]) h]

theorem ownWindowSwitch_range (h : 4 ≤ byteOf q 0 ∨ 5 ≤ byteOf q 1) : State.ownWindowSwitch q s = s.refuse .range := by
  rcases h with h | h
  · simp [State.ownWindowSwitch, pick_none (l := Window.list) h]
  · simp [State.ownWindowSwitch, pick_none (l := switchPositions) h]

theorem ownWindowForget_range (h : 4 ≤ byteOf q 0 ∨ 3 ≤ byteOf q 1) : State.ownWindowForget q s = s.refuse .range := by
  rcases h with h | h
  · simp [State.ownWindowForget, pick_none (l := Window.list) h]
  · simp [State.ownWindowForget, pick_none (l := forgetWhats) h]

theorem ownWindowContextRead_range (h : 4 ≤ byteOf q 0 ∨ 4 ≤ byteOf q 1) :
    State.ownWindowContextRead q s = s.refuse .range := by
  unfold State.ownWindowContextRead
  rcases h with h | h
  · rw [pick_none (l := Window.list) h]
  · cases pick Window.list q 0 with
    | none => rfl
    | some w => exact if_neg (Nat.not_lt.mpr h)

theorem ownFobWrite_range (h : 8 ≤ byteOf q 0 ∨ 3 ≤ byteOf q 1 ∨ 16 ≤ byteOf q 5) :
    State.ownFobWrite q s = s.refuse .range := by
  unfold State.ownFobWrite
  rcases h with h | h | h
  · simp [slotField, pick_none (l := eight) h]
  · simp [pick_none (l := slotStatuses) h]
  · cases slotField q 0 with
    | none => rfl
    | some i =>
      cases pick slotStatuses q 1 with
      | none => rfl
      | some st => exact if_neg (Nat.not_lt.mpr h)

/-- R167, step 4: the one-byte fields that are picked from a list, with their kind, their place and the length of the
list. -/
def rangedFields : List (Kind × Nat × Nat) :=
  [(.lock, 0, 6), (.childSet, 0, 2), (.childSet, 1, 2), (.credential, 0, 8), (.credential, 4, 6),
    (.passiveClaim, 0, 5), (.passiveClaim, 1, 8), (.passiveClaim, 5, 3), (.passiveClaim, 6, 2), (.windowSwitch, 0, 4),
    (.windowSwitch, 1, 5), (.rearLockout, 0, 2), (.comfort, 0, 3), (.vehicleMode, 0, 3), (.windowForget, 0, 4),
    (.windowForget, 1, 3), (.windowContextRead, 0, 4), (.windowContextRead, 1, 4), (.traceTrigger, 0, 4),
    (.clearFault, 0, 12), (.diagStatus, 0, 3), (.configWrite, 0, 5), (.configRead, 0, 5), (.configFreeze, 0, 5),
    (.fobWrite, 0, 8), (.fobWrite, 1, 3), (.fobWrite, 5, 16), (.fobRead, 0, 8), (.windowStatus, 0, 3),
    (.readNotices, 0, 17)]

/-- R167, step 4: an owner finds no value past the end of a field's list. -/
theorem ownerOf_range {row : Kind × Nat × Nat} (hrow : row ∈ rangedFields) (h : row.2.2 ≤ byteOf q row.2.1) :
    ownerOf row.1 p tag q s = s.refuse .range := by
  simp only [rangedFields, List.mem_cons, List.not_mem_nil, or_false] at hrow
  rcases hrow with rfl | rfl | rfl | rfl | rfl | rfl | rfl | rfl | rfl | rfl | rfl | rfl | rfl | rfl | rfl | rfl | rfl |
    rfl | rfl | rfl | rfl | rfl | rfl | rfl | rfl | rfl | rfl | rfl | rfl | rfl
  · exact ownLock_range h
  · exact ownChildSet_range (.inl h)
  · exact ownChildSet_range (.inr h)
  · exact ownCredential_range (.inl h)
  · exact ownCredential_range (.inr h)
  · exact ownPassiveClaim_range (.inl h)
  · exact ownPassiveClaim_range (.inr (.inl h))
  · exact ownPassiveClaim_range (.inr (.inr (.inl h)))
  · exact ownPassiveClaim_range (.inr (.inr (.inr h)))
  · exact ownWindowSwitch_range (.inl h)
  · exact ownWindowSwitch_range (.inr h)
  · simp [ownerOf, State.ownRearLockout, flagAt, pick_none (l := [false, true]) h]
  · simp [ownerOf, State.ownComfort, pick_none (l := comfortAsks) h]
  · simp [ownerOf, State.ownVehicleMode, pick_none (l := vehicleModes) h]
  · exact ownWindowForget_range (.inl h)
  · exact ownWindowForget_range (.inr h)
  · exact ownWindowContextRead_range (.inl h)
  · exact ownWindowContextRead_range (.inr h)
  · simp [ownerOf, State.ownTraceTrigger, pick_none (l := Window.list) h]
  · simp [ownerOf, State.ownClearFault, pick_none (l := Channel.list) h]
  · exact if_neg (Nat.not_lt.mpr h)
  · simp [ownerOf, State.ownConfigWrite, pick_none (l := groups) h]
  · simp [ownerOf, State.ownConfigRead, pick_none (l := groups) h]
  · simp [ownerOf, State.ownConfigFreeze, pick_none (l := groups) h]
  · exact ownFobWrite_range (.inl h)
  · exact ownFobWrite_range (.inr (.inl h))
  · exact ownFobWrite_range (.inr (.inr h))
  · simp [ownerOf, State.ownFobRead, slotField, pick_none (l := eight) h]
  · exact if_neg (Nat.not_lt.mpr h)
  · exact if_neg (Nat.not_le.mpr h)

/-- R167: the kinds of these fields have payloads of one length, and a freeze does not come before the range. -/
theorem decoderRefusal_rangedField {row : Kind × Nat × Nat} (hrow : row ∈ rangedFields) (hport : row.1.allows p = true)
    (hlength : q.length = row.1.length.1) (hfield : row.2.2 ≤ byteOf q row.2.1)
    (hopen : s.config.frozen.fobTable = false) : s.decoderRefusal row.1 p q = none := by
  have hone : ∀ row ∈ rangedFields, row.1.length.1 = row.1.length.2 := by decide
  have hgroup : ∀ row ∈ rangedFields, row.1 = .configWrite → row.2 = (0, 5) := by decide
  refine State.decoderRefusal_none (Nat.le_of_eq hlength.symm) (Nat.le_of_eq (hlength.trans (hone row hrow))) hport ?_
  rw [Bool.eq_false_iff, ne_eq, State.writesFrozen_iff]
  rintro (⟨hwrite, hfrozen⟩ | ⟨-, hfrozen⟩)
  · rw [hgroup row hrow hwrite] at hfield
    rw [List.getElem?_eq_none hfield] at hfrozen
    cases hfrozen
  · rw [hopen] at hfrozen
    cases hfrozen

/-- Settles O9: each owner looks the field up in its list, and a place past the list's end names no value. -/
theorem rangeRefusals : Obligations.RangeRefusals :=
  fun _ _ tag _ _ hrow hk hport hlength hfield hopen =>
    exec_owner_refused (tag := tag) hk (decoderRefusal_rangedField hrow hport hlength hfield hopen)
      (ownerOf_range hrow hfield)

end Sys2Proof.Machine
end

section
/-! The port engines byte by byte and the frames (R163, R167), the raw lines (R5), single timers (R61, R74), and what one
step is; the statements on them. -/

namespace Sys2Proof.Machine
open Sys2Proof

variable {s : State} {p : Port} {tag : Byte}

/-! ### Steps -/

/-- Settles O1: the step's first branch. -/
theorem stepTakesFront : Obligations.StepTakesFront := by
  intro s c rest h
  simp [step, h]

theorem State.due_none_of_held (hl : s.resetLine = true) : s.due = none := by
  simp [State.due, hl]

/-- Settles O2: on an empty queue the step runs what is due and else moves the timebase, which stands while the reset line
is asserted. -/
theorem stepOnEmptyQueue : Obligations.StepOnEmptyQueue := by
  intro s hempty
  refine ⟨fun c hc => ?_, fun hnone hl => ?_, fun hl => ?_⟩
  · simp [step, hempty, hc]
  · simp [step, hempty, hnone, State.tick, hl]
  · simp [step, hempty, State.due_none_of_held hl, State.tick, hl]

/-- The state after reset differs from a full reset of itself in the timers of the lines and in the notices alone. -/
theorem reset_of_fullReset : Only [.sensing, .notices] State.reset.fullReset State.reset := by
  refine ⟨fun x hx => ?_⟩
  cases x with
  | sensing => exact absurd hx (by decide)
  | notices => exact absurd hx (by decide)
  | _ => rfl

/-- Settles O3: a full reset meets each law, and the state after reset differs from it in nothing that a law reads. -/
theorem resetHoldsLaws : Obligations.ResetHoldsLaws :=
  ⟨(lockLaw_fullReset _).only reset_of_fullReset rfl, (slotLaw_fullReset _).only reset_of_fullReset rfl,
    (windowLaw_fullReset _).only reset_of_fullReset rfl, (traceLaw_fullReset _).only reset_of_fullReset rfl,
    (rangeLaw_fullReset _).only reset_of_fullReset rfl⟩

/-! ### A sent response, and a port that answers (R163, R172) -/

theorem exec_responseSent (hl : s.resetLine = false) (p : Port) : exec (.responseSent p) s = .next (s.responseSent p) :=
  congrArg Host.Outcome.next (State.live_of_not_held hl _)

/-- Settles O6: the soft reset hangs on the note that SOFT_RESET leaves. -/
theorem responseSentAndSoftResetRequest : Obligations.ResponseSentAndSoftResetRequest := by
  refine ⟨fun s p hl hanswering hdue => ?_, fun s tag hk => ?_⟩
  · rw [exec_responseSent hl]
    have hnot : (p = .b && (s.idlePort p).softResetDue) = false := by
      rw [Bool.and_eq_false_iff, decide_eq_false_iff_not]
      exact Decidable.or_iff_not_imp_left.mpr fun hb => hdue (Decidable.not_not.mp hb)
    simp only [State.responseSent, State.answering, hanswering, decide_true, if_true]
    rw [if_neg (by simp [hnot])]
    rfl
  · exact exec_passed (k := .softReset) hk rfl tag

theorem State.live_of_fixed {f : State → State} (h : f s = s) : s.live f = s := by
  simp [State.live, h]

/-- R163: what reaches a port that is answering is lost. -/
theorem State.request_answering (h : (s.ports.get p).engine = .answering) (k : Kind) (owner : List Byte → State → Reply)
    (tag : Byte) (q : List Byte) : s.request k owner p tag q = s := by
  simp [State.request, State.answering, h]

theorem State.takeFrame_answering (h : (s.ports.get p).engine = .answering) (tag kind : Byte) (q : List Byte) :
    s.takeFrame p tag kind q = s := by
  unfold State.takeFrame
  split
  · exact State.request_answering h _ _ _ _
  · simp [State.unknownRequest, State.answering, h]

theorem State.linkByte_answering (h : (s.ports.get p).engine = .answering) (b : Byte) : s.linkByte p b = s := by
  simp [State.linkByte, h]

/-! ### The kind byte (R167) -/

theorem Kind.ofByte_code (k : Kind) : Kind.ofByte k.code = some k := by
  cases k <;> rfl

/-- R167: a kind byte names the kind whose code it is. -/
theorem Kind.ofByte_eq_some {b : Byte} {k : Kind} : Kind.ofByte b = some k ↔ b = k.code := by
  refine ⟨fun h => ?_, fun h => h ▸ k.ofByte_code⟩
  unfold Kind.ofByte at h
  split at h
  · cases h
  next hb =>
    have hplace : Kind.list[Kind.list.idxOf k]? = some k := by cases k <;> rfl
    have hindex := (getElem?_eq_iff_index_eq (by decide) h hplace).mp rfl
    unfold Kind.code
    rw [hindex, Nat.sub_add_cancel (Nat.one_le_iff_ne_zero.mpr hb)]
    exact (BitVec.ofNat_toNat 8 b).symm.trans (by simp)

/-- R167: 0 and the numbers above 32 name no kind. -/
theorem Kind.ofByte_none {b : Byte} (h : b.toNat = 0 ∨ 32 < b.toNat) : Kind.ofByte b = none := by
  unfold Kind.ofByte
  split
  · rfl
  · exact List.getElem?_eq_none (show 32 ≤ b.toNat - 1 by omega)

theorem exec_unknownKind (hl : s.resetLine = false) (p : Port) (tag kind : Byte) (q : List Byte) :
    exec (.unknownKindRequest p tag kind q) s = .next (s.takeFrame p tag kind q) :=
  congrArg Host.Outcome.next (State.live_of_not_held hl _)

/-- Settles O10: a port that answers takes nothing, and a kind byte that names no kind is answered FORMAT. -/
theorem answeringPortAndUnknownKind : Obligations.AnsweringPortAndUnknownKind := by
  refine ⟨fun s p k tag b q h => ⟨?_, ?_, ?_, ?_⟩, fun s p tag kind q hk hkind => ?_⟩
  · rw [exec_command, State.live_of_fixed (State.request_answering h _ _ _ _)]
  · exact congrArg Host.Outcome.next (State.live_of_fixed (State.takeFrame_answering h _ _ _))
  · exact congrArg Host.Outcome.next (State.live_of_fixed (State.linkByte_answering h _))
  · exact congrArg Host.Outcome.next (State.live_of_fixed (by simp [State.discard, h]))
  · rw [exec_unknownKind hk.1]
    simp [State.takeFrame, Kind.ofByte_none hkind, State.unknownRequest, State.answering, hk.2]
    rfl

/-! ### Bytes on a link (R163) -/

theorem exec_linkByte (hl : s.resetLine = false) (p : Port) (b : Byte) :
    exec (.linkByteReceived p b) s = .next (s.linkByte p b) :=
  congrArg Host.Outcome.next (State.live_of_not_held hl _)

theorem State.linkByte_idle (h : (s.ports.get p).engine = .idle) (b : Byte) :
    s.linkByte p b = if b = 0x5C then s.receiving p [] else s := by
  simp [State.linkByte, h]

section Receiving
variable (h : (s.ports.get p).engine = .receiving) {b : Byte}
include h

theorem State.linkByte_receiving (b : Byte) : s.linkByte p b =
    if badLength ((s.ports.get p).buffer ++ [b]) then s.idlePort p
    else if wholeFrame ((s.ports.get p).buffer ++ [b]) then s.frameEnd p ((s.ports.get p).buffer ++ [b])
    else s.receiving p ((s.ports.get p).buffer ++ [b]) := by
  simp [State.linkByte, h]

/-- R163: a length byte outside 2 to 50 discards the frame. -/
theorem State.linkByte_badLength (hbuffer : (s.ports.get p).buffer = []) (hb : b.toNat < 2 ∨ 50 < b.toNat) :
    s.linkByte p b = s.idlePort p := by
  rw [State.linkByte_receiving h, hbuffer, if_pos (by simpa [State.badLength] using hb)]

theorem State.linkByte_length (hbuffer : (s.ports.get p).buffer = []) (hlow : 2 ≤ b.toNat) (hhigh : b.toNat ≤ 50) :
    s.linkByte p b = s.receiving p [b] := by
  rw [State.linkByte_receiving h, hbuffer, if_neg (by simp [State.badLength]; omega), if_neg (by simp [State.wholeFrame])]
  rfl

variable {l : Byte} {rest : List Byte} (hbuffer : (s.ports.get p).buffer = l :: rest)
include hbuffer

/-- R163: a byte before the last one is noted. -/
theorem State.linkByte_inside (hinside : (l :: rest).length ≠ l.toNat + 1) :
    s.linkByte p b = s.receiving p (l :: rest ++ [b]) := by
  rw [State.linkByte_receiving h, hbuffer, if_neg (by cases rest <;> simp [State.badLength]),
    if_neg (by simp [State.wholeFrame] at hinside ⊢; omega)]

/-- R163: the last byte ends the frame. -/
theorem State.linkByte_last (hlast : (l :: rest).length = l.toNat + 1) :
    s.linkByte p b = s.frameEnd p (l :: rest ++ [b]) := by
  rw [State.linkByte_receiving h, hbuffer, if_neg (by cases rest <;> simp [State.badLength]),
    if_pos (by simp [State.wholeFrame] at hlast ⊢; omega)]

end Receiving

theorem State.frameEnd_bad {buffer : List Byte} (h : byteSum buffer ≠ 0) : s.frameEnd p buffer = s.idlePort p := by
  unfold State.frameEnd
  rw [decide_eq_false h]

theorem State.frameEnd_good {l kind : Byte} {rest : List Byte} (h : byteSum (l :: tag :: kind :: rest) = 0) :
    s.frameEnd p (l :: tag :: kind :: rest) = s.takeFrame p tag kind rest.dropLast := by
  simp [State.frameEnd, h]

/-- Settles O11: the engine's moves on a byte by what it has received, and the two ways an unfinished frame is discarded. -/
theorem linkBytes : Obligations.LinkBytes := by
  intro s p b hl
  rw [exec_linkByte hl]
  refine ⟨fun h => ?_, fun h => ?_⟩
  · rw [State.linkByte_idle h]
    refine ⟨fun hb => by rw [if_neg hb], fun hb => by rw [if_pos hb]; rfl, ?_⟩
    exact congrArg Host.Outcome.next (State.live_of_fixed (by simp [State.discard, h]))
  · refine ⟨fun he hb => congrArg Host.Outcome.next (State.linkByte_badLength h he hb),
      fun he hlow hhigh => congrArg Host.Outcome.next (State.linkByte_length h he hlow hhigh), ?_, ?_, ?_, fun d hd => ?_⟩
    · intro hne hinside
      obtain ⟨l, rest, hbuffer⟩ := List.exists_cons_of_ne_nil hne
      rw [State.linkByte_inside h hbuffer (by simpa [hbuffer, byteOf] using hinside), hbuffer]
      rfl
    · intro hne hlast hsum
      obtain ⟨l, rest, hbuffer⟩ := List.exists_cons_of_ne_nil hne
      rw [hbuffer] at hsum
      rw [State.linkByte_last h hbuffer (by simpa [hbuffer, byteOf] using hlast), State.frameEnd_bad hsum]
      rfl
    · refine congrArg Host.Outcome.next ((State.live_of_not_held hl _).trans ?_)
      rw [State.discard, if_pos h]
      rfl
    · refine congrArg Host.Outcome.next ((State.live_of_not_held hl _).trans ?_)
      have hreached : ((s.reach d).ports.get p).engine = .receiving := h
      rw [State.linkTimeout, hd]
      show (s.reach d).discard p = _
      rw [State.discard, if_pos hreached]
      rfl

/-! ### Frames (R163, R164, R167) -/

theorem byteSum_append (l m : List Byte) : byteSum (l ++ m) = byteSum l + byteSum m := by
  have hfrom : ∀ (m : List Byte) (b : Byte), m.foldl (· + ·) b = b + m.foldl (· + ·) 0 := by
    intro m
    induction m with
    | nil => simp
    | cons x m ih =>
      intro b
      simp only [List.foldl_cons]
      rw [ih (b + x), ih (0 + x), BitVec.add_assoc]
      simp
  unfold byteSum
  rw [List.foldl_append, hfrom m]

/-- R163: the check byte makes the sum 0. -/
theorem byteSum_checked (l : List Byte) : byteSum (l ++ [checkByte l]) = 0 := by
  have hone : byteSum [checkByte l] = 0 - byteSum l := by simp [byteSum, checkByte]
  rw [byteSum_append, hone, BitVec.add_comm, BitVec.sub_add_cancel]

/-- Settles O13: the frame's layout is its definition, the check byte makes the sum 0, and the tables are evaluated. -/
theorem decoderTableAndFrames : Obligations.DecoderTableAndFrames := by
  refine ⟨⟨fun tag c q _ => ⟨checkByte _, rfl, byteSum_checked _⟩, by decide, by decide, by decide⟩, by decide,
    fun b k => Kind.ofByte_eq_some, by decide⟩

theorem receiving_engine (s : State) (p : Port) (buffer : List Byte) :
    (s.receiving p buffer).ports.get p = { engine := .receiving, buffer, timer := some (s.now + 50), response := none } := by
  simp [State.receiving, State.setPort]
  rfl

theorem receiving_receiving (s : State) (p : Port) (l m : List Byte) :
    (s.receiving p l).receiving p m = s.receiving p m := by
  simp [State.receiving, State.setPort]

theorem feed_cons (hl : s.resetLine = false) (b : Byte) (rest : List Byte) :
    feed p (b :: rest) s = feed p rest (s.linkByte p b) := by
  rw [feed, exec_linkByte hl]

/-- R163: bytes before the last one are noted one after another. -/
theorem feed_inside (hl : s.resetLine = false) {l : Byte} (rest more : List Byte) (bytes : List Byte)
    (h : rest.length + bytes.length ≤ l.toNat) :
    feed p (bytes ++ more) (s.receiving p (l :: rest)) = feed p more (s.receiving p (l :: rest ++ bytes)) := by
  induction bytes generalizing rest with
  | nil => simp
  | cons b bytes ih =>
    have hengine := receiving_engine s p (l :: rest)
    have hroom : (l :: rest).length ≠ l.toNat + 1 := by simp at h ⊢; omega
    rw [List.cons_append, feed_cons (s := s.receiving p (l :: rest)) hl,
      State.linkByte_inside (l := l) (rest := rest) (by rw [hengine]) (by rw [hengine]) hroom, receiving_receiving,
      List.cons_append, ih (rest ++ [b]) (by simp at h ⊢; omega)]
    simp

/-- R163: a frame's bytes lead to the frame being taken with every byte but the check byte received. -/
theorem feed_frame (hl : s.resetLine = false) (hidle : (s.ports.get p).engine = .idle) (tag kind : Byte) {q : List Byte}
    (hq : q.length ≤ 48) : feed p (frame 0x5C tag kind q) s =
      .next ((s.receiving p (BitVec.ofNat 8 (q.length + 2) :: tag :: kind :: q)).takeFrame p tag kind q) := by
  have hlength : (BitVec.ofNat 8 (q.length + 2)).toNat = q.length + 2 := by simp; omega
  generalize hn : BitVec.ofNat 8 (q.length + 2) = n at hlength ⊢
  have hframe : frame 0x5C tag kind q = 0x5C :: n :: ((tag :: kind :: q) ++ [checkByte (n :: tag :: kind :: q)]) := by
    simp [frame, hn]
  have hfirst := receiving_engine s p []
  have hbody := receiving_engine s p (n :: tag :: kind :: q)
  have hsum := byteSum_checked (n :: tag :: kind :: q)
  rw [hframe, feed_cons hl, State.linkByte_idle hidle, if_pos rfl, feed_cons (s := s.receiving p []) hl,
    State.linkByte_length (by rw [hfirst]) (by rw [hfirst]) (by omega) (by omega), receiving_receiving,
    feed_inside hl [] _ _ (by simp [hlength])]
  show feed p [_] (s.receiving p (n :: tag :: kind :: q)) = _
  rw [feed_cons (s := s.receiving p (n :: tag :: kind :: q)) hl,
    State.linkByte_last (l := n) (rest := tag :: kind :: q) (by rw [hbody]) (by rw [hbody]) (by simp [hlength])]
  show Host.Outcome.next _ = _
  exact congrArg Host.Outcome.next ((State.frameEnd_good hsum).trans (congrArg _ (List.dropLast_concat ..)))

/-- Settles O12: the frame's bytes are noted one by one, and the check byte hands the frame to the decoder. -/
theorem frameBytesAreTheRequest : Obligations.FrameBytesAreTheRequest := by
  intro s p tag b q hl hidle hq u hu
  have hreceiving : u = s.receiving p (BitVec.ofNat 8 (q.length + 2) :: tag :: b :: q) := hu
  rw [feed_frame hl hidle tag b hq, ← hreceiving]
  have hheld : u.resetLine = false := by rw [hu]; exact hl
  refine ⟨fun k hkind => ?_, fun _ => (exec_unknownKind hheld p tag b q).symm⟩
  rw [exec_command, State.live_of_not_held hheld, State.takeFrame, Kind.ofByte_eq_some.mpr hkind]

/-! ### Lines and single timers (R5, R61, R74) -/

/-- Settles O26: each expiry reaches its time and writes its own entry or slot. -/
theorem keylessTimers : Obligations.KeylessTimers := by
  intro s x i hl
  refine ⟨fun d h => (exec_touchWindowExpiry_waiting hl h).trans rfl,
    fun d h => (exec_touchHoldExpiry_expired hl h).trans rfl, fun k h => ?_⟩
  refine congrArg Host.Outcome.next ((State.live_of_not_held hl _).trans ?_)
  rw [State.candidateEnd, h]
  rfl

/-- R6: a pin of a lock pair changes the pair where it changes its own line. -/
theorem State.rawFeed_lock (s : State) (x : Feed LockPins) (v : Bool) : s.rawFeed x { x.raw with lock := v } =
    if x.raw.lock = v then x else { x with raw := { x.raw with lock := v }, timer := s.stabilityTimer } := by
  have hsame : x.raw = { x.raw with lock := v } ↔ x.raw.lock = v :=
    ⟨fun h => congrArg LockPins.lock h, fun h => by rw [← h]⟩
  simp only [State.rawFeed, hsame]

theorem State.rawFeed_sup (s : State) (x : Feed LockPins) (v : Bool) : s.rawFeed x { x.raw with sup := v } =
    if x.raw.sup = v then x else { x with raw := { x.raw with sup := v }, timer := s.stabilityTimer } := by
  have hsame : x.raw = { x.raw with sup := v } ↔ x.raw.sup = v :=
    ⟨fun h => congrArg LockPins.sup h, fun h => by rw [← h]⟩
  simp only [State.rawFeed, hsame]

/-- Settles O30: the raw level of a line is written in its own stage. -/
theorem rawLineChange : Obligations.RawLineChange := by
  rintro s c a r x o lv ch v pos timer rfl
  refine ⟨rfl, ?_, ?_, ?_, rfl, rfl, rfl, rfl, rfl, rfl⟩
  · show Host.Outcome.next (s.rawLine _) = _
    simp only [State.rawLine, State.rawFeed_lock]
    rfl
  · show Host.Outcome.next (s.rawLine _) = _
    simp only [State.rawLine, State.rawFeed_sup]
    rfl
  · show Host.Outcome.next (s.rawLine _) = _
    simp only [State.rawLine, State.rawFeed_lock]
    rfl

end Sys2Proof.Machine
end

section
/-! The full resets (R172): the reset values of every block, what the first temperature and supply measurements decide,
and the statements on them. -/

namespace Sys2Proof.Machine
open Sys2Proof

variable (s : State)

/-- R172, R158, R160: the state after the release of a reset whose first measurements are judged `temp` and `supply`. -/
def State.restarted (cause : ResetCause) (temp : TempState) (deg : Int) (supply : SupplyState) (v : Nat) : State :=
  { s.fullReset with
    crash := { Crash.reset with
      line := s.crash.line
      detector := if s.crash.line then .asserting else .released
      timer := if s.crash.line then some 20 else none }
    win := { WindowCtl.reset with
      recs := .all { WindowRec.reset with
        motion := if temp = .hot || supply = .cut then .inhibited else .idle
        causes := ⟨false, temp = .hot, supply = .cut, false⟩ } }
    mon := { Monitors.reset with
      temp, lastTemp := clamp (-40) 200 deg, supply, lastV := min 1023 v
      flags := ⟨false, false, false, false, temp != .normal, temp = .hot, supply != .normal, supply = .cut⟩ }
    notices :=
      { b := { NoticeSet.empty with restarted := some cause, thermal := temp != .normal, supply := supply != .normal }
        k := { NoticeSet.empty with restarted := some cause }
        d := { NoticeSet.empty with restarted := some cause } } }

/-! ### A part at rest -/

/-- R158: a temperature measurement whose new state is `new`. -/
def State.judgedTemp (new : TempState) (deg : Int) : State :=
  let t := { s with mon := { s.mon with temp := new, lastTemp := clamp (-40) 200 deg } }
  let t := t.setFlags (fun f => { f with twarm := f.twarm || new != .normal, thot := f.thot || new = .hot })
  if new = s.mon.temp then t else t.raiseThermal.handTemp s.mon.temp new

/-- R160: a supply measurement whose new state is `new`. -/
def State.judgedSupply (new : SupplyState) (v : Nat) : State :=
  let t := { s with mon := { s.mon with supply := new, lastV := min 1023 v } }
  let t := t.setFlags (fun f => { f with slow := f.slow || new != .normal, scut := f.scut || new = .cut })
  if new = s.mon.supply then t else t.raiseSupply.handSupply s.mon.supply new

theorem State.measureTemp_eq (deg : Int) : s.measureTemp deg = s.judgedTemp (judgeTemp s.mon.temp deg) deg := rfl

theorem State.measureSupply_eq (v : Nat) : s.measureSupply v = s.judgedSupply (judgeSupply s.mon.supply v) v := rfl


/-- A record of a window that neither moves nor brakes. -/
def WindowRec.atRest (r : WindowRec) : Prop :=
  r.startWindow = none ∧ r.stall = none ∧ r.stallReached = false ∧ r.dwell = none ∧ r.brake = none

/-- Nothing moves: no bridge is on, no stroke and no record is open, no operation and no command is there. -/
structure AtRest (t : State) : Prop where
  chans : ∀ w, (t.chan (.w w)).ended .off = t.chan (.w w)
  strokes : ∀ w, (t.refsOf w).stroke = none
  filling : ∀ w, t.fillingBuffer w = none
  ops : ∀ a, t.opAt a = none
  queue : t.seq.queue = []

section Rest
variable {t u : State}

theorem State.offChan_ended {w : Window} (h : (t.chan (.w w)).ended .off = t.chan (.w w)) : t.offChan (.w w) = t := by
  have hset : t.mon.chans.set (.w w) (t.mon.chans.get (.w w)) = t.mon.chans := by simp [Channels.set, Channels.get]
  unfold State.offChan State.setChan
  rw [h, State.chan, hset]

theorem State.setRefs_same (w : Window) : t.setRefs w (t.refsOf w) = t := by
  simp [State.setRefs, State.refsOf]

theorem State.markStroke_none {w : Window} (h : (t.refsOf w).stroke = none) (f : Marks → Marks) : t.markStroke w f = t := by
  have hsame : { t.refsOf w with stroke := (t.refsOf w).stroke.map (fun k => { k with marks := f k.marks }) } = t.refsOf w := by
    rw [h, Option.map_none, ← h]
  rw [State.markStroke, hsame, State.setRefs_same]

theorem State.endStroke_none {w : Window} (h : (t.refsOf w).stroke = none) : t.endStroke w = t := by
  have hsame : { t.refsOf w with stroke := none } = t.refsOf w := by rw [← h]
  rw [State.endStroke, hsame, State.setRefs_same]

theorem State.completeFilling_none {w : Window} (h : t.fillingBuffer w = none) (x : Completion) :
    t.completeFilling w x = t := by
  rw [State.completeFilling, h]

namespace AtRest
variable (h : AtRest t)
include h

/-- Rest depends on the operations, the queue, the channels, the strokes and the buffers alone. -/
theorem of_eq (hseq : u.seq = t.seq) (hchans : u.mon.chans = t.mon.chans) (hrefs : u.refs = t.refs)
    (htrace : u.trace = t.trace) : AtRest u where
  chans w := by simpa only [State.chan, hchans] using h.chans w
  strokes w := by simpa only [State.refsOf, hrefs] using h.strokes w
  filling w := by
    have hbuffers : u.fillsFor w = t.fillsFor w := by
      funext i
      simp only [State.fillsFor, State.bufferAt, htrace]
    rw [State.fillingBuffer, hbuffers]
    exact h.filling w
  ops a := by simpa only [State.opAt, hseq] using h.ops a
  queue := by rw [hseq]; exact h.queue

/-- R99: nothing but the record of a window at rest changes as its motion is dropped. -/
theorem stopMotion {w : Window} (hr : (t.winRec w).atRest) (next : Motion) (x : Completion) :
    t.stopMotion w next false x = t.setWin w { t.winRec w with motion := next } := by
  obtain ⟨hstart, hstall, hreached, hdwell, hbrake⟩ := hr
  have hsame : { t.winRec w with motion := next, startWindow := none, stall := none, stallReached := false, dwell := none, brake := none } =
      { t.winRec w with motion := next } := by
    simp only [hstart, hstall, hreached, hdwell, hbrake]
  have hput : AtRest (t.setWin w { t.winRec w with motion := next }) := h.of_eq rfl rfl rfl rfl
  unfold State.stopMotion
  dsimp only
  rw [if_neg (by decide), if_neg (by decide), hsame, State.offChan_ended (hput.chans w),
    State.endStroke_none (hput.strokes w), State.completeFilling_none (hput.filling w)]

/-- R104: a cause added to a window at rest writes its record alone. -/
theorem addCause {w : Window} {r : WindowRec} (hrec : t.winRec w = r) (hr : r.atRest) (k : Cause) :
    t.addCause w k = t.setWin w { r with motion := .inhibited, causes := r.causes.put k true } := by
  subst hrec
  unfold State.addCause
  dsimp only
  split
  next hm => rw [← hm]
  next =>
    have hput : AtRest (t.setWin w { t.winRec w with causes := (t.winRec w).causes.put k true }) := h.of_eq rfl rfl rfl rfl
    have hrest : ((t.setWin w { t.winRec w with causes := (t.winRec w).causes.put k true }).winRec w).atRest := by
      rw [State.setWin_self]
      exact hr
    rw [hput.stopMotion hrest, State.setWin_self]
    simp only [State.setWin, Windows.set_set]

/-- R104: a cause added to every window of a part at rest. -/
theorem addCauseAll {r : WindowRec} (hrecs : t.win.recs = .all r) (hr : r.atRest) (k : Cause) :
    t.addCauseAll k = { t with win := { t.win with
      recs := .all { r with motion := .inhibited, causes := r.causes.put k true } } } := by
  have hrec : ∀ w, t.winRec w = r := fun w => by rw [State.winRec, hrecs]; exact Windows.get_all w r
  have hput : ∀ {u : State} {w : Window} {x}, AtRest u → AtRest (u.setWin w x) := fun hu => hu.of_eq rfl rfl rfl rfl
  have hother : ∀ {u : State} {w x : Window} {y}, x ≠ w → u.winRec x = r → (u.setWin w y).winRec x = r := fun hne hu => by
    rw [State.setWin_winRec, if_neg hne, hu]
  show (((t.addCause .wfd k).addCause .wfp k).addCause .wrd k).addCause .wrp k = _
  rw [h.addCause (hrec .wfd) hr, (hput h).addCause (hother (by decide) (hrec .wfp)) hr,
    (hput (hput h)).addCause (hother (by decide) (hother (by decide) (hrec .wrd))) hr,
    (hput (hput (hput h))).addCause (hother (by decide) (hother (by decide) (hother (by decide) (hrec .wrp)))) hr]
  rfl

theorem markAllStrokes (f : Marks → Marks) : t.markAllStrokes f = t := by
  have hall : ∀ l : List Window, l.foldl (fun s w => s.markStroke w f) t = t := by
    intro l
    induction l with
    | nil => rfl
    | cons w l ih => rw [List.foldl_cons, State.markStroke_none (h.strokes w), ih]
  exact hall _

theorem dropPulses : t.dropPulses = t := by
  have hall : ∀ l : List Actuator, l.foldl State.dropPulse t = t := by
    intro l
    induction l with
    | nil => rfl
    | cons a l ih => rw [List.foldl_cons, State.dropPulse, h.ops a, ih]
  exact hall _

theorem thermalAborts : t.thermalAborts = t := by
  have hall : ∀ l : List Actuator, l.foldl State.thermalAbort t = t := by
    intro l
    induction l with
    | nil => rfl
    | cons a l ih => rw [List.foldl_cons, State.thermalAbort, h.ops a, ih]
  rw [State.thermalAborts, hall, State.finishIfDone, h.queue]

section Measured
variable {r : WindowRec} (hrecs : t.win.recs = .all r) (hr : r.atRest)
include hrecs hr

/-- R159: what the readers of a first temperature do to a part at rest. -/
theorem handTemp (new : TempState) : t.handTemp .normal new =
    { t with win := { t.win with
      recs := .all (if new = .hot then { r with motion := .inhibited, causes := r.causes.put .thermal true } else r) } } := by
  cases new with
  | normal =>
    rw [if_neg (by decide), ← hrecs]
    rfl
  | warm =>
    rw [if_neg (by decide), ← hrecs]
    exact h.markAllStrokes _
  | hot =>
    rw [if_pos rfl, ← h.addCauseAll hrecs hr]
    refine AtRest.thermalAborts ?_
    rw [h.addCauseAll hrecs hr]
    exact h.of_eq rfl rfl rfl rfl

/-- R160: what the readers of a first supply measurement do to a part at rest. -/
theorem handSupply (new : SupplyState) : t.handSupply .normal new =
    { t with win := { t.win with
      recs := .all (if new = .cut then { r with motion := .inhibited, causes := r.causes.put .supply true } else r) } } := by
  cases new with
  | normal =>
    rw [if_neg (by decide), ← hrecs]
    rfl
  | low =>
    rw [if_neg (by decide), ← hrecs]
    exact h.markAllStrokes _
  | cut =>
    rw [if_pos rfl, ← h.addCauseAll hrecs hr]
    refine AtRest.dropPulses ?_
    rw [h.addCauseAll hrecs hr]
    exact h.of_eq rfl rfl rfl rfl

/-- R158, R159: what a first temperature measurement does to a part at rest. -/
theorem judgedTemp (hnormal : t.mon.temp = .normal) (new : TempState) (deg : Int) : t.judgedTemp new deg =
    { t with
      mon := { t.mon with
        temp := new
        lastTemp := clamp (-40) 200 deg
        flags := { t.mon.flags with
          twarm := t.mon.flags.twarm || new != .normal
          thot := t.mon.flags.thot || new = .hot } }
      win := { t.win with
        recs := .all (if new = .hot then { r with motion := .inhibited, causes := r.causes.put .thermal true } else r) }
      notices := { t.notices with b := { t.notices.b with thermal := t.notices.b.thermal || new != .normal } } } := by
  have hhand (u : State) (hu : AtRest u) (hsame : u.win.recs = .all r) := hu.handTemp hsame hr new
  unfold State.judgedTemp
  dsimp only
  rw [hnormal]
  split
  next hnew =>
    rw [if_neg (by rw [hnew]; decide), ← hrecs, hnew]
    simp [State.setFlags]
  next hnew =>
    rw [hhand]
    · simp [State.setFlags, State.raiseThermal, State.onPort, State.setNotices, Ports.set, Ports.get, hnew]
    · exact h.of_eq rfl rfl rfl rfl
    · exact hrecs

/-- R160: what a first supply measurement does to a part at rest. -/
theorem judgedSupply (hnormal : t.mon.supply = .normal) (new : SupplyState) (v : Nat) : t.judgedSupply new v =
    { t with
      mon := { t.mon with
        supply := new
        lastV := min 1023 v
        flags := { t.mon.flags with
          slow := t.mon.flags.slow || new != .normal
          scut := t.mon.flags.scut || new = .cut } }
      win := { t.win with
        recs := .all (if new = .cut then { r with motion := .inhibited, causes := r.causes.put .supply true } else r) }
      notices := { t.notices with b := { t.notices.b with supply := t.notices.b.supply || new != .normal } } } := by
  have hhand (u : State) (hu : AtRest u) (hsame : u.win.recs = .all r) := hu.handSupply hsame hr new
  unfold State.judgedSupply
  dsimp only
  rw [hnormal]
  split
  next hnew =>
    rw [if_neg (by rw [hnew]; decide), ← hrecs, hnew]
    simp [State.setFlags]
  next hnew =>
    rw [hhand]
    · simp [State.setFlags, State.raiseSupply, State.onPort, State.setNotices, Ports.set, Ports.get, hnew]
    · exact h.of_eq rfl rfl rfl rfl
    · exact hrecs

end Measured

end AtRest

end Rest

/-- R44: the detector as a reset leaves it on a crash line that stands as it stood. -/
theorem State.startDetector_fullReset : s.fullReset.startDetector = { s.fullReset with
    crash := { Crash.reset with
      line := s.crash.line
      detector := if s.crash.line then .asserting else .released
      timer := if s.crash.line then some 20 else none } } := by
  have hkept : s.fullReset.crash.line = s.crash.line := rfl
  rw [State.startDetector, hkept]
  split
  · rfl
  · rfl

theorem atRest_fullReset : AtRest s.fullReset where
  chans w := by cases w <;> rfl
  strokes w := by cases w <;> rfl
  filling w := rfl
  ops a := by
    cases a with
    | l c => cases c <;> rfl
    | c r => cases r <;> rfl
    | t1 => rfl
  queue := rfl

/-- R158, R160: from NORMAL the first measurements are judged without hysteresis, and what they inhibit is the windows. -/
theorem State.released_fullReset (cause : ResetCause) (deg : Int) (v : Nat) :
    s.fullReset.released cause deg v = s.restarted cause (judgeTemp .normal deg) deg (judgeSupply .normal v) v := by
  obtain ⟨u, hu⟩ : ∃ u, u = s.fullReset.startDetector.raiseRestarted cause := ⟨_, rfl⟩
  have hvalue := hu
  rw [s.startDetector_fullReset] at hvalue
  have hrest : AtRest u := by
    rw [hvalue]
    exact (atRest_fullReset s).of_eq rfl rfl rfl rfl
  have htemp := hrest.judgedTemp (r := .reset) (by rw [hvalue]; rfl) ⟨rfl, rfl, rfl, rfl, rfl⟩ (by rw [hvalue]; rfl)
    (judgeTemp .normal deg) deg
  have hmeasured : s.fullReset.released cause deg v = (u.judgedTemp (judgeTemp .normal deg) deg).measureSupply v := by
    rw [State.released, ← hu, State.measureTemp_eq, hvalue]
    rfl
  rw [hmeasured]
  generalize judgeTemp .normal deg = temp at htemp ⊢
  have hsecond : AtRest (u.judgedTemp temp deg) := by
    rw [htemp]
    exact hrest.of_eq rfl rfl rfl rfl
  have hnormal : (u.judgedTemp temp deg).mon.supply = .normal := by
    rw [htemp, hvalue]
    rfl
  rw [State.measureSupply_eq, hnormal]
  generalize judgeSupply .normal v = supply
  rw [hsecond.judgedSupply (r := if temp = .hot then
    { WindowRec.reset with motion := .inhibited, causes := WindowRec.reset.causes.put .thermal true } else .reset)
    (by rw [htemp]) (by split <;> exact ⟨rfl, rfl, rfl, rfl, rfl⟩) hnormal, htemp, hvalue, State.restarted]
  cases temp <;> cases supply <;> rfl

/-! ### The reset values -/

/-- A vector of equal entries. -/
theorem getElem_replicate_fin {α : Type} {n : Nat} (x : α) (i : Fin n) : (Vector.replicate n x)[i] = x :=
  Vector.getElem_replicate ..

section Values
variable {s}

theorem fullResetValues_fullReset : FullResetValues s.fullReset where
  now := rfl
  closures c := by cases c <;> rfl
  childs r := by cases r <;> rfl
  queue := rfl
  ops a := by
    cases a with
    | l c => cases c <;> rfl
    | c r => cases r <;> rfl
    | t1 => rfl
  heatL c := by cases c <;> rfl
  heatC r := by cases r <;> rfl
  repeatRec := rfl
  relock := rfl
  latch := rfl
  slots i := getElem_replicate_fin _ i
  session := rfl
  touch x := by cases x <;> rfl
  windows w := by cases w <;> exact ⟨rfl, rfl, rfl, rfl, rfl, rfl, rfl, rfl, rfl, rfl⟩
  rearLockout := rfl
  mode := rfl
  retained := rfl
  pinch w := by cases w <;> exact ⟨rfl, rfl, rfl, rfl, rfl⟩
  refs w := by cases w <;> exact ⟨fun z => getElem_replicate_fin _ z, rfl, rfl, rfl⟩
  rings w := by cases w <;> rfl
  buffers i := getElem_replicate_fin _ i
  captures := rfl
  sequence := rfl
  timeTag := by
    show (0 - 0) / 10 % 4294967296 = 0
    decide
  cursor := rfl
  chans ch := by
    cases ch with
    | act a =>
      cases a with
      | l c => cases c <;> exact ⟨rfl, rfl, rfl, rfl, rfl, rfl, rfl⟩
      | c r => cases r <;> exact ⟨rfl, rfl, rfl, rfl, rfl, rfl, rfl⟩
      | t1 => exact ⟨rfl, rfl, rfl, rfl, rfl, rfl, rfl⟩
    | w w => cases w <;> exact ⟨rfl, rfl, rfl, rfl, rfl, rfl, rfl⟩
  offTick := rfl
  policy := ⟨rfl, rfl, rfl, rfl, rfl⟩
  cal w := by cases w <;> rfl
  gain b := getElem_replicate_fin _ b
  masks := ⟨fun ch => by
    cases ch with
    | act a =>
      cases a with
      | l c => cases c <;> rfl
      | c r => cases r <;> rfl
      | t1 => rfl
    | w w => cases w <;> rfl, rfl⟩
  frozen := rfl
  ports p := by cases p <;> rfl
  staging := rfl
  softResetDue := rfl

/-- The reset values do not tell what the first measurements and the crash line decide. -/
theorem fullResetValues_restarted (cause : ResetCause) (temp : TempState) (deg : Int) (supply : SupplyState) (v : Nat) :
    FullResetValues (s.restarted cause temp deg supply v) :=
  { fullResetValues_fullReset (s := s) with
    latch := rfl
    windows := fun w => by cases w <;> exact ⟨rfl, rfl, rfl, rfl, rfl, rfl, rfl, rfl, rfl, rfl⟩ }

/-- R5: the lines of a reset state are read from the lines alone. -/
theorem linesRestarted_of_eq {t : State} (h : t.sensing = s.sensing.restarted) : LinesRestarted s t where
  latch c := by rw [h]; exact Closures.get_map ..
  feedback c := by rw [h]; exact Closures.get_map ..
  child r := by rw [h]; exact Rears.get_map ..
  handle c := by rw [h]; exact Sides.get_map ..
  keyLock := by rw [h]; rfl
  keyUnlock := by rw [h]; rfl
  touch x := by rw [h]; exact Touches.get_map ..
  switch w := by rw [h]; exact Switches.get_map ..

/-! ### The judged values -/

theorem judgeTemp_normal_hot {deg : Int} : judgeTemp .normal deg = .hot ↔ 150 ≤ deg := by
  unfold judgeTemp
  dsimp only
  repeat' split
  all_goals
    simp
    omega

theorem judgeTemp_normal_normal {deg : Int} : judgeTemp .normal deg = .normal ↔ ¬ 125 ≤ deg := by
  unfold judgeTemp
  dsimp only
  repeat' split
  all_goals
    simp
    omega

theorem judgeSupply_normal_eq (v : Nat) :
    judgeSupply .normal v = if v < 400 ∨ 800 < v then .cut else if v < 450 then .low else .normal := by
  simp [judgeSupply]

theorem judgeSupply_normal_cut {v : Nat} : judgeSupply .normal v = .cut ↔ v < 400 ∨ 800 < v := by
  rw [judgeSupply_normal_eq]
  repeat' split
  all_goals
    simp
    omega

theorem judgeSupply_normal_normal {v : Nat} : judgeSupply .normal v = .normal ↔ ¬ (v < 450 ∨ 800 < v) := by
  rw [judgeSupply_normal_eq]
  repeat' split
  all_goals
    simp
    omega

theorem fullResetJudged_restarted {u : State} (hl : u.resetLine = false) (hline : u.crash.line = s.crash.line)
    (hpending : u.pending = s.pending) (hfree : u.freeCount = s.freeCount) (cause : ResetCause) (deg : Int) (v : Nat) :
    FullResetJudged s (u.restarted cause (judgeTemp .normal deg) deg (judgeSupply .normal v) v) cause deg v := by
  have hhot : decide (judgeTemp .normal deg = .hot) = decide (150 ≤ deg) := decide_eq_decide.mpr judgeTemp_normal_hot
  have hcut : decide (judgeSupply .normal v = .cut) = decide (v < 400 ∨ 800 < v) :=
    decide_eq_decide.mpr judgeSupply_normal_cut
  have hwarm : (judgeTemp .normal deg != .normal) = decide (125 ≤ deg) := by
    rw [Bool.eq_iff_iff, bne_iff_ne, ne_eq, judgeTemp_normal_normal, Decidable.not_not, decide_eq_true_iff]
  have hlow : (judgeSupply .normal v != .normal) = decide (v < 450 ∨ 800 < v) := by
    rw [Bool.eq_iff_iff, bne_iff_ne, ne_eq, judgeSupply_normal_normal, Decidable.not_not, decide_eq_true_iff]
  have hinhibit : (decide (judgeTemp .normal deg = .hot) || decide (judgeSupply .normal v = .cut)) = true ↔
      (150 ≤ deg ∨ v < 400 ∨ 800 < v) := by
    rw [Bool.or_eq_true, decide_eq_true_iff, decide_eq_true_iff, judgeTemp_normal_hot, judgeSupply_normal_cut]
  have hrecord (w : Window) : (u.restarted cause (judgeTemp .normal deg) deg (judgeSupply .normal v) v).winRec w = _ :=
    Windows.get_all w _
  refine ⟨hl, hline, ?_, fun w => ?_, rfl, judgeSupply_normal_eq v, ⟨fun hlow hhigh => ?_, fun hv => Nat.min_eq_right hv⟩, ?_,
    ?_, rfl, rfl, hpending, hfree⟩
  · show (if u.crash.line then Detector.asserting else .released, if u.crash.line then some 20 else none) = _
    rw [hline]
    split <;> rfl
  · rw [hrecord]
    dsimp only
    refine ⟨?_, ite_congr (propext hinhibit) (fun _ => rfl) fun _ => rfl⟩
    rw [hhot, hcut]
  · exact (Int.max_eq_right (Int.le_min.mpr ⟨by omega, hlow⟩)).trans (Int.min_eq_right hhigh)
  · show StickyFlags.mk _ _ _ _ _ _ _ _ = _
    rw [hhot, hcut, hwarm, hlow]
  · show ({ NoticeSet.empty with restarted := some cause, thermal := _, supply := _ } : NoticeSet) = _
    rw [hwarm, hlow]

end Values

/-- Settles O4: the release of a reset is the reset state with the first measurements judged. -/
theorem fullReset : Obligations.FullReset := by
  intro s deg v
  refine ⟨fun hl => ⟨s.fullReset.released .powerOn deg v, ?_, ?_⟩,
    fun hl => ⟨(State.fullReset { s with resetLine := false }).released .resetLine deg v, ?_, ?_⟩⟩
  · have hreleased : s.fullReset.resetLine = false := hl
    show Host.Outcome.next (s.powerOn deg v) = _
    rw [State.powerOn, if_neg (by rw [hreleased]; decide)]
  · rw [s.released_fullReset]
    exact ⟨fullResetValues_restarted _ _ _ _ _, linesRestarted_of_eq rfl, fullResetJudged_restarted hl rfl rfl rfl _ _ _⟩
  · show Host.Outcome.next (s.releaseReset deg v) = _
    rw [State.releaseReset, if_pos hl]
  · rw [State.released_fullReset]
    exact ⟨fullResetValues_restarted _ _ _ _ _, linesRestarted_of_eq rfl, fullResetJudged_restarted (s := s) (u := { s with resetLine := false }) rfl rfl rfl rfl _ _ _⟩

/-- R172: while the reset line is asserted, what is neither a pin nor the reset itself is not taken. -/
theorem exec_held {s : State} (hl : s.resetLine = true) {c : Instr} (hraw : ∀ r, c ≠ .rawLineChange r)
    (hcrash : ∀ b, c ≠ .crashLineChange b) (hassert : c ≠ .resetLineAssert) (hpower : ∀ deg v, c ≠ .powerOn deg v)
    (hrelease : ∀ deg v, c ≠ .resetLineRelease deg v) : exec c s = .next s := by
  cases c with
  | rawLineChange r => exact absurd rfl (hraw r)
  | crashLineChange b => exact absurd rfl (hcrash b)
  | resetLineAssert => exact absurd rfl hassert
  | powerOn deg v => exact absurd rfl (hpower deg v)
  | resetLineRelease deg v => exact absurd rfl (hrelease deg v)
  | _ => exact congrArg Host.Outcome.next (State.live_of_held hl _)

/-- Settles O5: the held part is a full reset, and every other command is gated by the reset line. -/
theorem resetLineHolds : Obligations.ResetLineHolds :=
  ⟨fun s => ⟨s.holdReset, rfl, rfl, fullResetValues_fullReset, rfl, rfl, rfl, fun _ => rfl, rfl⟩,
    fun _ _ hl => exec_held hl⟩

end Sys2Proof.Machine
end

section
/-! The bytes of payloads (R165): the lengths and bytes of each field type, the pieces of a segmented read joined, and the
fields as the statements lay them out. -/

namespace Sys2Proof.Machine
open Sys2Proof

/-! ### Single bytes -/

@[simp] theorem u8_length (n : Nat) : (u8 n).length = 1 := rfl

@[simp] theorem u16_length (n : Nat) : (u16 n).length = 2 := rfl

@[simp] theorem u24_length (n : Nat) : (u24 n).length = 3 := rfl

@[simp] theorem u32_length (n : Nat) : (u32 n).length = 4 := rfl

@[simp] theorem i16_length (z : Int) : (i16 z).length = 2 := rfl

@[simp] theorem flagByte_length (b : Bool) : (flagByte b).length = 1 := rfl

@[simp] theorem setByte_length (l : List Bool) : (setByte l).length = 1 := rfl

@[simp] theorem enumByte_length {α : Type} [DecidableEq α] (l : List α) (x : α) : (enumByte l x).length = 1 := rfl

@[simp] theorem posBytes_length (p : Option Int) : (posBytes p).length = 2 := by
  cases p <;> rfl

@[simp] theorem motionByte_length (m : Motion) : (motionByte m).length = 1 := by
  cases m <;> rfl

@[simp] theorem phaseByte_length (o : Option Op) : (phaseByte o).length = 1 := by
  cases o <;> rfl

@[simp] theorem driveByte_length (d : Drive) : (driveByte d).length = 1 := by
  cases d <;> rfl

@[simp] theorem lastSourceBytes_length (x : LastSource) : (lastSourceBytes x).length = 2 := by
  cases x <;> rfl

theorem optField_length_le {α : Type} {f : α → List Byte} {n : Nat} (hf : ∀ x, (f x).length ≤ n) (o : Option α) :
    1 ≤ (optField f o).length ∧ (optField f o).length ≤ n + 1 := by
  cases o with
  | none => exact ⟨Nat.le.refl, Nat.le_add_left 1 n⟩
  | some x =>
    have h := hf x
    simp [optField]
    omega

theorem holderBytes_length (h : Holder) : (holderBytes h).length = 2 := by
  cases h with
  | of x => cases x <;> rfl
  | reversal => rfl

theorem runField_length_le (m : Motion) : (runField m).length ≤ 5 := by
  cases m with
  | dwell k => cases k <;> exact Nat.le.refl
  | run k => exact Nat.le.refl
  | _ => exact Nat.le_of_ble_eq_true rfl

/-- The two bytes of a number below 65,536 spell it. -/
theorem ofBytes_pair {n : Nat} (h : n < 65536) :
    256 * (BitVec.ofNat 8 (n / 256)).toNat + (BitVec.ofNat 8 n).toNat = n := by
  simp only [BitVec.toNat_ofNat]
  omega

/-- An entry's place in a list of at most 255 entries fits a byte. -/
theorem toNat_idxOf {α : Type} [DecidableEq α] {l : List α} (hl : l.length ≤ 255) (x : α) :
    (BitVec.ofNat 8 (l.idxOf x)).toNat = l.idxOf x := by
  have hle := List.idxOf_le_length (l := l) (a := x)
  rw [BitVec.toNat_ofNat]
  exact Nat.mod_eq_of_lt (by omega)

/-! ### Sets (R165) -/

theorem setBits_cons (b : Bool) (l : List Bool) : setBits (b :: l) = bit b + 2 * setBits l := rfl

/-- R165: the number of a set is its members' bits, bit 0 first. -/
theorem setNumber_eq_setBits (l : List Bool) : setNumber l = setBits l := by
  have hfrom : ∀ (l : List Bool) (k : Nat),
      ((l.zipIdx k).map (fun b => if b.1 then 2 ^ b.2 else 0)).sum = 2 ^ k * setBits l := by
    intro l
    induction l with
    | nil => intro k; rfl
    | cons b l ih =>
      intro k
      rw [List.zipIdx_cons, List.map_cons, List.sum_cons, ih, setBits_cons, Nat.pow_succ,
        Nat.mul_assoc]
      cases b with
      | false => exact (Nat.zero_add _).trans (congrArg _ (Nat.zero_add _).symm)
      | true => exact (Nat.mul_one _ ▸ Nat.mul_add (2 ^ k) 1 (2 * setBits l)).symm
  exact (hfrom l 0).trans (Nat.one_mul _)

theorem setBits_lt (l : List Bool) : setBits l < 2 ^ l.length := by
  induction l with
  | nil => decide
  | cons b l ih =>
    rw [setBits_cons, List.length_cons, Nat.pow_succ]
    cases b <;> simp [bit] <;> omega

/-- R165: the bits of the number of a set are its members. -/
theorem setBits_testBit (l : List Bool) (n : Nat) : (setBits l).testBit n = l.getD n false := by
  induction l generalizing n with
  | nil => simp [setBits]
  | cons b l ih =>
    rw [setBits_cons]
    cases n with
    | zero => cases b <;> simp [bit, Nat.testBit_zero]
    | succ n =>
      rw [Nat.testBit_succ, List.getD_cons_succ, ← ih]
      congr 1
      cases b <;> simp [bit]; omega

/-! ### Segments (R165) -/

theorem piece_length (content : List Byte) (index : Nat) : (piece content index).length = 44 := by
  simp only [piece, List.length_append, List.length_take, List.length_drop, List.length_replicate]
  omega

theorem segment_length (content : List Byte) (index total : Nat) : (segment content index total).length = 46 := by
  simp [segment, piece_length]

theorem segment_take (content : List Byte) (index total : Nat) :
    (segment content index total).take 2 = u8 index ++ u8 total := rfl

theorem segment_drop (content : List Byte) (index total : Nat) : (segment content index total).drop 2 = piece content index :=
  rfl

/-- R165: a piece is cut from the content padded with 00h. -/
theorem piece_eq_padded (content : List Byte) (index pad : Nat) (h : 44 * (index + 1) ≤ content.length + pad) :
    piece content index = ((content ++ List.replicate pad 0).drop (44 * index)).take 44 := by
  simp only [piece, List.drop_append, List.take_append, List.length_drop, List.drop_replicate, List.take_replicate,
    List.length_take]
  congr 2
  omega

/-- R165: a byte of a segment is the byte of the content at its place. -/
theorem byteOf_segment (content : List Byte) (index total : Nat) {k : Nat} (hk : k < 44) :
    byteOf (segment content index total) (k + 2) = byteOf content (44 * index + k) := by
  have hpiece : (piece content index)[k]? = some (content.getD (44 * index + k) 0) := by
    rw [piece_eq_padded content index (44 * (index + 1)) (by omega), List.getElem?_take_of_lt hk, List.getElem?_drop,
      List.getElem?_append]
    split
    next h => simp [List.getElem?_eq_getElem h]
    next h =>
      rw [List.getElem?_replicate, if_pos (by omega)]
      simp [List.getElem?_eq_none (Nat.not_lt.mp h)]
  show ((u8 index ++ u8 total ++ piece content index).getD (k + 2) 0).toNat = (content.getD (44 * index + k) 0).toNat
  have hdrop : (u8 index ++ u8 total ++ piece content index)[k + 2]? = (piece content index)[k]? := rfl
  rw [List.getD_eq_getElem?_getD, hdrop, hpiece]
  rfl

/-- R165: three pieces joined are the content and its padding. -/
theorem pieces_three {content : List Byte} (h : content.length ≤ 132) :
    piece content 0 ++ piece content 1 ++ piece content 2 = content ++ List.replicate (132 - content.length) 0 := by
  have hp (i : Nat) (hi : i < 3) := piece_eq_padded content i (132 - content.length) (by omega)
  rw [hp 0 (by decide), hp 1 (by decide), hp 2 (by decide)]
  have hlength : (content ++ List.replicate (132 - content.length) 0).length = 132 := by simp; omega
  generalize content ++ List.replicate (132 - content.length) (0 : Byte) = padded at hlength
  have hlast : (padded.drop (44 * 2)).take 44 = padded.drop (44 * 2) := List.take_of_length_le (by simp [hlength])
  have hmiddle : padded.drop (44 * 2) = (padded.drop (44 * 1)).drop 44 := by rw [List.drop_drop]
  rw [hlast, hmiddle, List.append_assoc, List.take_append_drop]
  exact List.take_append_drop 44 padded

/-- R165: four pieces joined are the content and its padding. -/
theorem pieces_four {content : List Byte} (h : content.length ≤ 176) :
    piece content 0 ++ piece content 1 ++ piece content 2 ++ piece content 3 =
      content ++ List.replicate (176 - content.length) 0 := by
  have hp (i : Nat) (hi : i < 4) := piece_eq_padded content i (176 - content.length) (by omega)
  rw [hp 0 (by decide), hp 1 (by decide), hp 2 (by decide), hp 3 (by decide)]
  have hlength : (content ++ List.replicate (176 - content.length) 0).length = 176 := by simp; omega
  generalize content ++ List.replicate (176 - content.length) (0 : Byte) = padded at hlength
  have hlast : (padded.drop (44 * 3)).take 44 = padded.drop (44 * 3) := List.take_of_length_le (by simp [hlength])
  have hthird : padded.drop (44 * 3) = (padded.drop (44 * 2)).drop 44 := by rw [List.drop_drop]
  have hmiddle : padded.drop (44 * 2) = (padded.drop (44 * 1)).drop 44 := by rw [List.drop_drop]
  rw [hlast, hthird, List.append_assoc, List.take_append_drop, hmiddle, List.append_assoc, List.take_append_drop]
  exact List.take_append_drop 44 padded

/-! ### Fields as the statements lay them out -/

theorem optional_eq {α : Type} (f : α → List Byte) (o : Option α) : optional f o = optField f o := by
  cases o <;> rfl

theorem yesNo_eq (b : Bool) : [yesNo b] = flagByte b := by
  cases b <;> rfl

theorem positionShown_eq (p : Option Int) : positionShown p = posBytes p := by
  cases p <;> rfl

theorem motionNumber_eq (m : Motion) : u8 (motionNumber m) = motionByte m := by
  cases m <;> rfl

theorem dirByte_eq (d : Dir) : dirByte d = [if d = .up then 0 else 1] := by
  cases d <;> rfl

theorem runKindByte_eq (k : RunKind) : runKindByte k = [match k with | .manual => 0 | .auto => 1 | .comfort => 2] := by
  cases k <;> rfl

theorem runShown_eq (m : Motion) : runShown m = runField m := by
  cases m with
  | run k => simp only [runShown, runField, runBytes, dirByte_eq, runKindByte_eq]; rfl
  | dwell x =>
    cases x with
    | run k => simp only [runShown, runField, runBytes, dirByte_eq, runKindByte_eq]; rfl
    | reverse t => rfl
  | _ => rfl

theorem holderShown_eq (m : Motion) : holderShown m = optField holderBytes m.holder := by
  cases m with
  | run k =>
    obtain ⟨dir, kind, target, holder⟩ := k
    cases holder <;> rfl
  | dwell x =>
    cases x with
    | run k =>
      obtain ⟨dir, kind, target, holder⟩ := k
      cases holder <;> rfl
    | reverse t => rfl
  | _ => rfl

variable (s : State)

theorem windowShown_eq (w : Window) : windowShown s w = s.windowBytes w := by
  simp only [windowShown, State.windowBytes, motionNumber_eq, runShown_eq, holderShown_eq, positionShown_eq, optional_eq,
    setNumber_eq_setBits, ← yesNo_eq]
  simp only [List.append_assoc, List.cons_append, List.nil_append]
  rfl

theorem windowStatusShown_eq : windowStatusShown s = s.windowStatus := by
  have hleft : s.win.retained.elim 0 (fun d => d - s.now) = s.retainedLeft := by
    unfold State.retainedLeft
    cases s.win.retained <;> rfl
  have hpower : (decide (s.win.mode ≠ .parked) || s.win.retained.isSome) = s.windowPower := by
    unfold State.windowPower
    cases s.win.mode <;> rfl
  have hwindows : windowShown s = s.windowBytes := funext (windowShown_eq s)
  simp only [windowStatusShown, hleft, hpower, hwindows, yesNo_eq]
  rfl

theorem vector_toList_eq {α : Type} {n : Nat} (v : Vector α n) : v.toList = (List.finRange n).map (fun i => v[i]) := by
  apply List.ext_getElem
  · simp
  · intro i h1 h2
    simp

theorem zonesShown_eq (zones : Vector (Option ZoneRef) 32) :
    zonesShown zones = zones.toList.flatMap (optField State.zoneBytes) := by
  rw [vector_toList_eq, List.flatMap_map, zonesShown]
  simp only [optional_eq]
  rfl

theorem contextShown_eq (w : Window) : contextShown s w = s.contextBytes w := by
  have hzs : (match (s.refsOf w).pendingForget with | some zs => zs | none => (s.calOf w).zs) =
      (s.refsOf w).pendingForget.getD (s.calOf w).zs := by
    cases (s.refsOf w).pendingForget <;> rfl
  simp only [contextShown, State.contextBytes, motionNumber_eq, positionShown_eq, optional_eq, zonesShown_eq, ← hzs, ← yesNo_eq]
  simp only [List.append_assoc, List.cons_append, List.nil_append]
  rfl

theorem windowBytes_length_le (w : Window) : (s.windowBytes w).length ≤ 21 := by
  have hrun := runField_length_le (s.winRec w).motion
  have hholder := optField_length_le (fun h => Nat.le_of_eq (holderBytes_length h)) (s.winRec w).motion.holder
  have htop := optField_length_le (n := 2) (fun z => Nat.le_of_eq (i16_length z)) (s.winRec w).topCorrection
  simp only [State.windowBytes, List.length_append, motionByte_length, causesByte, setByte_length, posBytes_length,
    flagByte_length, u8_length, enumByte_length]
  omega

theorem windowStatus_length_le : s.windowStatus.length ≤ 132 := by
  have h := windowBytes_length_le s
  have h1 := h .wfd
  have h2 := h .wfp
  have h3 := h .wrd
  have h4 := h .wrp
  simp [State.windowStatus, Window.list, msBytes]
  omega

theorem zones_length_le (l : List (Option ZoneRef)) : (l.flatMap (optField State.zoneBytes)).length ≤ 4 * l.length := by
  induction l with
  | nil => decide
  | cons z l ih =>
    have hz := optField_length_le (f := State.zoneBytes) (n := 3) (fun _ => Nat.le.refl) z
    simp only [List.flatMap_cons, List.length_append, List.length_cons]
    omega

theorem contextBytes_length_le (w : Window) : (s.contextBytes w).length ≤ 176 := by
  have hzones := zones_length_le (s.refsOf w).zones.toList
  have htop := optField_length_le (n := 2) (fun z => Nat.le_of_eq (i16_length z)) (s.winRec w).topCorrection
  simp only [Vector.length_toList] at hzones
  simp only [State.contextBytes, List.length_append, motionByte_length, posBytes_length, flagByte_length, u8_length]
  omega

end Sys2Proof.Machine
end

section
/-! The reads (R17, R56, R105, R132, R148, R161, R169, R170): what each answers, and the statements on them. -/

namespace Sys2Proof.Machine
open Sys2Proof

variable {s : State} {p : Port} {k : Kind} {tag : Byte} {q : List Byte}

/-! ### Answers that leave the part as it stands -/

@[simp] theorem payloadAt_answered (s : State) (p : Port) (tag : Byte) (c : Code) (payload : List Byte) :
    State.payloadAt { s with ports := s.ports.set p (answered tag c payload) } p = payload := by
  simp [State.payloadAt, answered]

/-- A request whose owner answers without a change of state changes its port engine alone. -/
theorem exec_replied (hk : s.canTake p) (hd : s.decoderRefusal k p q = none) {c : Code} {payload : List Byte}
    (ho : ownerOf k p tag q s = ⟨s, c, payload⟩) :
    exec (k.command p tag q) s = .next { s with ports := s.ports.set p (answered tag c payload) } := by
  rw [exec_passed hk hd, ho]
  rfl

/-- A read answers its payload and changes its port engine alone. -/
theorem exists_read (hk : s.canTake p) (hd : s.decoderRefusal k p q = none) {payload : List Byte}
    (ho : ownerOf k p tag q s = ⟨s, .ok, payload⟩) {P : List Byte → Prop} (h : P payload) :
    ∃ t, exec (k.command p tag q) s = .next t ∧
      t = { s with ports := s.ports.set p (answered tag .ok (t.payloadAt p)) } ∧ P (t.payloadAt p) := by
  refine ⟨_, exec_replied hk hd ho, ?_, ?_⟩
  · rw [payloadAt_answered]
  · rw [payloadAt_answered]
    exact h

/-! ### Owners of the reads -/

theorem ownWindowStatus_segment {i : Byte} (hi : i.toNat < 3) :
    State.ownWindowStatus [i] s = ⟨s, .ok, segment s.windowStatus i.toNat 3⟩ :=
  if_pos hi

theorem ownDiagStatus_segment {i : Byte} (hi : i.toNat < 3) :
    State.ownDiagStatus [i] s = ⟨s, .ok, segment s.diagStatus i.toNat 3⟩ :=
  if_pos hi

theorem ownWindowContextRead_segment {w : Window} {j i : Byte} (hw : Window.list[j.toNat]? = some w) (hi : i.toNat < 4) :
    State.ownWindowContextRead [j, i] s = ⟨s, .ok, segment (s.contextBytes w) i.toNat 4⟩ := by
  have hpick : pick Window.list [j, i] 0 = some w := hw
  rw [State.ownWindowContextRead, hpick]
  exact if_pos hi

theorem ownReadNotices_place {i : Byte} (hi : i.toNat ≤ 16) :
    State.ownReadNotices p [i] s =
      ⟨s, .ok, State.noticeMask (s.notices.get p) ++ s.noticeDetail (s.notices.get p) i.toNat⟩ :=
  if_pos hi

theorem ownFobRead_slot {i : Byte} {j : Fin 8} (hj : eight[i.toNat]? = some j) :
    State.ownFobRead [i] s = ⟨s, .ok, s.fobBytes j⟩ := by
  have hfield : slotField [i] 0 = some j := hj
  rw [State.ownFobRead, hfield]

/-! ### Lengths -/

theorem closureBytes_length (s : State) (c : Closure) :
    (s.closureBytes c).length = if closureRear c = none then 7 else 11 := by
  cases c <;> simp [State.closureBytes, State.childBytes, closureRear]

theorem closureStatus_length (s : State) : s.closureStatus.length = 45 := by
  simp [State.closureStatus, Closure.list, closureBytes_length, closureRear]

theorem fobBytes_length (s : State) (i : Fin 8) : 8 ≤ (s.fobBytes i).length ∧ (s.fobBytes i).length ≤ 20 := by
  have hcandidate := optField_length_le (f := fun k : Candidate => u24 k.value ++ msBytes (k.expiry - s.now)) (n := 7)
    (fun _ => Nat.le.refl) (s.slotAt i).candidate
  have hlast := optField_length_le (f := fun a : Accepted => enumByte fobActions a.action ++ msBytes (s.now - a.time))
    (n := 5) (fun _ => Nat.le.refl) (s.slotAt i).lastAccepted
  simp only [State.fobBytes, List.length_append, enumByte_length, u24_length, rightsByte, setByte_length, u8_length]
  omega

/-- R168: a notice that is absent has an empty detail. -/
theorem noticeDetail_absent (s : State) (n : NoticeSet) {i : Nat} (h : n.present.getD i false = false) :
    s.noticeDetail n i = [] := by
  have hdetail {α : Type} {f : α → List Byte} {o : Option α} (ho : o.isSome = false) : State.detailOf f o = [] := by
    rw [Option.isSome_eq_false_iff, Option.isNone_iff_eq_none] at ho
    rw [ho]
    rfl
  have hnow {b : Bool} {l : List Byte} (hb : b = false) : State.readNow b l = [] := if_neg (by simp [hb])
  match i, h with
  | 0, h => exact hdetail (o := n.restarted) h
  | 1, h => exact hdetail (o := n.crash) h
  | 2, h => exact hdetail (o := n.lockChanged) h
  | 3, h => exact hdetail (o := n.childChanged) h
  | 4, h => exact hdetail (o := n.windowEvent) h
  | 5, h => exact hdetail (o := n.actuationFailed) h
  | 6, h => exact hdetail (o := n.superlockRefused) h
  | 7, h => exact hdetail (o := n.commandCancelled) h
  | 9, h => exact hdetail (o := n.fobCounter) h
  | 10, h => exact hdetail (o := n.contextChanged) h
  | 12, h => exact hdetail (o := n.traceLost) h
  | 13, h => exact hdetail (o := n.fault) h
  | 8, h => exact hnow (b := n.handleTouch) h
  | 11, h => exact hnow (b := n.traceReady) h
  | 14, h => exact hnow (b := n.thermal) h
  | 15, h => exact hnow (b := n.supply) h
  | _ + 16, _ => rfl

/-- R169: the bits of the mask are the notices that are present, bit 0 first. -/
theorem noticeMask_testBit (n : NoticeSet) (detail : List Byte) (i : Nat) :
    (256 * byteOf (State.noticeMask n ++ detail) 0 + byteOf (State.noticeMask n ++ detail) 1).testBit i =
      n.present.getD i false := by
  have hlength : n.present.length = 16 := rfl
  have hlt := setBits_lt n.present
  rw [hlength] at hlt
  show (256 * (BitVec.ofNat 8 (setBits n.present / 256)).toNat + (BitVec.ofNat 8 (setBits n.present)).toNat).testBit i = _
  rw [ofBytes_pair (by omega), setBits_testBit]

/-- R139: a buffer is FREE, FILLING or COMPLETE. -/
theorem buffers_counted (s : State) :
    State.countBuffers s.isFree + State.countBuffers s.isFilling + State.countBuffers s.isComplete = 8 := by
  have hall : ∀ l : List (Fin 8),
      (l.filter s.isFree).length + (l.filter s.isFilling).length + (l.filter s.isComplete).length = l.length := by
    intro l
    induction l with
    | nil => rfl
    | cons i l ih =>
      cases hb : s.bufferAt i with
      | free => simp [State.isFree, State.isFilling, State.isComplete, hb]; omega
      | filling r => simp [State.isFree, State.isFilling, State.isComplete, hb]; omega
      | complete r x => simp [State.isFree, State.isFilling, State.isComplete, hb]; omega
  exact hall eight

theorem countBuffers_le (f : Fin 8 → Bool) : State.countBuffers f ≤ 8 := List.length_filter_le f eight

theorem traceStatus_bytes (s : State) :
    byteOf s.traceStatus 0 + byteOf s.traceStatus 1 + byteOf s.traceStatus 2 = 8 ∧
      256 * byteOf s.traceStatus 3 + byteOf s.traceStatus 4 = s.trace.sequence % 65536 := by
  have hsum := buffers_counted s
  have hfree := countBuffers_le s.isFree
  have hfilling := countBuffers_le s.isFilling
  have hcomplete := countBuffers_le s.isComplete
  constructor
  · show (BitVec.ofNat 8 (State.countBuffers s.isFree)).toNat + (BitVec.ofNat 8 (State.countBuffers s.isFilling)).toNat +
      (BitVec.ofNat 8 (State.countBuffers s.isComplete)).toNat = 8
    simp only [BitVec.toNat_ofNat]
    omega
  · show 256 * (BitVec.ofNat 8 (s.trace.sequence / 256)).toNat + (BitVec.ofNat 8 s.trace.sequence).toNat = _
    simp only [BitVec.toNat_ofNat]
    omega

/-- A window's place in the list of windows. -/
theorem windows_place {j : Byte} (hj : j.toNat < 4) :
    ∃ w, Window.list[j.toNat]? = some w ∧ Window.list.idxOf w = j.toNat := by
  have hall : ∀ n < 4, ∃ w ∈ Window.list, Window.list[n]? = some w ∧ Window.list.idxOf w = n := by decide
  obtain ⟨w, -, hw⟩ := hall _ hj
  exact ⟨w, hw⟩

theorem eight_place {i : Nat} (hi : i < 8) : eight[i]? = some ⟨i, hi⟩ := by
  have hall : ∀ i : Fin 8, eight[i.val]? = some i := by decide
  exact hall ⟨i, hi⟩

theorem u8_toNat (b : Byte) : u8 b.toNat = [b] := by
  simp [u8]

/-- Settles O14: the owner of each read answers without a change of state, and the lengths are counted. -/
theorem readsChangeNothing : Obligations.ReadsChangeNothing := by
  intro s tag i j
  refine ⟨fun p hk => ?_, fun p hk hi => ?_, fun p hk hi => ?_, fun hk hj hi => ?_, fun hk hi => ?_, fun hk => ?_,
    fun hk hi => ?_, fun hk hi => ?_⟩
  · exact exists_read (k := .closureStatus) hk rfl rfl (P := fun l => l.length = 45) (closureStatus_length s)
  · exact exists_read (k := .windowStatus) hk rfl (ownWindowStatus_segment hi)
      (P := fun l => l.length = 46 ∧ l.take 2 = [i, 3]) ⟨segment_length _ _ _, by rw [segment_take, u8_toNat]; rfl⟩
  · refine exists_read (k := .readNotices) hk rfl (ownReadNotices_place hi)
      (P := fun l => (∀ n, n < 16 → (256 * byteOf l 0 + byteOf l 1).testBit n = (s.notices.get p).present.getD n false) ∧
        ((s.notices.get p).present.getD i.toNat false = false → l.length = 2))
      ⟨fun n _ => noticeMask_testBit _ _ n, fun habsent => ?_⟩
    rw [noticeDetail_absent s _ habsent]
    rfl
  · obtain ⟨w, hw, hplace⟩ := windows_place hj
    refine exists_read (k := .windowContextRead) hk rfl (ownWindowContextRead_segment hw hi)
      (P := fun l => l.length = 46 ∧ l.take 2 = [i, 4] ∧ (i = 0 → byteOf l 2 = j.toNat))
      ⟨segment_length _ _ _, by rw [segment_take, u8_toNat]; rfl, ?_⟩
    rintro rfl
    rw [byteOf_segment (k := 0) _ _ _ (by decide)]
    show (BitVec.ofNat 8 (Window.list.idxOf w)).toNat = _
    rw [toNat_idxOf (by decide), hplace]
  · exact exists_read (k := .diagStatus) hk rfl (ownDiagStatus_segment hi)
      (P := fun l => l.length = 46 ∧ l.take 2 = [i, 3]) ⟨segment_length _ _ _, by rw [segment_take, u8_toNat]; rfl⟩
  · exact exists_read (k := .traceStatus) hk rfl rfl (P := fun l => byteOf l 0 + byteOf l 1 + byteOf l 2 = 8 ∧
      256 * byteOf l 3 + byteOf l 4 = s.trace.sequence % 65536) (traceStatus_bytes s)
  · exact exists_read (k := .fobRead) hk rfl (ownFobRead_slot (eight_place hi))
      (P := fun l => 8 ≤ l.length ∧ l.length ≤ 20) (fobBytes_length s _)
  · have hvalue : s.configValue .supplyGain 0 i.toNat = some s.config.gain[i.toNat] := by
      simp [State.configValue, Configuration.item, hi]
    refine ⟨_, exec_configRead_value hk tag .supplyGain hvalue, ?_, ?_⟩
    · rw [payloadAt_answered]
    · rw [payloadAt_answered]
      rfl

/-! ### WINDOW_STATUS and WINDOW_CONTEXT_READ joined (R105, R132) -/

theorem exec_windowStatus (hk : s.canTake p) (tag : Byte) {i : Byte} (hi : i.toNat < 3) :
    ∃ t, exec (.windowStatus p tag [i]) s = .next t ∧ t.pieceAt p = piece s.windowStatus i.toNat := by
  refine ⟨_, exec_replied (k := .windowStatus) hk rfl (ownWindowStatus_segment hi), ?_⟩
  rw [State.pieceAt, payloadAt_answered, segment_drop]

theorem exec_windowContextRead (hk : s.canTake .b) (tag : Byte) (w : Window) {i : Byte} (hi : i.toNat < 4) :
    ∃ t, exec (.windowContextRead .b tag [BitVec.ofNat 8 (Window.list.idxOf w), i]) s = .next t ∧
      t.pieceAt .b = piece (s.contextBytes w) i.toNat := by
  have hw : Window.list[(BitVec.ofNat 8 (Window.list.idxOf w)).toNat]? = some w := by cases w <;> rfl
  refine ⟨_, exec_replied (k := .windowContextRead) hk rfl (ownWindowContextRead_segment hw hi), ?_⟩
  rw [State.pieceAt, payloadAt_answered, segment_drop]

/-! ### CLOSURE_STATUS (R17) -/

/-- R165: the number of an operation's phase, with 128 for a crash operation. -/
def phaseNumber : Option Op → Nat
  | none => 0
  | some o => [OpPhase.waitSlot, .drive, .settle].idxOf o.phase + 1 + (if o.crash then 128 else 0)

theorem phaseByte_eq (o : Option Op) : phaseByte o = u8 (phaseNumber o) := by
  cases o with
  | none => rfl
  | some o =>
    obtain ⟨goal, phase, slot, retries, direction, pulse, crash, timer⟩ := o
    cases phase <;> cases crash <;> rfl

theorem phaseNumber_lt (o : Option Op) : phaseNumber o < 256 := by
  cases o with
  | none => decide
  | some o =>
    obtain ⟨goal, phase, slot, retries, direction, pulse, crash, timer⟩ := o
    cases phase <;> cases crash <;> exact Nat.le_of_ble_eq_true rfl

/-- R1, R165: the number of last_source. -/
def sourceNumber : LastSource → Nat
  | .b => 0
  | .kFob _ => 1
  | .kPassive _ => 2
  | .dButton => 3
  | .key => 4
  | .knob => 5
  | .innerHandle => 6
  | .relock => 7
  | .crash => 8
  | .reset => 9

/-- R1, R165: the slot of last_source, 0 where it has none. -/
def sourceSlot : LastSource → Nat
  | .kFob i | .kPassive i => i.val
  | .b | .dButton | .key | .knob | .innerHandle | .relock | .crash | .reset => 0

theorem lastSourceBytes_eq (x : LastSource) : lastSourceBytes x = u8 (sourceNumber x) ++ u8 (sourceSlot x) := by
  cases x <;> rfl

/-- R17: the seven bytes of a closure. -/
def closureSeven (s : State) (c : Closure) : List Byte :=
  let r := s.closure c
  [BitVec.ofNat 8 (latches.idxOf r.latch), BitVec.ofNat 8 (sensedValues.idxOf r.lockSensed),
    BitVec.ofNat 8 (lockPositions.idxOf r.lockGoal), BitVec.ofNat 8 (bit r.confirmed),
    BitVec.ofNat 8 (phaseNumber (s.opAt (.l c))), BitVec.ofNat 8 (sourceNumber r.lastSource),
    BitVec.ofNat 8 (sourceSlot r.lastSource)]

/-- R17: the four child bytes of a rear closure. -/
def childFour (s : State) (r : Rear) : List Byte :=
  [BitVec.ofNat 8 (childStates.idxOf (s.childOf r).goal), BitVec.ofNat 8 (childStates.idxOf (s.childOf r).sensed),
    BitVec.ofNat 8 (bit (s.childOf r).confirmed), BitVec.ofNat 8 (phaseNumber (s.opAt (.c r)))]

theorem closureStatus_eq (s : State) : s.closureStatus =
    closureSeven s .fd ++ (closureSeven s .fp ++ (closureSeven s .rd ++ (childFour s .rd ++ (closureSeven s .rp ++
      (childFour s .rp ++ (closureSeven s .tg ++
        [BitVec.ofNat 8 (centralModes.idxOf s.mode), BitVec.ofNat 8 (bit s.crash.latch)])))))) := by
  simp only [State.closureStatus, Closure.list, List.flatMap_cons, List.flatMap_nil, State.closureBytes, closureRear,
    State.childBytes, phaseByte_eq, lastSourceBytes_eq]
  rfl

/-- A byte of a list behind its first entries. -/
theorem byteOf_add (l : List Byte) (i k : Nat) : byteOf l (i + k) = byteOf (l.drop i) k := by
  simp [byteOf, List.getD_eq_getElem?_getD, List.getElem?_drop]

/-- R17: each closure's bytes stand at its place. -/
theorem closureStatus_closure (s : State) {row : Closure × Nat}
    (hrow : row ∈ [(Closure.fd, 0), (.fp, 7), (.rd, 14), (.rp, 25), (.tg, 36)]) :
    ∃ rest, s.closureStatus.drop row.2 = closureSeven s row.1 ++ rest := by
  rw [closureStatus_eq]
  simp only [List.mem_cons, List.not_mem_nil, or_false] at hrow
  rcases hrow with rfl | rfl | rfl | rfl | rfl
  · exact ⟨_, rfl⟩
  · exact ⟨_, rfl⟩
  · exact ⟨_, rfl⟩
  · exact ⟨_, rfl⟩
  · exact ⟨_, rfl⟩

/-- R17: the child bytes of RD and RP follow their closure's. -/
theorem closureStatus_child (s : State) {row : Rear × Nat} (hrow : row ∈ [(Rear.rd, 21), (.rp, 32)]) :
    ∃ rest, s.closureStatus.drop row.2 = childFour s row.1 ++ rest := by
  rw [closureStatus_eq]
  simp only [List.mem_cons, List.not_mem_nil, or_false] at hrow
  rcases hrow with rfl | rfl
  · exact ⟨_, rfl⟩
  · exact ⟨_, rfl⟩

theorem toNat_bit (b : Bool) : (BitVec.ofNat 8 (bit b)).toNat = if b then 1 else 0 := by
  cases b <;> rfl

/-! ### DIAG_STATUS (R161) -/

theorem driveByte_eq (d : Drive) : driveByte d = u8 ([Drive.off, .onFirst, .onSecond, .brake].idxOf d) := by
  cases d <;> rfl

/-- R161: the eight bytes of a channel. -/
def channelEight (s : State) (ch : Channel) : List Byte :=
  let r := s.chan ch
  [BitVec.ofNat 8 ([Drive.off, .onFirst, .onSecond, .brake].idxOf r.drive), BitVec.ofNat 8 (testResults.idxOf r.openLoad),
    BitVec.ofNat 8 (testResults.idxOf r.shortSupply), BitVec.ofNat 8 (testResults.idxOf r.shortGround),
    BitVec.ofNat 8 (testResults.idxOf r.overcurrent), BitVec.ofNat 8 (bit r.withdrawn), BitVec.ofNat 8 r.ocCount,
    BitVec.ofNat 8 (setBits [(s.config.chanMask.get ch).openLoad, (s.config.chanMask.get ch).shortSupply,
      (s.config.chanMask.get ch).shortGround, (s.config.chanMask.get ch).overcurrent])]

theorem channelBytes_eq (s : State) (ch : Channel) : s.channelBytes ch = channelEight s ch := by
  simp only [State.channelBytes, driveByte_eq]
  rfl

theorem diagStatus_eq (s : State) : s.diagStatus = Channel.list.flatMap (channelEight s) ++
    (Closure.list.map (fun c => BitVec.ofNat 8 (s.seq.heatL.get c)) ++
    (Rear.list.map (fun r => BitVec.ofNat 8 (s.seq.heatC.get r)) ++ (kindSetByte s.config.globalMask ++
    (flagsByte s.mon.flags ++ (s.tempBytes ++ s.supplyBytes))))) := by
  simp only [State.diagStatus, funext (channelBytes_eq s), List.append_assoc]
  rfl

theorem exec_diagStatus (hk : s.canTake .b) (tag : Byte) {i : Byte} (hi : i.toNat < 3) :
    ∃ t, exec (.diagStatus .b tag [i]) s = .next t ∧ t.payloadAt .b = segment s.diagStatus i.toNat 3 :=
  ⟨_, exec_replied (k := .diagStatus) hk rfl (ownDiagStatus_segment hi), payloadAt_answered ..⟩

theorem byteOf_diagStatus_channel (s : State) {row : Channel × Nat}
    (hrow : row ∈ [(Channel.w .wfd, 2), (.w .wfp, 10), (.w .wrd, 18), (.w .wrp, 26), (.act (.l .fd), 34)]) {k : Nat}
    (hk : k < 8) : byteOf (segment s.diagStatus 0 3) (row.2 + k) = byteOf (channelEight s row.1) k := by
  have hplace : ∃ i rest, row.2 = i + 2 ∧ i + 8 ≤ 44 ∧ s.diagStatus.drop i = channelEight s row.1 ++ rest := by
    rw [diagStatus_eq]
    simp only [List.mem_cons, List.not_mem_nil, or_false] at hrow
    rcases hrow with rfl | rfl | rfl | rfl | rfl
    · exact ⟨0, _, rfl, by decide, rfl⟩
    · exact ⟨8, _, rfl, by decide, rfl⟩
    · exact ⟨16, _, rfl, by decide, rfl⟩
    · exact ⟨24, _, rfl, by decide, rfl⟩
    · exact ⟨32, _, rfl, by decide, rfl⟩
  obtain ⟨i, rest, hi, hlt, hdrop⟩ := hplace
  rw [hi, show i + 2 + k = i + k + 2 by omega, byteOf_segment _ _ _ (by omega),
    show 44 * 0 + (i + k) = i + k by omega, byteOf_add, hdrop]
  have hlength : k < (channelEight s row.1).length := hk
  simp [byteOf, List.getD_eq_getElem?_getD, List.getElem?_append_left hlength]

/-- R161: segment 2 begins behind the channels but one. -/
theorem byteOf_diagStatus_last (s : State) {k : Nat} (hk : k + 8 < 44) :
    byteOf (segment s.diagStatus 2 3) (k + 10) = byteOf (s.diagStatus.drop 96) k := by
  rw [show k + 10 = k + 8 + 2 by omega, byteOf_segment _ _ _ hk, ← byteOf_add]
  congr 1
  omega

/-- Settles O15: the layouts of the statement are those of the reports, and a byte of a read is the byte of the report at
its place. -/
theorem statusContent : Obligations.StatusContent := by
  refine ⟨fun s p tag hk => ?_, fun s tag w hk j hj => ?_, fun s p tag hk => ?_, fun s tag hk => ⟨?_, ?_⟩⟩
  · obtain ⟨a, ha, hpa⟩ := exec_windowStatus hk tag (i := 0) (by decide)
    obtain ⟨b, hb, hpb⟩ := exec_windowStatus hk tag (i := 1) (by decide)
    obtain ⟨c, hc, hpc⟩ := exec_windowStatus hk tag (i := 2) (by decide)
    refine ⟨a, ha, b, hb, c, hc, ?_⟩
    rw [hpa, hpb, hpc, windowStatusShown_eq]
    exact pieces_three (windowStatus_length_le s)
  · subst hj
    obtain ⟨a, ha, hpa⟩ := exec_windowContextRead hk tag w (i := 0) (by decide)
    obtain ⟨b, hb, hpb⟩ := exec_windowContextRead hk tag w (i := 1) (by decide)
    obtain ⟨c, hc, hpc⟩ := exec_windowContextRead hk tag w (i := 2) (by decide)
    obtain ⟨d, hd, hpd⟩ := exec_windowContextRead hk tag w (i := 3) (by decide)
    refine ⟨a, ha, b, hb, c, hc, d, hd, ?_⟩
    rw [hpa, hpb, hpc, hpd, contextShown_eq]
    exact pieces_four (contextBytes_length_le s w)
  · refine ⟨_, exec_replied (k := .closureStatus) (payload := s.closureStatus) hk rfl rfl, ?_⟩
    rw [payloadAt_answered]
    refine ⟨fun row hrow => ?_, fun row hrow => ?_, ?_, ?_⟩
    · obtain ⟨rest, hdrop⟩ := closureStatus_closure s hrow
      have hbyte (k : Nat) : byteOf s.closureStatus (row.2 + k) = byteOf (closureSeven s row.1 ++ rest) k := by
        rw [byteOf_add, hdrop]
      have hphase : (BitVec.ofNat 8 (phaseNumber (s.opAt (.l row.1)))).toNat = phaseNumber (s.opAt (.l row.1)) := by
        rw [BitVec.toNat_ofNat]
        exact Nat.mod_eq_of_lt (phaseNumber_lt _)
      refine ⟨(hbyte 0).trans (toNat_idxOf (by decide) _), (hbyte 1).trans (toNat_idxOf (by decide) _),
        (hbyte 2).trans (toNat_idxOf (by decide) _), (hbyte 3).trans (toNat_bit _), (hbyte 4).trans ?_,
        fun hcrash => (hbyte 5).trans ?_, fun i hi => ⟨(hbyte 5).trans ?_, (hbyte 6).trans ?_⟩⟩
      · refine hphase.trans ?_
        cases s.opAt (.l row.1) <;> rfl
      · show (BitVec.ofNat 8 (sourceNumber _)).toNat = _
        rw [hcrash]
        rfl
      · show (BitVec.ofNat 8 (sourceNumber _)).toNat = _
        rw [hi]
        rfl
      · show (BitVec.ofNat 8 (sourceSlot _)).toNat = _
        rw [hi, BitVec.toNat_ofNat]
        exact Nat.mod_eq_of_lt (by show i.val < 256; omega)
    · obtain ⟨rest, hdrop⟩ := closureStatus_child s hrow
      have hbyte (k : Nat) : byteOf s.closureStatus (row.2 + k) = byteOf (childFour s row.1 ++ rest) k := by
        rw [byteOf_add, hdrop]
      exact ⟨(hbyte 0).trans (toNat_idxOf (by decide) _), (hbyte 1).trans (toNat_idxOf (by decide) _),
        (hbyte 2).trans (toNat_bit _)⟩
    · rw [closureStatus_eq]
      show (BitVec.ofNat 8 (centralModes.idxOf s.mode)).toNat = _
      cases s.mode <;> rfl
    · rw [closureStatus_eq]
      exact toNat_bit _
  · obtain ⟨t, ht, hpayload⟩ := exec_diagStatus hk tag (i := 0) (by decide)
    refine ⟨t, ht, fun row hrow => ?_⟩
    rw [hpayload]
    have hbyte {k : Nat} (hk : k < 8) := byteOf_diagStatus_channel s hrow hk
    exact ⟨(hbyte (k := 0) (by decide)).trans (toNat_idxOf (by decide) _),
      (hbyte (k := 1) (by decide)).trans (toNat_idxOf (by decide) _),
      (hbyte (k := 2) (by decide)).trans (toNat_idxOf (by decide) _),
      (hbyte (k := 3) (by decide)).trans (toNat_idxOf (by decide) _),
      (hbyte (k := 4) (by decide)).trans (toNat_idxOf (by decide) _),
      (hbyte (k := 5) (by decide)).trans (toNat_bit _), hbyte (k := 6) (by decide)⟩
  · obtain ⟨t, ht, hpayload⟩ := exec_diagStatus hk tag (i := 2) (by decide)
    refine ⟨t, ht, ?_⟩
    rw [hpayload]
    have hlast : s.diagStatus.drop 96 = Closure.list.map (fun c => BitVec.ofNat 8 (s.seq.heatL.get c)) ++
        (Rear.list.map (fun r => BitVec.ofNat 8 (s.seq.heatC.get r)) ++ (kindSetByte s.config.globalMask ++
        (flagsByte s.mon.flags ++ (s.tempBytes ++ s.supplyBytes)))) := by
      rw [diagStatus_eq]
      rfl
    have hbyte {k : Nat} (hk : k + 8 < 44) := byteOf_diagStatus_last s hk
    simp only [hlast] at hbyte
    refine ⟨fun row hrow => ?_, fun row hrow => ?_, fun row hrow => ?_, (hbyte (k := 9) (by decide)).trans (toNat_idxOf (by decide) _),
      (hbyte (k := 12) (by decide)).trans (toNat_idxOf (by decide) _), fun hv => ?_⟩
    · simp only [List.mem_cons, List.not_mem_nil, or_false] at hrow
      rcases hrow with rfl | rfl | rfl | rfl | rfl
      · exact (hbyte (k := 0) (by decide)).trans (BitVec.toNat_ofNat ..)
      · exact (hbyte (k := 1) (by decide)).trans (BitVec.toNat_ofNat ..)
      · exact (hbyte (k := 2) (by decide)).trans (BitVec.toNat_ofNat ..)
      · exact (hbyte (k := 3) (by decide)).trans (BitVec.toNat_ofNat ..)
      · exact (hbyte (k := 4) (by decide)).trans (BitVec.toNat_ofNat ..)
    · simp only [List.mem_cons, List.not_mem_nil, or_false] at hrow
      rcases hrow with rfl | rfl
      · exact (hbyte (k := 5) (by decide)).trans (BitVec.toNat_ofNat ..)
      · exact (hbyte (k := 6) (by decide)).trans (BitVec.toNat_ofNat ..)
    · obtain ⟨l, hl⟩ : ∃ l, l = [s.mon.flags.openLoad, s.mon.flags.shortSupply, s.mon.flags.shortGround,
        s.mon.flags.overcurrent, s.mon.flags.twarm, s.mon.flags.thot, s.mon.flags.slow, s.mon.flags.scut] := ⟨_, rfl⟩
      have hlt := setBits_lt l
      have hlength : l.length = 8 := by rw [hl]; rfl
      rw [hlength] at hlt
      have hflags : byteOf (segment s.diagStatus 2 3) 18 = setBits l := by
        refine (hbyte (k := 8) (by decide)).trans ?_
        rw [hl] at hlt ⊢
        exact (BitVec.toNat_ofNat ..).trans (Nat.mod_eq_of_lt hlt)
      rw [show (2 : Byte).toNat = 2 from rfl, hflags, setBits_testBit, hl]
      simp only [List.mem_cons, List.not_mem_nil, or_false] at hrow
      rcases hrow with rfl | rfl | rfl | rfl | rfl | rfl | rfl | rfl <;> rfl
    · have hhigh := hbyte (k := 13) (by decide)
      have hlow := hbyte (k := 14) (by decide)
      rw [show (2 : Byte).toNat = 2 from rfl, hhigh, hlow]
      exact ofBytes_pair (by omega)

end Sys2Proof.Machine
end

section
/-! The notices read and acknowledged (R168, R169), and CONFIG_READ item by item (R170). -/

namespace Sys2Proof.Machine
open Sys2Proof

variable {s : State} {p : Port} {tag : Byte}

/-! ### CONFIG_READ (R170) -/

/-- R170: a CONFIG_READ of an item by its numbers. -/
theorem exec_configRead_item (hk : s.canTake .b) (tag : Byte) (g : Group) {item index v : Nat} (hitem : item < 256)
    (hindex : index < 256) (h : s.configValue g item index = some v) :
    exec (.configRead .b tag ([groups.idxOf g, item, index].map (BitVec.ofNat 8))) s = .next { s with
      ports := s.ports.set .b (answered tag .ok (u16 v ++ u8 (if s.config.frozen.has g then 1 else 0))) } := by
  have hitem' : (BitVec.ofNat 8 item).toNat = item := Nat.mod_eq_of_lt hitem
  have hindex' : (BitVec.ofNat 8 index).toNat = index := Nat.mod_eq_of_lt hindex
  exact exec_configRead_value hk tag g (by rw [hitem', hindex', h])

theorem configValue_windowCal (s : State) (w : Window) (item : Nat) :
    s.configValue .windowCal item (Window.list.idxOf w) = (s.config.cal.get w).item item := by
  cases w <;> rfl

theorem configValue_chanMask (s : State) (ch : Channel) :
    s.configValue .diagMask 0 (Channel.list.idxOf ch) = some (kindSetNumber (s.config.chanMask.get ch)) := by
  cases ch with
  | act a =>
    cases a with
    | l c => cases c <;> rfl
    | c r => cases r <;> rfl
    | t1 => rfl
  | w w => cases w <;> rfl

theorem configValue_gain (s : State) (b : Fin 16) : s.configValue .supplyGain 0 b.val = some s.config.gain[b] := by
  simp [State.configValue, Configuration.item]

/-- Settles O17: each item is the field it stands for. -/
theorem configRead : Obligations.ConfigRead := by
  intro s tag w b ch hk
  have hw : Window.list.idxOf w < 256 := Nat.lt_of_le_of_lt List.idxOf_le_length (by decide)
  have hch : Channel.list.idxOf ch < 256 := Nat.lt_of_le_of_lt List.idxOf_le_length (by decide)
  have hcal {item v : Nat} (hitem : item < 256) (hv : (s.config.cal.get w).item item = some v) :=
    exec_configRead_item hk tag .windowCal hitem hw ((configValue_windowCal s w item).trans hv)
  have hpolicy {item v : Nat} (hitem : item < 256) (hv : s.configValue .policy item 0 = some v) :=
    exec_configRead_item hk tag .policy hitem (by decide) hv
  refine ⟨fun row hrow => ?_, fun row hrow => ?_⟩
  · simp only [List.mem_cons, List.not_mem_nil, or_false] at hrow
    rcases hrow with rfl | rfl | rfl | rfl | rfl | rfl | rfl | rfl | rfl | rfl | rfl | rfl | rfl | rfl | rfl | rfl | rfl |
      rfl
    · exact hpolicy (by decide) rfl
    · exact hpolicy (by decide) rfl
    · exact hpolicy (by decide) rfl
    · exact hpolicy (by decide) rfl
    · exact hpolicy (by decide) rfl
    · exact hcal (by decide) rfl
    · exact hcal (by decide) rfl
    · exact hcal (by decide) rfl
    · exact hcal (by decide) rfl
    · exact hcal (by decide) rfl
    · exact hcal (by decide) rfl
    · exact hcal (by decide) rfl
    · exact hcal (by decide) rfl
    · exact hcal (by decide) rfl
    · exact exec_configRead_item hk tag .supplyGain (by decide) (by omega) (configValue_gain s b)
    · exact exec_configRead_item hk tag .diagMask (by decide) hch (configValue_chanMask s ch)
    · exact exec_configRead_item hk tag .diagMask (by decide) (by decide) rfl
    · exact exec_configRead_item hk tag .fobTable (by decide) (by decide) rfl
  · simp only [List.mem_cons, List.not_mem_nil, or_false] at hrow
    rcases hrow with rfl | rfl | rfl | rfl | rfl | rfl | rfl | rfl | rfl
    · exact exec_configRead_range hk tag .policy rfl
    · exact exec_configRead_range hk tag .policy rfl
    · exact exec_configRead_range hk tag .windowCal rfl
    · exact exec_configRead_range hk tag .windowCal rfl
    · exact exec_configRead_range hk tag .supplyGain rfl
    · exact exec_configRead_range hk tag .supplyGain rfl
    · exact exec_configRead_range hk tag .diagMask rfl
    · exact exec_configRead_range hk tag .diagMask rfl
    · exact exec_configRead_range hk tag .diagMask rfl

/-! ### The touches that wait (R75) -/

/-- R75: of two touches, with the times at which they began, the one with less time left stands first. -/
@[reducible] def touchBefore (now : Nat) (a b : TouchSource × Nat) : Prop := a.2 + 4000 - now ≤ b.2 + 4000 - now

/-- A touch with the time left in place of the time at which it began. -/
def withTimeLeft (now : Nat) (e : TouchSource × Nat) : TouchSource × Nat := (e.1, e.2 + 4000 - now)

/-- R75: the touches that wait, in the order of the sources. -/
def touchesBegun (s : State) : List (TouchSource × Nat) :=
  TouchSource.list.filterMap (fun x =>
    match s.touch.get x with
    | .waiting time => some (x, time)
    | .idle | .expired _ => none)

section Touches

theorem mem_touchesBegun (s : State) (x : TouchSource) (d : Nat) : (x, d) ∈ touchesBegun s ↔ s.touch.get x = .waiting d := by
  have hall : x ∈ TouchSource.list := by cases x <;> decide
  unfold touchesBegun
  rw [List.mem_filterMap]
  constructor
  · rintro ⟨y, -, hy⟩
    split at hy
    next time htime =>
      obtain ⟨rfl, rfl⟩ := Prod.mk.inj (Option.some.inj hy)
      exact htime
    all_goals cases hy
  · intro h
    exact ⟨x, hall, by rw [h]⟩

theorem touchesBegun_nodup (s : State) : (touchesBegun s).Nodup := by
  unfold touchesBegun
  refine List.Pairwise.filterMap (R := (· ≠ ·)) (S := (· ≠ ·)) _ (fun x y hxy a ha b hb hab => hxy ?_) (by decide : TouchSource.list.Nodup)
  split at ha <;> cases ha
  split at hb <;> cases hb
  exact congrArg Prod.fst hab

/-- A touch placed before the first one that it does not come behind. -/
def placeBegun (now : Nat) (e : TouchSource × Nat) : List (TouchSource × Nat) → List (TouchSource × Nat)
  | [] => [e]
  | x :: l => if touchBefore now e x then e :: x :: l else x :: placeBegun now e l

/-- The touches with the least time left first. -/
def sortBegun (now : Nat) (l : List (TouchSource × Nat)) : List (TouchSource × Nat) := l.foldr (placeBegun now) []

theorem placeBegun_perm (now : Nat) (e : TouchSource × Nat) (l : List (TouchSource × Nat)) :
    (placeBegun now e l).Perm (e :: l) := by
  induction l with
  | nil => exact .refl _
  | cons x l ih =>
    unfold placeBegun
    split
    · exact .refl _
    · exact (ih.cons x).trans (.swap e x l)

theorem sortBegun_perm (now : Nat) (l : List (TouchSource × Nat)) : (sortBegun now l).Perm l := by
  induction l with
  | nil => exact .refl _
  | cons e l ih => exact (placeBegun_perm now e _).trans (ih.cons e)

theorem placeBegun_sorted {now : Nat} (e : TouchSource × Nat) {l : List (TouchSource × Nat)}
    (hl : l.Pairwise (touchBefore now)) : (placeBegun now e l).Pairwise (touchBefore now) := by
  induction l with
  | nil => exact List.pairwise_cons.mpr ⟨nofun, .nil⟩
  | cons x l ih =>
    obtain ⟨hx, htail⟩ := List.pairwise_cons.mp hl
    unfold placeBegun
    split
    next hex =>
      refine List.pairwise_cons.mpr ⟨fun y hy => ?_, hl⟩
      rcases List.mem_cons.mp hy with rfl | hy
      · exact hex
      · exact Nat.le_trans hex (hx y hy)
    next hex =>
      refine List.pairwise_cons.mpr ⟨fun y hy => ?_, ih htail⟩
      rcases List.mem_cons.mp ((placeBegun_perm now e l).mem_iff.mp hy) with rfl | hy
      · exact Nat.le_of_not_le hex
      · exact hx y hy

theorem sortBegun_sorted (now : Nat) (l : List (TouchSource × Nat)) : (sortBegun now l).Pairwise (touchBefore now) := by
  induction l with
  | nil => exact .nil
  | cons e l ih => exact placeBegun_sorted e ih

/-- The part places a touch by the time that it has left. -/
theorem placeTouch_map (now : Nat) (e : TouchSource × Nat) (l : List (TouchSource × Nat)) :
    State.placeTouch (withTimeLeft now e) (l.map (withTimeLeft now)) = (placeBegun now e l).map (withTimeLeft now) := by
  induction l with
  | nil => rfl
  | cons x l ih =>
    rw [List.map_cons, State.placeTouch, placeBegun]
    by_cases h : touchBefore now e x
    · rw [if_pos h, if_pos (show (withTimeLeft now e).2 ≤ (withTimeLeft now x).2 from h)]
      rfl
    · rw [if_neg h, if_neg (show ¬ (withTimeLeft now e).2 ≤ (withTimeLeft now x).2 from h), ih]
      rfl

/-- R75: the touches that are reported are those that wait, with the least time left first. -/
theorem waitingTouches_eq (s : State) :
    s.waitingTouches = (sortBegun s.now (touchesBegun s)).map (withTimeLeft s.now) := by
  have hbegun : TouchSource.list.filterMap (fun t => match s.touch.get t with
      | .waiting time => some (t, time + Config.touchWindow - s.now)
      | .idle | .expired _ => none) = (touchesBegun s).map (withTimeLeft s.now) := by
    unfold touchesBegun
    rw [List.map_filterMap]
    congr 1
    funext t
    cases s.touch.get t <;> rfl
  have hsort : ∀ l : List (TouchSource × Nat), (l.map (withTimeLeft s.now)).foldr State.placeTouch [] =
      (sortBegun s.now l).map (withTimeLeft s.now) := by
    intro l
    induction l with
    | nil => rfl
    | cons e l ih => rw [List.map_cons, List.foldr_cons, ih, placeTouch_map]; rfl
  rw [← hsort, ← hbegun]
  rfl

theorem touchesWaiting_sorted (s : State) : touchesWaiting s (sortBegun s.now (touchesBegun s)) := by
  have hperm := sortBegun_perm s.now (touchesBegun s)
  refine ⟨hperm.nodup_iff.mpr (touchesBegun_nodup s), fun x _ d => ?_, sortBegun_sorted s.now _⟩
  rw [hperm.mem_iff, mem_touchesBegun]

end Touches

/-! ### Details (R168) -/

theorem detailOf_eq {α : Type} {f g : α → List Byte} (h : ∀ x, f x = g x) (o : Option α) :
    State.detailOf f o = o.elim [] g := by
  cases o with
  | none => rfl
  | some x => exact h x

theorem setByte_eq (l : List Bool) : setByte l = u8 (setNumber l) := by
  rw [setNumber_eq_setBits]
  rfl

theorem cmdKindByte_eq (k : CmdKind) : cmdKindByte k = [kindNumber k] := by
  cases k <;> rfl

theorem sequenceAt_eq (s : State) (i : Fin 8) : s.sequenceAt i = (s.recordAt i).elim 0 (·.sequence) := by
  unfold State.sequenceAt
  cases s.recordAt i <;> rfl

theorem handleTouch_shown (s : State) (n : NoticeSet) : detailShown s n 8 (s.noticeDetail n 8) := by
  show if n.handleTouch = true then _ else _
  split
  next h =>
    refine ⟨_, touchesWaiting_sorted s, ?_⟩
    show State.readNow n.handleTouch (listField _ s.waitingTouches) = _
    rw [State.readNow, if_pos h, waitingTouches_eq, listField, listShown, List.length_map, List.flatMap_map]
    rfl
  next h => exact if_neg h

theorem traceReadyBytes_eq (s : State) : s.traceReadyBytes = u8 (((List.finRange 8).filter s.isComplete).length) ++
    optional (fun k => u16 ((s.recordAt k).elim 0 (·.sequence))) (s.trace.captures.find? s.isComplete) := by
  have height : eight = List.finRange 8 := by decide
  simp only [State.traceReadyBytes, State.countBuffers, State.oldestComplete, height, optional_eq, sequenceAt_eq]

theorem eventBytes_eq (e : WindowEvents) : State.eventBytes e =
    u8 (setNumber [e.pinch.isSome, e.stall, e.normalised, e.unnormalised]) ++
      optional (fun c => u8 ([PinchCause.effort, .stall].idxOf c)) e.pinch := by
  rw [State.eventBytes, setByte_eq, optional_eq]
  rfl

theorem faultBytes_eq (s : State) (d : FaultDetail) : s.faultBytes d =
    listShown (fun ch => u8 (Channel.list.idxOf ch) ++
      u8 (setNumber [(d.kinds.get ch).openLoad, (d.kinds.get ch).shortSupply, (d.kinds.get ch).shortGround,
        (d.kinds.get ch).overcurrent]) ++ [yesNo (s.chan ch).withdrawn]) d.order := by
  simp only [State.faultBytes, kindSetByte, setByte_eq, yesNo_eq]
  rfl

/-- R168, R169: the detail that is read is the detail of the statement. -/
theorem noticeDetail_shown (s : State) (n : NoticeSet) (i : Fin 16) : detailShown s n i.val (s.noticeDetail n i.val) := by
  match i with
  | ⟨0, _⟩ => exact detailOf_eq (fun _ => rfl) n.restarted
  | ⟨1, _⟩ => exact detailOf_eq (fun _ => rfl) n.crash
  | ⟨2, _⟩ => exact detailOf_eq (fun _ => setByte_eq _) n.lockChanged
  | ⟨3, _⟩ => exact detailOf_eq (fun _ => setByte_eq _) n.childChanged
  | ⟨4, _⟩ =>
    refine detailOf_eq (fun d => ?_) n.windowEvent
    simp only [eventBytes_eq]
    rfl
  | ⟨5, _⟩ =>
    refine detailOf_eq (fun d => ?_) n.actuationFailed
    simp only [optional_eq]
    rfl
  | ⟨6, _⟩ => exact detailOf_eq (fun _ => rfl) n.superlockRefused
  | ⟨7, _⟩ =>
    refine detailOf_eq (fun d => ?_) n.commandCancelled
    simp only [cmdKindByte_eq, listField, listShown, u8_toNat]
    rfl
  | ⟨8, _⟩ => exact handleTouch_shown s n
  | ⟨9, _⟩ =>
    refine detailOf_eq (fun d => ?_) n.fobCounter
    rw [setByte_eq, vector_toList_eq]
  | ⟨10, _⟩ => exact detailOf_eq (fun _ => setByte_eq _) n.contextChanged
  | ⟨11, _⟩ =>
    show State.readNow n.traceReady s.traceReadyBytes = _
    rw [traceReadyBytes_eq]
    rfl
  | ⟨12, _⟩ => exact detailOf_eq (fun _ => rfl) n.traceLost
  | ⟨13, _⟩ => exact detailOf_eq (fun _ => faultBytes_eq s _) n.fault
  | ⟨14, _⟩ => rfl
  | ⟨15, _⟩ => rfl
  | ⟨i + 16, h⟩ => exact absurd h (by omega)

/-! ### ACK_NOTICES (R169) -/

theorem fieldAt_pair (hi lo : Byte) : fieldAt [hi, lo] 0 2 = 256 * hi.toNat + lo.toNat := by
  simp [fieldAt, ofBytes]

/-- R169: a named notice is absent afterwards, another stands with its detail. -/
theorem ack_sameAt (n : NoticeSet) (m : Nat) (i : Fin 16) :
    if m.testBit i.val then NoticeSet.empty.SameAt (n.ack m) i.val else n.SameAt (n.ack m) i.val := by
  have hone {α : Type} {b : Bool} {x y z : α} (hz : z = if b then x else y) : if b then z = x else z = y := by
    cases b <;> exact hz
  match i with
  | ⟨0, _⟩ | ⟨1, _⟩ | ⟨2, _⟩ | ⟨3, _⟩ | ⟨4, _⟩ | ⟨5, _⟩ | ⟨6, _⟩ | ⟨7, _⟩ | ⟨8, _⟩ | ⟨9, _⟩ | ⟨10, _⟩ | ⟨11, _⟩
  | ⟨12, _⟩ | ⟨13, _⟩ | ⟨14, _⟩ | ⟨15, _⟩ => exact hone rfl
  | ⟨i + 16, h⟩ => exact absurd h (by omega)

theorem ack_all (n : NoticeSet) : (n.ack 65535).present.any id = false := by
  rfl

/-- Settles O16: the mask and the details are read bit by bit, and an acknowledgement tests the bit of each notice. -/
theorem ackNotices : Obligations.AckNotices := by
  refine ⟨fun s p tag i hk => ?_, fun s p tag hi lo hk => ?_⟩
  · have hplace : (BitVec.ofNat 8 i.val).toNat = i.val := Nat.mod_eq_of_lt (by omega)
    refine ⟨_, exec_replied (k := .readNotices) hk rfl (ownReadNotices_place (by rw [hplace]; omega)), ?_⟩
    rw [payloadAt_answered, hplace, setNumber_eq_setBits]
    exact ⟨rfl, noticeDetail_shown s _ i⟩
  · refine ⟨_, exec_passed (k := .ackNotices) hk rfl tag, ?_⟩
    have hset : State.answer p tag (ownerOf .ackNotices p tag [hi, lo] s) =
        { s with
          notices := s.notices.set p ((s.notices.get p).ack (256 * hi.toNat + lo.toNat))
          ports := s.ports.set p (answered tag .ok []) } := by
      rw [← fieldAt_pair]
      rfl
    rw [hset]
    dsimp only
    rw [Ports.get_set_self]
    refine ⟨rfl, ack_sameAt _ _, ?_⟩
    rintro rfl rfl
    show (!s.resetLine && (((s.notices.set p ((s.notices.get p).ack 65535))).get p).present.any id) = false
    rw [Ports.get_set_self, ack_all, Bool.and_false]

end Sys2Proof.Machine
end

section
/-! Runs that end on several windows (R99), and the FILLING records that complete with them (R141). -/

namespace Sys2Proof.Machine
open Sys2Proof

/-! ### FILLING records (R141) -/

/-- R139: no window has more than one FILLING record. -/
def Alone (s : State) : Prop :=
  ∀ i j r r', s.bufferAt i = .filling r → s.bufferAt j = .filling r' → r.window = r'.window → i = j

/-- R141: a buffer whose FILLING record, of a window that `f` names, completes with cause `x`. -/
def Buffer.completed (f : Window → Bool) (x : Completion) : Buffer → Buffer
  | .filling r => if f r.window then .complete r x else .filling r
  | .free => .free
  | .complete r y => .complete r y

/-- R141: the FILLING records of the windows that `f` names have completed with cause `x`; the rings stay. -/
structure Completes (s t : State) (f : Window → Bool) (x : Completion) : Prop where
  rings : t.trace.rings = s.trace.rings
  buffers : Alone s → ∀ i, t.bufferAt i = (s.bufferAt i).completed f x

section Store
variable {s t u : State} {f g : Window → Bool} {x : Completion} {w : Window}

theorem TraceLaw.recordsAlone (hs : TraceLaw s) : Alone s := ((traceLaw_iff s).mp hs).alone

theorem Buffer.completed_none (b : Buffer) (h : ∀ r, b = .filling r → f r.window = false) : b.completed f x = b := by
  cases b with
  | filling r => simp [Buffer.completed, h r rfl]
  | free => rfl
  | complete r y => rfl

theorem Buffer.completed_filling {b : Buffer} {r : TraceRec} (h : b.completed f x = .filling r) : b = .filling r := by
  cases b with
  | filling r' =>
    simp only [Buffer.completed] at h
    split at h
    · cases h
    · exact h
  | free => cases h
  | complete r' y => cases h

theorem Buffer.completed_completed (b : Buffer) :
    (b.completed f x).completed g x = b.completed (fun w => f w || g w) x := by
  cases b with
  | filling r => cases hf : f r.window <;> cases hg : g r.window <;> simp [Buffer.completed, hf, hg]
  | free => rfl
  | complete r y => rfl

namespace Completes

theorem of_trace_eq (h : t.trace = s.trace) (hf : ∀ w, f w = false) : Completes s t f x where
  rings := by rw [h]
  buffers _ i := by
    rw [Buffer.completed_none _ fun r _ => hf r.window]
    simp only [State.bufferAt, h]

theorem congr (h : Completes s t f x) (hfg : ∀ w, f w = g w) : Completes s t g x := by
  rwa [← funext hfg]

/-- The records stay alone. -/
theorem alone (h : Completes s t f x) (hs : Alone s) : Alone t := by
  intro i j r r' hi hj hw
  rw [h.buffers hs] at hi hj
  exact hs i j r r' (Buffer.completed_filling hi) (Buffer.completed_filling hj) hw

theorem after (k : Completes t u g x) (h : Completes s t f x) : Completes s u (fun w => f w || g w) x where
  rings := k.rings.trans h.rings
  buffers hs i := by rw [k.buffers (h.alone hs), h.buffers hs, Buffer.completed_completed]

/-- What happens to other pieces before and after does not matter. -/
theorem of_eq {s' t' : State} (h : Completes s t f x) (hs : s'.trace = s.trace) (ht : t'.trace = t.trace) :
    Completes s' t' f x where
  rings := by rw [ht, hs, h.rings]
  buffers ha i := by
    have hs' : ∀ j, s'.bufferAt j = s.bufferAt j := fun j => by simp only [State.bufferAt, hs]
    have ht' : t'.bufferAt i = t.bufferAt i := by simp only [State.bufferAt, ht]
    have halone : Alone s := fun i j r r' hi hj => ha i j r r' ((hs' i).trans hi) ((hs' j).trans hj)
    rw [ht', hs', h.buffers halone]

theorem fillingStopped (h : Completes s t f .stopped) : fillingStopped s t f := by
  refine ⟨h.rings, fun hs i => ?_⟩
  rw [h.buffers hs.recordsAlone]
  cases s.bufferAt i <;> rfl

end Completes

/-- R141: the FILLING record of a window completes. -/
theorem Completes.completeFilling (s : State) (w : Window) (x : Completion) :
    Completes s (s.completeFilling w x) (fun v => v = w) x := by
  refine ⟨by rw [State.completeFilling_trace], fun hs i => ?_⟩
  unfold State.completeFilling
  split
  next j hj =>
    obtain ⟨r, hr, hw⟩ := State.fillingBuffer_some hj
    rw [State.completeBuffer_filling hr]
    show (s.setBuffer j _).bufferAt i = _
    rw [State.setBuffer_bufferAt]
    split
    next hij =>
      subst hij
      rw [hr]
      simp [Buffer.completed, hw]
    next hij =>
      refine (Buffer.completed_none _ fun r' hr' => decide_eq_false fun hw' => ?_).symm
      exact hij (hs i j r' r hr' hr (hw'.trans hw.symm))
  next hnone =>
    refine (Buffer.completed_none _ fun r hr => decide_eq_false ?_).symm
    exact State.fillingBuffer_none hnone hr

theorem Completes.stopMotion (s : State) (w : Window) (m : Motion) (braked : Bool) (x : Completion) :
    Completes s (s.stopMotion w m braked x) (fun v => v = w) x := by
  unfold State.stopMotion
  dsimp only
  refine (Completes.completeFilling _ w x).of_eq ?_ rfl
  split <;> rfl

theorem Completes.toIdle (s : State) (w : Window) : Completes s (s.toIdle w) (fun v => v = w) .stopped :=
  .stopMotion s w _ _ _

/-! ### An operation on each window in turn -/

/-- Each window's own record completes where the operation completes it. -/
theorem Completes.foldl {g : State → Window → State} {c : State → Window → Bool}
    (hone : ∀ t w, Completes t (g t w) (fun v => v = w && c t w) x) (hother : ∀ t w, OnlyWindow t (g t w) w)
    (hc : ∀ t u w, SameAt w t u → c u w = c t w) (s : State) :
    Completes s (Window.list.foldl g s) (c s) x := by
  have hfold : ∀ (l : List Window) (s : State), l.Nodup → Completes s (l.foldl g s) (fun v => decide (v ∈ l) && c s v) x := by
    intro l
    induction l with
    | nil => exact fun s _ => .of_trace_eq rfl fun _ => rfl
    | cons w l ih =>
      intro s hl
      rw [List.nodup_cons] at hl
      refine ((ih (g s w) hl.2).after (hone s w)).congr fun v => ?_
      by_cases hv : v = w
      · subst hv
        simp [hl.1]
      · rw [hc s _ v (.of_onlyWindow (hother s w) hv)]
        simp [hv]
  refine (hfold Window.list s (by decide)).congr fun v => ?_
  have hmem : v ∈ Window.list := by cases v <;> decide
  simp [hmem]

end Store

/-! ### Motions that end, seen from other states -/

section Seen
variable {s t s' t' u : State} {w : Window} {r : WindowRec}

/-- Whatever happens to the rest of the part, a window whose own pieces are the same has ended its motion. -/
theorem RunEnded.seen (h : RunEnded s t w r) (hs : SameAt w s s') (ht : SameAt w t t') (hnow : t'.now = t.now) :
    RunEnded s' t' w r where
  record := by rw [ht.record, h.record, hnow]
  bridge := by rw [ht.chan, h.bridge, hs.chan]
  pinch := by rw [ht.pinch, h.pinch, hs.pinch]
  refs := by rw [ht.refs, h.refs, hs.refs]

theorem heldBy_eq_any (r : WindowRec) (f : RunHolder → Bool) :
    State.heldBy r f = r.motion.heldRun.any (fun k => f k.holder) := by
  unfold State.heldBy
  cases r.motion.heldRun <;> rfl

theorem Completes.endHeld (s : State) (f : RunHolder → Bool) (w : Window) :
    Completes s (s.endHeld f w) (fun v => v = w && State.heldBy (s.winRec w) f) .stopped := by
  unfold State.endHeld
  split
  next h => exact (Completes.toIdle s w).congr fun v => by simp [h]
  next h => exact .of_trace_eq rfl fun v => by simp [h]

/-- R99: the runs that `f`'s sources hold end on every window. -/
theorem runsEnded_endHeldAll (s : State) (f : RunHolder → Bool) : runsEnded s (s.endHeldAll f) f := by
  constructor
  · intro w
    obtain ⟨u, hu, honly, ht⟩ := foldl_window (f := fun t v => t.endHeld f v) (fun t v => .endHeld t v f)
      (fun t v => State.endHeld_only t f v) s w
    have hnow : (s.endHeldAll f).now = s.now := (State.endHeldAll_only s f).same .now (by decide)
    have hunow : u.now = s.now := honly.same .now (by decide)
    have htaken : SameAt w (u.endHeld f w) (s.endHeldAll f) := ht
    rw [← heldBy_eq_any]
    rw [State.endHeld, hu.record] at htaken
    cases hheld : State.heldBy (s.winRec w) f with
    | true =>
      rw [hheld] at htaken
      have hended := u.toIdle_ended (w := w)
      rw [hu.record] at hended
      exact hended.seen ⟨hu.record.symm, hu.pinch.symm, hu.refs.symm, hu.ring.symm, hu.chan.symm⟩ htaken
        (by rw [hnow, State.toIdle_now, hunow])
    | false =>
      rw [hheld] at htaken
      have hsame : SameAt w s (s.endHeldAll f) := htaken.after hu
      exact ⟨hsame.record, hsame.chan, hsame.refs, hsame.pinch⟩
  · refine Completes.fillingStopped ?_
    refine (Completes.foldl (c := fun t w => State.heldBy (t.winRec w) f) (fun t w => .endHeld t f w)
      (fun t w => .endHeld t w f) (fun t u w h => by rw [h.record]) s).congr fun w => heldBy_eq_any _ f

/-- R88, R92: the mode, the retained power and the rear lockout stay while windows are acted on one after another. -/
theorem foldl_rest {f : State → Window → State} (hone : ∀ t v, OnlyWindow t (f t v) v) (l : List Window) (s : State) :
    (l.foldl f s).win.mode = s.win.mode ∧ (l.foldl f s).win.retained = s.win.retained ∧
      (l.foldl f s).win.rearLockout = s.win.rearLockout := by
  induction l generalizing s with
  | nil => exact ⟨rfl, rfl, rfl⟩
  | cons w l ih =>
    obtain ⟨hmode, hretained, hlockout⟩ := ih (f s w)
    obtain ⟨hmode', hretained', hlockout'⟩ := (hone s w).rest
    exact ⟨hmode.trans hmode', hretained.trans hretained', hlockout.trans hlockout'⟩

theorem State.endHeldAll_rest (s : State) (f : RunHolder → Bool) :
    (s.endHeldAll f).win.mode = s.win.mode ∧ (s.endHeldAll f).win.retained = s.win.retained ∧
      (s.endHeldAll f).win.rearLockout = s.win.rearLockout :=
  foldl_rest (fun t w => .endHeld t w f) Window.list s

/-- The parts in which the runs of the windows stand. -/
def runParts : List Part := [.now, .win, .pinch, .refs, .trace, .mon]

/-- Two states in which the runs of the windows stand alike. -/
structure SameRuns (s t : State) : Prop where
  now : t.now = s.now
  win : t.win = s.win
  pinch : t.pinch = s.pinch
  refs : t.refs = s.refs
  trace : t.trace = s.trace
  mon : t.mon = s.mon

theorem SameRuns.of_only {ps : List Part} (h : Only ps s t) (hd : runParts.all (fun x => !ps.contains x) = true := by rfl) :
    SameRuns s t := by
  have hmem : ∀ x ∈ runParts, x ∉ ps := fun x hx => by simpa using List.all_eq_true.mp hd x hx
  exact ⟨h.same .now (hmem _ (by decide)), h.same .win (hmem _ (by decide)), h.same .pinch (hmem _ (by decide)),
    h.same .refs (hmem _ (by decide)), h.same .trace (hmem _ (by decide)), h.same .mon (hmem _ (by decide))⟩

theorem SameRuns.at (h : SameRuns s t) (w : Window) : SameAt w s t where
  record := by simp only [State.winRec, h.win]
  pinch := by simp only [State.pinchOf, h.pinch]
  refs := by simp only [State.refsOf, h.refs]
  ring := by rw [h.trace]
  chan := by simp only [State.chan, h.mon]

theorem fillingStopped.seen {f : Window → Bool} (h : fillingStopped s t f) (hs : SameRuns s s') (ht : SameRuns t t') :
    fillingStopped s' t' f := by
  obtain ⟨hrings, hbuffers⟩ := h
  refine ⟨by rw [ht.trace, hrings, hs.trace], fun hlaw i => ?_⟩
  have hlaw' : TraceLaw s :=
    traceLaw_restsOn s' s (fun x hx => by
      rcases List.mem_cons.mp hx with rfl | hx
      · exact hs.trace.symm
      · rw [List.mem_singleton.mp hx]
        exact hs.win.symm) hlaw
  have hs' : s'.bufferAt i = s.bufferAt i := by simp only [State.bufferAt, hs.trace]
  have ht' : t'.bufferAt i = t.bufferAt i := by simp only [State.bufferAt, ht.trace]
  rw [ht', hs', hbuffers hlaw']

/-- Whatever happens to other parts before and after, the runs have ended. -/
theorem runsEnded.seen {f : RunHolder → Bool} (h : runsEnded s t f) (hs : SameRuns s s') (ht : SameRuns t t') :
    runsEnded s' t' f := by
  obtain ⟨hwindows, hstopped⟩ := h
  constructor
  · intro w
    have hw := hwindows w
    rw [(hs.at w).record]
    split
    next hheld =>
      rw [if_pos hheld] at hw
      exact hw.seen (hs.at w) (ht.at w) ht.now
    next hheld =>
      rw [if_neg hheld] at hw
      obtain ⟨hrec, hchan, hrefs, hpinch⟩ := hw
      exact ⟨by rw [(ht.at w).record, hrec], by rw [(ht.at w).chan, hchan, (hs.at w).chan],
        by rw [(ht.at w).refs, hrefs, (hs.at w).refs], by rw [(ht.at w).pinch, hpinch, (hs.at w).pinch]⟩
  · refine (show fillingStopped s' t' _ from ?_)
    simp only [(hs.at _).record]
    exact hstopped.seen hs ht

end Seen

end Sys2Proof.Machine
end

section
/-! Writes of the configuration and of the fob table that act on other blocks at once (R55, R70, R83, R92, R135, R151). -/

namespace Sys2Proof.Machine
open Sys2Proof

/-! ### TRACE_READY alone (R143) -/

/-- No notice but TRACE_READY of port B may have been raised. -/
def ReadyAlone (s t : State) : Prop :=
  ∃ v, (s.notices.b.traceReady = true → v = true) ∧ t.notices = { s.notices with b := { s.notices.b with traceReady := v } }

section Ready
variable {s t u : State} {w : Window}

namespace ReadyAlone

theorem of_eq (h : t.notices = s.notices) : ReadyAlone s t := ⟨s.notices.b.traceReady, id, h⟩

theorem after (k : ReadyAlone t u) (h : ReadyAlone s t) : ReadyAlone s u := by
  obtain ⟨v, hv, ht⟩ := h
  obtain ⟨v', hv', hu⟩ := k
  rw [ht] at hv' hu
  exact ⟨v', fun hs => hv' (hv hs), hu⟩

theorem completeFilling (s : State) (w : Window) (x : Completion) : ReadyAlone s (s.completeFilling w x) := by
  unfold State.completeFilling State.completeBuffer
  split
  · split
    · exact ⟨true, fun _ => rfl, rfl⟩
    · exact of_eq rfl
    · exact of_eq rfl
  · exact of_eq rfl

theorem stopMotion (s : State) (w : Window) (m : Motion) (braked : Bool) (x : Completion) :
    ReadyAlone s (s.stopMotion w m braked x) := by
  unfold State.stopMotion
  dsimp only
  refine (completeFilling _ w x).after (of_eq ?_)
  split <;> rfl

theorem toIdle (s : State) (w : Window) : ReadyAlone s (s.toIdle w) := stopMotion s w _ _ _

theorem endHeld (s : State) (f : RunHolder → Bool) (w : Window) : ReadyAlone s (s.endHeld f w) := by
  unfold State.endHeld
  split
  · exact toIdle s w
  · exact of_eq rfl

theorem foldl {α : Type} {g : State → α → State} (hg : ∀ t a, ReadyAlone t (g t a)) (l : List α) (s : State) :
    ReadyAlone s (l.foldl g s) := by
  induction l generalizing s with
  | nil => exact of_eq rfl
  | cons a l ih => exact (ih (g s a)).after (hg s a)

theorem endHeldAll (s : State) (f : RunHolder → Bool) : ReadyAlone s (s.endHeldAll f) :=
  foldl (fun t w => endHeld t f w) _ s

end ReadyAlone

end Ready

/-! ### Configuration writes (R83, R92, R135, R151) -/

section Writes
variable {s : State} {c : Configuration}

theorem State.shiftWritten_same {old : Configuration} {w : Window} (h : (old.cal.get w).zs = (s.calOf w).zs) :
    s.shiftWritten old w = s := if_pos h

/-- R83, R92: what a written configuration does to the touch windows and to the LOCAL runs of the rear windows. -/
def State.policiesApplied (s : State) (c : Configuration) : State :=
  let t := { s with config := c }
  let t := if s.config.passive && !c.passive then { t with touch := .all .idle } else t
  if !s.config.childLockout && c.childLockout then Rear.list.foldl State.lockoutByPolicy t else t

theorem State.policiesApplied_of_lockout (h : c.childLockout = s.config.childLockout) : s.policiesApplied c =
    if s.config.passive && !c.passive then { s with config := c, touch := .all .idle } else { s with config := c } := by
  unfold State.policiesApplied
  rw [h, Bool.not_and_self, if_neg (by decide)]

theorem State.policiesApplied_of_passive (h : c.passive = s.config.passive) : s.policiesApplied c =
    if !s.config.childLockout && c.childLockout then Rear.list.foldl State.lockoutByPolicy { s with config := c }
    else { s with config := c } := by
  unfold State.policiesApplied
  simp only [h, Bool.and_not_self, Bool.false_eq_true, if_false]

/-- R83, R92, R151: a write that leaves the calibrations acts by the policies, and by the counts. -/
theorem State.applyConfig_sameCal (hcal : c.cal = s.config.cal) (g : Group) : s.applyConfig c g =
    if g = .diagMask then (s.policiesApplied c).clearCounts else s.policiesApplied c := by
  have hshift : ∀ (l : List Window) (t : State), t.config = c → l.foldl (State.shiftWritten s.config) t = t := by
    intro l
    induction l with
    | nil => exact fun _ _ => rfl
    | cons w l ih =>
      intro t ht
      have hzs : (s.config.cal.get w).zs = (t.calOf w).zs := by rw [State.calOf, ht, hcal]
      rw [List.foldl_cons]
      show l.foldl (State.shiftWritten s.config) (t.shiftWritten s.config w) = t
      rw [State.shiftWritten_same hzs]
      exact ih t ht
  unfold State.applyConfig
  extract_lets old configured passive locked shifted
  have hpassive : passive.config = c := by
    unfold passive
    split <;> rfl
  have hlocked : locked.config = c := by
    unfold locked
    split
    · rw [(Only.foldl (fun t r => State.lockoutByPolicy_only t r) Rear.list passive).same .config (by decide)]
      exact hpassive
    · exact hpassive
  have hshifted : shifted = locked := hshift _ _ hlocked
  rw [hshifted]
  rfl

/-! #### The lockout by policy (R92) -/

theorem State.endHeld_winRec_of_not (t : State) {f : RunHolder → Bool} (v w : Window)
    (h : State.heldBy (t.winRec w) f = false) : (t.endHeld f v).winRec w = t.winRec w := by
  by_cases hv : w = v
  · subst hv
    rw [State.endHeld, h, if_neg (by decide)]
  · exact (OnlyWindow.endHeld t v f).recs w hv

theorem OnlyWindow.lockoutByPolicy (t : State) (r : Rear) : OnlyWindow t (t.lockoutByPolicy r) (rearWindow r) := by
  unfold State.lockoutByPolicy
  split
  · exact .endHeld t _ _
  · exact .refl t _

theorem State.lockoutByPolicy_winRec_of_not (t : State) (r : Rear) {w : Window}
    (h : State.heldBy (t.winRec w) (fun h => h = .localSw) = false) : (t.lockoutByPolicy r).winRec w = t.winRec w := by
  unfold State.lockoutByPolicy
  split
  · exact t.endHeld_winRec_of_not _ w h
  · rfl

/-- R92: the LOCAL run of a rear window whose child lock's goal is ENGAGED ends with the brake. -/
theorem State.lockoutByPolicy_ends (t : State) (r : Rear) (hgoal : (t.childOf r).goal = .engaged)
    (hheld : State.heldBy (t.winRec (rearWindow r)) (fun h => h = .localSw) = true) :
    ((t.lockoutByPolicy r).winRec (rearWindow r)).motion = .idle ∧
      ((t.lockoutByPolicy r).chan (.w (rearWindow r))).drive = .brake := by
  have hended := t.toIdle_ended (w := rearWindow r)
  have hidle : t.lockoutByPolicy r = t.toIdle (rearWindow r) := by
    rw [State.lockoutByPolicy, if_pos hgoal]
    exact if_pos hheld
  rw [hidle, hended.record, hended.bridge]
  exact ⟨rfl, rfl⟩

/-- R92: the two rear windows are judged alike. -/
theorem lockouts_rear (t : State) (r : Rear) : ∃ u, SameAt (rearWindow r) t u ∧ u.childs = t.childs ∧
    SameAt (rearWindow r) (u.lockoutByPolicy r) (Rear.list.foldl State.lockoutByPolicy t) := by
  cases r with
  | rd => exact ⟨t, .refl _ t, rfl, .of_onlyWindow (OnlyWindow.lockoutByPolicy (t.lockoutByPolicy .rd) .rp) (by decide)⟩
  | rp => exact ⟨t.lockoutByPolicy .rd, .of_onlyWindow (OnlyWindow.lockoutByPolicy t .rd) (by decide),
      (State.lockoutByPolicy_only t .rd).same .childs (by decide), .refl _ _⟩

theorem lockouts_ends (t : State) (r : Rear) (hgoal : (t.childOf r).goal = .engaged) {k : RunRec}
    (hk : (t.winRec (rearWindow r)).motion.heldRun = some k) (hholder : k.holder = .localSw) :
    ((Rear.list.foldl State.lockoutByPolicy t).winRec (rearWindow r)).motion = .idle ∧
      ((Rear.list.foldl State.lockoutByPolicy t).chan (.w (rearWindow r))).drive = .brake := by
  obtain ⟨u, hu, hchilds, hafter⟩ := lockouts_rear t r
  have hgoal' : (u.childOf r).goal = .engaged := by
    rw [State.childOf, hchilds]
    exact hgoal
  have hheld : State.heldBy (u.winRec (rearWindow r)) (fun h => h = .localSw) = true := by
    rw [hu.record, heldBy_eq_any, hk]
    exact decide_eq_true hholder
  rw [hafter.record, hafter.chan]
  exact u.lockoutByPolicy_ends r hgoal' hheld

theorem lockouts_winRec_of_not (t : State) {w : Window}
    (h : ∀ k, (t.winRec w).motion.heldRun = some k → k.holder ≠ .localSw) :
    (Rear.list.foldl State.lockoutByPolicy t).winRec w = t.winRec w := by
  have hheld : State.heldBy (t.winRec w) (fun h => h = .localSw) = false := by
    rw [heldBy_eq_any]
    cases hk : (t.winRec w).motion.heldRun with
    | none => rfl
    | some k => exact decide_eq_false (h k hk)
  have hfirst := t.lockoutByPolicy_winRec_of_not .rd hheld
  show ((t.lockoutByPolicy .rd).lockoutByPolicy .rp).winRec w = _
  rw [State.lockoutByPolicy_winRec_of_not _ .rp (by rw [hfirst]; exact hheld), hfirst]

/-! #### The counts (R151) -/

theorem State.clearCounts_chan (t : State) (hoff : t.config.globalMask.overcurrent = false) (ch : Channel) :
    t.clearCounts.chan ch = { t.chan ch with ocCount := 0 } := by
  have hfold : ∀ (l : List Channel) (u : State), u.config = t.config →
      (l.foldl (fun s x => if s.enabled x .overcurrent then s else s.setChan x { s.chan x with ocCount := 0 }) u).chan ch =
        if ch ∈ l then { u.chan ch with ocCount := 0 } else u.chan ch := by
    intro l
    induction l with
    | nil => exact fun _ _ => rfl
    | cons x l ih =>
      intro u hu
      have hoff' : u.enabled x .overcurrent = false := by
        have hmask : u.config.globalMask.get .overcurrent = false := by
          rw [hu]
          exact hoff
        rw [State.enabled, hmask, Bool.and_false]
      have hput := ih (u.setChan x { u.chan x with ocCount := 0 }) hu
      rw [State.setChan_chan] at hput
      rw [List.foldl_cons, hoff', if_neg (by decide), hput]
      by_cases hx : ch = x
      · subst hx
        simp
      · simp [hx]
  have hmem : ch ∈ Channel.list := by
    cases ch with
    | act a =>
      cases a with
      | l c => cases c <;> decide
      | c r => cases r <;> decide
      | t1 => decide
    | w w => cases w <;> decide
  rw [State.clearCounts, hfold _ t rfl, if_pos hmem]

end Writes

/-- Settles O19: the written configuration differs in one item, and the stages of the write follow from that item. -/
theorem policyWritesActAtOnce : Obligations.PolicyWritesActAtOnce := by
  intro s tag hk hpolicy hmask
  have hwrite {item index hi lo : Byte} {c : Configuration}
      (h : s.config.withItem .policy item.toNat index.toNat (256 * hi.toNat + lo.toNat) = some c)
      (hcal : c.cal = s.config.cal) :
      exec (.configWrite .b tag [0, item, index, hi, lo]) s = .next (State.answer .b tag (s.policiesApplied c).accept) := by
    have happly := s.applyConfig_sameCal hcal .policy
    rw [if_neg (by decide)] at happly
    rw [← happly]
    exact exec_configWrite_valid hk tag .policy hpolicy h
  refine ⟨?_, ?_, ?_, ?_⟩
  · obtain ⟨c, hc⟩ : ∃ c, c = { s.config with passive := false } := ⟨_, rfl⟩
    have hlockout := State.policiesApplied_of_lockout (s := s) (c := c) (by rw [hc])
    refine ⟨_, hwrite (item := 2) (c := c) (by rw [hc]; rfl) (by rw [hc]), ?_⟩
    rw [hlockout, hc]
    cases s.config.passive with
    | true => exact ⟨rfl, fun x => Touches.get_all x _, rfl⟩
    | false => exact ⟨rfl, fun x => rfl, rfl⟩
  · obtain ⟨c, hc⟩ : ∃ c, c = { s.config with passive := true } := ⟨_, rfl⟩
    have hlockout := State.policiesApplied_of_lockout (s := s) (c := c) (by rw [hc])
    refine ⟨_, hwrite (item := 2) (c := c) (by rw [hc]; rfl) (by rw [hc]), ?_⟩
    rw [hlockout, hc, if_neg (by simp)]
    exact ⟨rfl, rfl⟩
  · obtain ⟨c, hc⟩ : ∃ c, c = { s.config with childLockout := true } := ⟨_, rfl⟩
    have hon : c.childLockout = true := by rw [hc]
    have hpassive := State.policiesApplied_of_passive (s := s) (c := c) (by rw [hc])
    refine ⟨_, hwrite (item := 1) (c := c) (by rw [hc]; rfl) (by rw [hc]), ?_⟩
    rw [hpassive, hon]
    cases s.config.childLockout with
    | true =>
      rw [if_neg (by decide)]
      exact ⟨hon, fun r h => absurd h (by decide), fun w _ => rfl⟩
    | false =>
      rw [if_pos (by decide)]
      have hconfig := (Only.foldl (fun t r => State.lockoutByPolicy_only t r) Rear.list { s with config := c }).same .config
        (by decide)
      exact ⟨(congrArg Configuration.childLockout hconfig).trans hon,
        fun r _ hgoal k hk hholder => lockouts_ends { s with config := c } r hgoal hk hholder,
        fun w hw => lockouts_winRec_of_not { s with config := c } hw⟩
  · obtain ⟨c, hc⟩ : ∃ c, c = { s.config with globalMask := kindSetOf 7 } := ⟨_, rfl⟩
    have happly := s.applyConfig_sameCal (c := c) (by rw [hc]) .diagMask
    have hlockout := State.policiesApplied_of_lockout (s := s) (c := c) (by rw [hc])
    rw [if_neg (by rw [hc]; simp)] at hlockout
    rw [if_pos rfl, hlockout] at happly
    refine ⟨_, exec_configWrite_valid hk tag .diagMask hmask (item := 1) (index := 0) (hi := 0) (lo := 7) (c := c)
      (by rw [hc]; rfl), ?_⟩
    rw [happly]
    have hconfig := (State.clearCounts_only { s with config := c }).same .config (by decide)
    refine ⟨(congrArg Configuration.globalMask hconfig).trans (by rw [hc]; rfl), fun ch => ?_⟩
    exact State.clearCounts_chan { s with config := c } (by rw [hc]; rfl) ch

end Sys2Proof.Machine
end

section
/-! A write of a window's zone shift (R135), and FOB_WRITE with the FOB_READ that follows (R55, R56, R70). -/

namespace Sys2Proof.Machine
open Sys2Proof

/-! ### Zone shifts (R135) -/

section Shift
variable {s : State} {c : Configuration} {w : Window}

/-- R135: where one calibration alone has been written, its window alone is looked at. -/
theorem foldl_shiftWritten {old : Configuration} (hother : ∀ v, v ≠ w → c.cal.get v = old.cal.get v) (hs : s.config = c) :
    Window.list.foldl (State.shiftWritten old) s = s.shiftWritten old w := by
  have hskip : ∀ (l : List Window) (t : State), t.config = c → w ∉ l → l.foldl (State.shiftWritten old) t = t := by
    intro l
    induction l with
    | nil => exact fun _ _ _ => rfl
    | cons v l ih =>
      intro t ht hw
      rw [List.mem_cons, not_or] at hw
      obtain ⟨hv, hl⟩ := hw
      have hsame : t.shiftWritten old v = t := by
        refine State.shiftWritten_same ?_
        rw [State.calOf, ht, hother v (Ne.symm hv)]
      rw [List.foldl_cons]
      show l.foldl (State.shiftWritten old) (t.shiftWritten old v) = t
      rw [hsame]
      exact ih t ht hl
  have hmem : w ∈ Window.list := by cases w <;> decide
  have hnodup : Window.list.Nodup := by decide
  obtain ⟨l, r, hlist⟩ := List.append_of_mem hmem
  rw [hlist, List.nodup_append, List.nodup_cons] at hnodup
  obtain ⟨-, ⟨hr, -⟩, hlr⟩ := hnodup
  have hl : w ∉ l := fun h => hlr w h w (List.mem_cons_self ..) rfl
  have hconfig : (s.shiftWritten old w).config = c := Eq.trans ((State.shiftWritten_only old s w).same .config (by decide)) hs
  rw [hlist, List.foldl_append, hskip l s hs hl, List.foldl_cons]
  exact hskip r _ hconfig hr

/-- R135: a write of a calibration acts by the zone shifts alone. -/
theorem State.applyConfig_windowCal (hpassive : c.passive = s.config.passive) (hlockout : c.childLockout = s.config.childLockout)
    (hother : ∀ v, v ≠ w → c.cal.get v = s.config.cal.get v) :
    s.applyConfig c .windowCal = ({ s with config := c } : State).shiftWritten s.config w := by
  rw [← foldl_shiftWritten (c := c) hother rfl]
  unfold State.applyConfig
  simp only [hpassive, hlockout, Bool.and_not_self, Bool.not_and_self, Bool.false_eq_true, if_false]
  rfl

theorem OnlyWindow.changeShift (t : State) (w : Window) (z : Nat) : OnlyWindow t (t.changeShift w z) w := by
  unfold State.changeShift
  dsimp only
  split
  · split
    · exact .setRefs t w _
    · split
      · exact .refl t w
      · exact (OnlyWindow.raiseContextChanged _ w).after (.setRefs t w _)
  · split
    · exact .setRefs t w _
    · exact (OnlyWindow.raiseContextChanged _ w).after (.setRefs t w _)

theorem OnlyWindow.shiftWritten (t : State) (old : Configuration) (w : Window) : OnlyWindow t (t.shiftWritten old w) w := by
  unfold State.shiftWritten
  split
  · exact .refl t w
  · exact .changeShift t w _

variable {t : State} {z : Nat}

/-- R135: a write that brings the pending shift back withdraws the forget. -/
theorem State.changeShift_back (h : (t.refsOf w).pendingForget = some z) :
    t.changeShift w z = t.setRefs w { t.refsOf w with pendingForget := none } := by
  unfold State.changeShift
  dsimp only
  rw [h]
  exact if_pos rfl

/-- R135: a running window holds the forget until its next start. -/
theorem State.changeShift_running (hrun : (t.winRec w).motion.running = true)
    (hnot : (t.refsOf w).pendingForget ≠ some z) : t.changeShift w z =
      if (t.refsOf w).pendingForget.isSome then t
      else t.setRefs w { t.refsOf w with pendingForget := some (t.runCal w).zs } := by
  unfold State.changeShift
  dsimp only
  rw [hrun]
  cases hp : (t.refsOf w).pendingForget with
  | none => rfl
  | some z' =>
    have hne : z ≠ z' := fun hz => hnot (by rw [hp, hz])
    show (if z = z' then _ else _) = _
    rw [if_neg hne]
    rfl

/-- R135: any other window forgets at once. -/
theorem State.changeShift_still (hrun : (t.winRec w).motion.running = false)
    (hnot : (t.refsOf w).pendingForget ≠ some z) :
    t.changeShift w z = (t.forgetReferences w).raiseContextChanged w := by
  unfold State.changeShift
  dsimp only
  rw [hrun]
  cases hp : (t.refsOf w).pendingForget with
  | none => rfl
  | some z' =>
    have hne : z ≠ z' := fun hz => hnot (by rw [hp, hz])
    show (if z = z' then _ else _) = _
    rw [if_neg hne]
    rfl

theorem contextChanged_named (t : State) (w : Window) :
    ∃ d, (t.raiseContextChanged w).notices.b.contextChanged = some d ∧ d.get w = true :=
  ⟨_, rfl, Windows.get_set_self _ w true⟩

theorem Configuration.withItem_zoneShift (c : Configuration) (w : Window) {z : Nat} (hz : z ≤ 7) :
    c.withItem .windowCal 2 (Window.list.idxOf w) z = some { c with cal := c.cal.set w { c.cal.get w with zs := z } } := by
  have hplace : Window.list[Window.list.idxOf w]? = some w := by cases w <;> rfl
  simp [Configuration.withItem, hplace, Cal.withItem, ranged, hz]

end Shift

/-- Settles O20: the write changes the zone shift of one window, whose references are then forgotten, held or kept. -/
theorem zoneShiftWrite : Obligations.ZoneShiftWrite := by
  intro s tag z w hk hopen hz
  have hindex : (BitVec.ofNat 8 (Window.list.idxOf w)).toNat = Window.list.idxOf w := toNat_idxOf (by decide) w
  obtain ⟨c, hc⟩ : ∃ c, c = { s.config with cal := s.config.cal.set w { s.config.cal.get w with zs := z.toNat } } := ⟨_, rfl⟩
  have hitem : s.config.withItem .windowCal (2 : Byte).toNat (BitVec.ofNat 8 (Window.list.idxOf w)).toNat
      (256 * (0 : Byte).toNat + z.toNat) = some c := by
    have hvalue : 256 * (0 : Byte).toNat + z.toNat = z.toNat := by simp
    rw [hindex, hvalue, hc]
    exact s.config.withItem_zoneShift w hz
  have happly := State.applyConfig_windowCal (s := s) (c := c) (w := w) (by rw [hc]) (by rw [hc])
    (fun v hv => by rw [hc]; exact Windows.get_set_ne _ _ _ _ hv)
  refine ⟨_, exec_configWrite_valid hk tag .windowCal hopen hitem, ?_⟩
  rw [happly]
  obtain ⟨u, hu⟩ : ∃ u, u = ({ s with config := c } : State) := ⟨_, rfl⟩
  have hrefs : u.refsOf w = s.refsOf w := by rw [hu]; rfl
  have hrec : u.winRec w = s.winRec w := by rw [hu]; rfl
  have hnotices : u.notices = s.notices := by rw [hu]
  have hzs : (u.calOf w).zs = z.toNat := by
    rw [hu, State.calOf, hc]
    exact congrArg Cal.zs (Windows.get_set_self _ w _)
  rw [← hu]
  obtain ⟨t, ht⟩ : ∃ t, t = u.shiftWritten s.config w := ⟨_, rfl⟩
  have honly : OnlyWindow u t w := by rw [ht]; exact .shiftWritten u _ w
  have hshift : t = if (s.calOf w).zs = z.toNat then u else u.changeShift w z.toNat := by
    rw [ht, State.shiftWritten, hzs]
    rfl
  have hconfig : t.config = u.config := by rw [ht]; exact (State.shiftWritten_only _ u w).same .config (by decide)
  rw [← ht]
  show (t.calOf w).zs = z.toNat ∧ (∀ w', w' ≠ w → t.refsOf w' = s.refsOf w') ∧
    (z.toNat = (s.calOf w).zs → t.refsOf w = s.refsOf w ∧ t.notices = s.notices) ∧ _
  refine ⟨?_, fun v hv => (honly.refs v hv).trans (by rw [hu]; rfl), fun hsame => ?_, fun hdiff hback => ?_,
    fun hdiff hnot hrun => ?_, fun hdiff hnot hstill => ?_⟩
  · rw [State.calOf, hconfig]
    exact hzs
  · rw [hshift, if_pos hsame.symm]
    exact ⟨hrefs, hnotices⟩
  · rw [← hrefs] at hback
    rw [if_neg (Ne.symm hdiff), State.changeShift_back hback] at hshift
    show t.refsOf w = _ ∧ t.notices = _
    rw [hshift, State.setRefs_self, hrefs]
    exact ⟨rfl, hnotices⟩
  · rw [← hrefs] at hnot
    rw [← hrec] at hrun
    rw [if_neg (Ne.symm hdiff), State.changeShift_running hrun hnot] at hshift
    show (t.refsOf w).zones = _ ∧ t.notices = _ ∧ (_ → ∀ k, _ → (t.refsOf w).pendingForget = _) ∧ (_ → t.refsOf w = _)
    rw [← hrefs]
    cases hp : (u.refsOf w).pendingForget with
    | none =>
      rw [hp, if_neg (by decide)] at hshift
      rw [hshift, State.setRefs_self]
      refine ⟨rfl, hnotices, fun _ k hcal => ?_, fun hne => absurd rfl hne⟩
      have hcal' : (u.pinchOf w).cal = some k := by rw [hu]; exact hcal
      rw [State.runCal, hcal']
      rfl
    | some z' =>
      rw [hp, if_pos (show (some z').isSome = true from rfl)] at hshift
      rw [hshift]
      exact ⟨rfl, hnotices, fun h => (by cases h), fun _ => rfl⟩
  · rw [← hrefs] at hnot
    rw [← hrec] at hstill
    rw [if_neg (Ne.symm hdiff), State.changeShift_still hstill hnot] at hshift
    have hforgotten : t.refsOf w = { u.refsOf w with zones := Vector.replicate 32 none, learned := 0, pendingForget := none } := by
      rw [hshift]
      exact State.setRefs_self u w _
    show (∀ x : Fin 32, (t.refsOf w).zones[x] = none) ∧ (t.refsOf w).learned = 0 ∧ (t.refsOf w).pendingForget = none ∧
      ∃ d, t.notices.b.contextChanged = some d ∧ d.get w = true
    rw [hforgotten]
    refine ⟨fun x => getElem_replicate_fin _ x, rfl, rfl, ?_⟩
    rw [hshift]
    exact contextChanged_named _ w

/-! ### FOB_WRITE and FOB_READ (R55, R56, R70) -/

section Fobs
variable {s : State} {i : Fin 8} {c r : Nat}

/-- R55: the payload of a FOB_WRITE with the number of a status. -/
def fobWriteBytes (i : Fin 8) (n c r : Nat) : List Byte := u8 i.val ++ u8 n ++ u24 c ++ u8 r

theorem eight_byte (i : Fin 8) : eight[(BitVec.ofNat 8 i.val).toNat]? = some i := by
  have hall : ∀ i : Fin 8, eight[(BitVec.ofNat 8 i.val).toNat]? = some i := by decide
  exact hall i

/-- R55: the owner writes the slot that the payload spells. -/
theorem ownFobWrite_bytes (s : State) {st : SlotStatus} (hc : c < 16777216) (hr : r < 16) :
    State.ownFobWrite (fobWriteBytes i (slotStatuses.idxOf st) c r) s =
      (s.writeFob i (State.writtenSlot st c (rightsOf r))).accept := by
  have hslot : slotField (fobWriteBytes i (slotStatuses.idxOf st) c r) 0 = some i := eight_byte i
  have hstatus : pick slotStatuses (fobWriteBytes i (slotStatuses.idxOf st) c r) 1 = some st := by cases st <;> rfl
  have hcounter : fieldAt (fobWriteBytes i (slotStatuses.idxOf st) c r) 2 3 = c := ofBytes_u24 hc
  have hrights : byteAt (fobWriteBytes i (slotStatuses.idxOf st) c r) 5 = r :=
    (BitVec.toNat_ofNat ..).trans (Nat.mod_eq_of_lt (by omega))
  rw [State.ownFobWrite, hslot, hstatus]
  dsimp only
  rw [hrights, hcounter, if_pos hr]

theorem exec_fobWrite_bytes (hk : s.canTake .b) (hopen : s.config.frozen.fobTable = false) (tag : Byte) (st : SlotStatus)
    (hc : c < 16777216) (hr : r < 16) :
    exec (.fobWrite .b tag (fobWriteBytes i (slotStatuses.idxOf st) c r)) s =
      .next (State.answer .b tag (s.writeFob i (State.writtenSlot st c (rightsOf r))).accept) := by
  have hpassed := exec_passed (k := .fobWrite) (q := fobWriteBytes i (slotStatuses.idxOf st) c r) hk
    (State.decoderRefusal_none Nat.le.refl Nat.le.refl rfl hopen) tag
  refine hpassed.trans ?_
  show Host.Outcome.next (State.answer .b tag (State.ownFobWrite _ s)) = _
  rw [ownFobWrite_bytes s hc hr]

/-- R70: the session of another slot stands. -/
theorem State.writeFob_other (h : ∀ x, s.fobs.session = some x → x.slot ≠ i) (f : FobSlot) :
    s.writeFob i f = s.setSlot i f := by
  have hkept : (s.setSlot i f).fobs.session = s.fobs.session := rfl
  unfold State.writeFob
  dsimp only
  rw [hkept]
  cases hx : s.fobs.session with
  | none => rfl
  | some x => exact if_neg (h x hx)

/-- R70: the session of the written slot ends, and the runs that it holds stop. -/
theorem State.writeFob_own {x : Session} (hx : s.fobs.session = some x) (hi : x.slot = i) (f : FobSlot) :
    s.writeFob i f = ((s.setSlot i f).setSession none).endHeldAll (fun h => h = .comfortK i) := by
  have hkept : (s.setSlot i f).fobs.session = some x := hx
  unfold State.writeFob State.endSession
  dsimp only
  rw [hkept, ← hi]
  exact if_pos rfl

theorem State.slotAt_setSlot (s : State) (i : Fin 8) (f : FobSlot) : (s.setSlot i f).slotAt i = f := by
  simp [State.setSlot, State.slotAt]

theorem setBits_rights {r : Nat} (hr : r < 16) : setBits [r.testBit 0, r.testBit 1, r.testBit 2, r.testBit 3] = r := by
  have hall : ∀ r < 16, setBits [r.testBit 0, r.testBit 1, r.testBit 2, r.testBit 3] = r := by decide
  exact hall r hr

/-- R56: the bytes of a slot as FOB_WRITE leaves it. -/
theorem fobBytes_written {st : SlotStatus} (h : s.slotAt i = .written st c r) (hr : r < 16) :
    s.fobBytes i = u8 (slotStatuses.idxOf st) ++ (u24 c ++ u8 r) ++ [0, 0, 0] := by
  have hrights : rightsByte ⟨r.testBit 0, r.testBit 1, r.testBit 2, r.testBit 3⟩ = u8 r := by
    show u8 (setBits [r.testBit 0, r.testBit 1, r.testBit 2, r.testBit 3]) = u8 r
    rw [setBits_rights hr]
  unfold State.fobBytes
  rw [h]
  simp only [FobSlot.written, hrights]
  rfl

/-- R55, R56: a written slot is read back once the response has been sent. -/
theorem fobWrite_read (hk : s.canTake .b) (tag : Byte) (hdue : s.softResetDue = false) {f : FobSlot} {payload : List Byte}
    (hbytes : ∀ u : State, u.slotAt i = f → u.fobBytes i = payload) {t : State}
    (ht : t = { s with fobs := s.fobs.with i f, ports := s.ports.set .b (answered tag .ok []) }) :
    ∃ u, exec (.responseSent .b) t = .next u ∧
      exec (.fobRead .b tag (u8 i.val)) u = .next { u with ports := u.ports.set .b (answered tag .ok payload) } := by
  have hl : t.resetLine = false := by rw [ht]; exact hk.1
  have hanswering : (t.ports.get .b).engine = .answering := by rw [ht]; rfl
  have hslot : t.slotAt i = f := by rw [ht]; exact s.slotAt_setSlot i f
  have hsent := responseSentAndSoftResetRequest.1 t .b hl hanswering (fun _ => by rw [ht]; exact hdue)
  have hread := exec_replied (k := .fobRead) (tag := tag) (t.canTake_idlePort hl .b) rfl (ownFobRead_slot (eight_byte i))
  rw [hbytes (t.idlePort .b) hslot] at hread
  exact ⟨t.idlePort .b, hsent, hread⟩

end Fobs

/-- R55, R56, R70: FOB_WRITE with a status, and the bytes that are read back. -/
theorem fobWriteRead_status {s : State} (tag : Byte) (i : Fin 8) {c r : Nat} (hk : s.canTake .b)
    (hopen : s.config.frozen.fobTable = false) (hc : c < 16777216) (hr : r < 16) (st : SlotStatus) {f : FobSlot}
    {payload : List Byte} (hf : State.writtenSlot st c (rightsOf r) = f)
    (hbytes : ∀ u : State, u.slotAt i = f → u.fobBytes i = payload) :
    ((∀ x, s.fobs.session = some x → x.slot ≠ i) → ∃ t,
      exec (.fobWrite .b tag (fobWriteBytes i (slotStatuses.idxOf st) c r)) s = .next t ∧
      t = { s with fobs := s.fobs.with i f, ports := s.ports.set .b (answered tag .ok []) } ∧
      (s.softResetDue = false → ∃ u, exec (.responseSent .b) t = .next u ∧
        exec (.fobRead .b tag (u8 i.val)) u = .next { u with ports := u.ports.set .b (answered tag .ok payload) })) ∧
    (∀ x, s.fobs.session = some x → x.slot = i → ∃ t,
      exec (.fobWrite .b tag (fobWriteBytes i (slotStatuses.idxOf st) c r)) s = .next t ∧
      Only [.fobs, .win, .refs, .trace, .mon, .notices, .ports] s t ∧
      t.fobs = { s.fobs.with i f with session := none } ∧
      t.ports = s.ports.set .b (answered tag .ok []) ∧ runsEnded s t (fun h => h = .comfortK i) ∧
      t.win.mode = s.win.mode ∧ t.win.retained = s.win.retained ∧ t.win.rearLockout = s.win.rearLockout ∧
      t.notices.b.fobCounter = s.notices.b.fobCounter) := by
  have hwrite := exec_fobWrite_bytes (i := i) hk hopen tag st hc hr
  rw [hf] at hwrite
  constructor
  · intro hother
    rw [State.writeFob_other hother] at hwrite
    exact ⟨_, hwrite, rfl, fun hdue => fobWrite_read hk tag hdue hbytes rfl⟩
  · intro x hx hi
    rw [State.writeFob_own hx hi] at hwrite
    obtain ⟨u, hu⟩ : ∃ u, u = (s.setSlot i f).setSession none := ⟨_, rfl⟩
    have hwritten : Only [.fobs] s u := by
      rw [hu]
      exact (State.setSession_only _ none).after rfl (State.setSlot_only s i f)
    obtain ⟨t, ht⟩ : ∃ t, t = u.endHeldAll (fun h => h = .comfortK i) := ⟨_, rfl⟩
    have hstopped : Only [.win, .refs, .trace, .mon, .notices] u t := by rw [ht]; exact State.endHeldAll_only u _
    obtain ⟨v, -, hready⟩ := ReadyAlone.endHeldAll u (fun h => h = .comfortK i)
    have hrest := u.endHeldAll_rest (fun h => h = .comfortK i)
    have hruns := runsEnded_endHeldAll u (fun h => h = .comfortK i)
    rw [← hu, ← ht] at hwrite
    rw [← ht] at hready hrest hruns
    have hanswered : Only [.ports] t (State.answer .b tag t.accept) := State.setPort_only t .b _
    have hwin : u.win = s.win := hwritten.same .win (by decide)
    have hnotices : u.notices = s.notices := hwritten.same .notices (by decide)
    have hports : t.ports = s.ports :=
      Eq.trans (hstopped.same .ports (by decide)) (hwritten.same .ports (by decide))
    have hfobs : t.fobs = { s.fobs.with i f with session := none } := by
      rw [show t.fobs = u.fobs from hstopped.same .fobs (by decide), hu]
      rfl
    rw [hwin] at hrest
    refine ⟨_, hwrite, hanswered.after rfl (hstopped.after rfl (hwritten.mono (by decide))), hfobs, ?_,
      hruns.seen (s' := s) (t' := State.answer .b tag t.accept) ?_ (.of_only hanswered), hrest.1, hrest.2.1, hrest.2.2, ?_⟩
    · rw [← hports]
      rfl
    · obtain ⟨hnow, hwin, hpinch, hrefs, htrace, hmon⟩ := SameRuns.of_only hwritten
      exact ⟨hnow.symm, hwin.symm, hpinch.symm, hrefs.symm, htrace.symm, hmon.symm⟩
    · rw [← hnotices]
      show t.notices.b.fobCounter = _
      rw [hready]

/-- Settles O21: the owner writes the slot whole; the session that belongs to it ends, and the read spells it. -/
theorem fobWriteRead : Obligations.FobWriteRead := by
  intro s tag i c r hk hopen hc hr row hrow
  simp only [List.mem_cons, List.not_mem_nil, or_false] at hrow
  rcases hrow with rfl | rfl | rfl
  · exact fobWriteRead_status tag i hk hopen hc hr .empty rfl fun u hu => fobBytes_written hu (by decide)
  · exact fobWriteRead_status tag i hk hopen hc hr .active rfl fun u hu => fobBytes_written hu hr
  · exact fobWriteRead_status tag i hk hopen hc hr .suspended rfl fun u hu => fobBytes_written hu hr

end Sys2Proof.Machine
end

section
/-! A CREDENTIAL: its fields, the counter step, and the outcomes up to the check of its right (R57 to R63). -/

namespace Sys2Proof.Machine
open Sys2Proof

/-! ### The counter step (R58) -/

section Counter
variable {f : FobSlot} {now c : Nat} {a : Option FobAction}

theorem repeatsLast_iff {x : FobAction} : repeatsLast f now (some x) = true ↔ f.repeatedBy now x := by
  unfold repeatsLast FobSlot.repeatedBy Config.duplicateWindow
  cases f.lastAccepted with
  | none => simp
  | some l =>
    rw [Bool.and_eq_true, decide_eq_true_iff, decide_eq_true_iff]
    exact ⟨fun ⟨hnow, haction⟩ => ⟨l, rfl, hnow, haction.symm⟩, by rintro ⟨_, ⟨⟩, hnow, rfl⟩; exact ⟨hnow, rfl⟩⟩

theorem confirmsCandidate_iff : confirmsCandidate f c = true ↔ f.confirmedBy c := by
  unfold confirmsCandidate FobSlot.confirmedBy Config.counterModulus
  cases f.candidate with
  | none => simp
  | some k => simp

theorem classify_duplicate {x : FobAction} (h : ahead c f.counter = 0) (hr : f.repeatedBy now x) :
    classify f now c (some x) = .duplicate := by
  simp only [classify]
  rw [if_pos ((counterDistance_zero_iff _ _).mpr h), if_pos (repeatsLast_iff.mpr hr)]

theorem classify_same (h : ahead c f.counter = 0) (hr : repeatsLast f now a = false) : classify f now c a = .stale := by
  simp only [classify]
  rw [if_pos ((counterDistance_zero_iff _ _).mpr h), hr]
  rfl

/-- R58: the classification of a counter that is not the slot's own. -/
theorem classify_apart (h : ahead c f.counter ≠ 0) :
    classify f now c a = if 32768 < ahead c f.counter then .stale
      else if ahead c f.counter ≤ 256 then .accepted
      else if confirmsCandidate f c then .accepted
      else if f.streak < 8 then .resyncNeeded else .stale := by
  have hd := counterDistance_eq_ahead c f.counter
  have hpast : 32768 < ahead c f.counter ↔ 32768 < counterDistance c f.counter := by omega
  have hnear : ahead c f.counter ≤ 256 ↔ counterDistance c f.counter ≤ 256 := by omega
  simp only [classify, hpast, hnear]
  rw [if_neg (show counterDistance c f.counter ≠ 0 by omega)]

theorem classify_past (h : 32768 < ahead c f.counter) : classify f now c a = .stale := by
  rw [classify_apart (by omega), if_pos h]

theorem classify_exhausted (h : 256 < ahead c f.counter) (hconfirmed : ¬ f.confirmedBy c) (hstreak : 8 ≤ f.streak) :
    classify f now c a = .stale := by
  rw [classify_apart (by omega), if_neg (show ¬ ahead c f.counter ≤ 256 by omega),
    if_neg (mt confirmsCandidate_iff.mp hconfirmed), if_neg (show ¬ f.streak < 8 by omega), ite_self]

theorem classify_resync (h : 256 < ahead c f.counter) (hfar : ahead c f.counter ≤ 32768) (hconfirmed : ¬ f.confirmedBy c)
    (hstreak : f.streak < 8) : classify f now c a = .resyncNeeded := by
  rw [classify_apart (by omega), if_neg (by omega), if_neg (by omega), if_neg (mt confirmsCandidate_iff.mp hconfirmed),
    if_pos hstreak]

theorem classify_accepts (h : f.accepts c) : classify f now c a = .accepted := by
  obtain ⟨hahead, hnear | ⟨hfar, hconfirmed⟩⟩ := h
  · rw [classify_apart (by omega), if_neg (by omega), if_pos hnear]
  · rw [classify_apart (by omega), if_neg (by omega), if_pos (confirmsCandidate_iff.mpr hconfirmed), ite_self]

end Counter

/-! ### What the classification leaves of the slot (R59 to R62) -/

section Applied
variable {s : State} {i : Fin 8} {c : Nat} {a : Option FobAction}

theorem rejected_streak (f : FobSlot) : State.rejected f = { f with streak := min 15 (f.streak + 1) } := rfl

theorem rejected_below {f : FobSlot} (h : f.streak < 8) : State.rejected f = { f with streak := f.streak + 1 } := by
  rw [rejected_streak, Nat.min_eq_right (by omega)]

theorem State.applyCounter_stale : s.applyCounter i c a .stale =
    { s with fobs := s.fobs.with i { s.slotAt i with streak := min 15 ((s.slotAt i).streak + 1) } } := rfl

theorem State.applyCounter_resync (h : (s.slotAt i).streak < 8) : s.applyCounter i c a .resyncNeeded = { s with
      fobs := s.fobs.with i
        { s.slotAt i with streak := (s.slotAt i).streak + 1, candidate := some ⟨c, s.now + 100000⟩ } } := by
  unfold State.applyCounter
  dsimp only
  rw [rejected_below h]
  rfl

/-- R62, R69: the slot has accepted the counter, and FOB_COUNTER names it. -/
def State.counted (s : State) (i : Fin 8) (c : Nat) (last : Option Accepted) : State :=
  { s with fobs := s.fobs.with i ((s.slotAt i).advanced c last), notices := counterNamed s.notices i }

theorem State.applyCounter_accepted :
    s.applyCounter i c a .accepted = s.counted i c (a.map (fun x => ⟨s.now, x⟩)) := rfl

theorem State.applyCounter_duplicate {x : FobAction} (h : (s.slotAt i).repeatedBy s.now x) :
    s.applyCounter i c a .duplicate =
      { s with fobs := s.fobs.with i { s.slotAt i with lastAccepted := some ⟨s.now, x⟩ } } := by
  obtain ⟨l, hl, -, rfl⟩ := h
  unfold State.applyCounter
  dsimp only
  rw [hl]
  rfl

theorem slotAt_with (x : Fobs) (f : FobSlot) : State.slotAt { s with fobs := x.with i f } i = f := by
  simp [State.slotAt, Fobs.with]

theorem counted_slotAt (last : Option Accepted) : (s.counted i c last).slotAt i = (s.slotAt i).advanced c last :=
  slotAt_with (s := { s with notices := counterNamed s.notices i }) _ _

theorem setSession_slotAt (x : Option Session) : (s.setSession x).slotAt i = s.slotAt i := rfl

end Applied

/-! ### The fields of a CREDENTIAL (R57) -/

section Fields
variable {s : State} {tag : Byte} {i : Fin 8} {c : Nat} {a : FobAction}

theorem ownCredential_bytes (hc : c < 16777216) :
    State.ownCredential tag (credentialBytes i c a) s = s.credential i c a tag := by
  have hslot : slotField (credentialBytes i c a) 0 = some i := eight_byte i
  have haction : pick fobActions (credentialBytes i c a) 4 = some a := by cases a <;> rfl
  have hcounter : fieldAt (credentialBytes i c a) 1 3 = c := ofBytes_u24 hc
  rw [State.ownCredential, hslot, haction]
  dsimp only
  rw [hcounter]

theorem exec_credential (hk : s.canTake .k) (hc : c < 16777216) :
    exec (.credential .k tag (credentialBytes i c a)) s = .next (State.answer .k tag (s.credential i c a tag)) := by
  refine (exec_passed (k := .credential) hk rfl tag).trans ?_
  show Host.Outcome.next (State.answer .k tag (State.ownCredential tag _ s)) = _
  rw [ownCredential_bytes hc]

/-- R57: an answer that names no window. -/
theorem answer_credentialReply (code : Code) {n : Nat} (h : (s.slotAt i).counter = n) :
    State.answer .k tag (s.credentialReply i code (.all false)) =
      { s with ports := s.ports.set .k (answered tag code (u8 i.val ++ u24 n ++ [0])) } := by
  rw [← h]
  rfl

theorem State.credential_active (h : (s.slotAt i).status = .active) :
    s.credential i c a tag = s.judgeFrame i c a tag := by
  rw [State.credential, h]

theorem State.judgeFrame_duplicate (h : classify (s.slotAt i) s.now c (some a) = .duplicate) :
    s.judgeFrame i c a tag =
      ((s.applyCounter i c (some a) .duplicate).renewByDuplicate i a).credentialReply i .duplicate (.all false) := by
  simp only [State.judgeFrame, h]

theorem State.judgeFrame_stale (h : classify (s.slotAt i) s.now c (some a) = .stale) :
    s.judgeFrame i c a tag = (s.applyCounter i c (some a) .stale).credentialReply i .stale (.all false) := by
  simp only [State.judgeFrame, h]

theorem State.judgeFrame_resync (h : classify (s.slotAt i) s.now c (some a) = .resyncNeeded) :
    s.judgeFrame i c a tag =
      (s.applyCounter i c (some a) .resyncNeeded).credentialReply i .resyncNeeded (.all false) := by
  simp only [State.judgeFrame, h]

theorem allowed_iff {r : Rights} : a.allowed r = true ↔ a.admitted r := by
  cases a <;> exact Iff.rfl

theorem State.judgeFrame_noRight (h : (s.slotAt i).accepts c) (hright : ¬ a.admitted (s.slotAt i).rights) :
    s.judgeFrame i c a tag = (s.applyCounter i c (some a) .accepted).credentialReply i .noRight (.all false) := by
  simp only [State.judgeFrame, classify_accepts h]
  exact if_neg (mt allowed_iff.mp hright)

theorem State.judgeFrame_admitted (h : (s.slotAt i).accepts c) (hright : a.admitted (s.slotAt i).rights) :
    s.judgeFrame i c a tag = (s.applyCounter i c (some a) .accepted).fobAction i a tag := by
  simp only [State.judgeFrame, classify_accepts h]
  exact if_pos (allowed_iff.mpr hright)

end Fields

/-! ### The session and a DUPLICATE (R59, R67) -/

section Session
variable {s : State} {i : Fin 8} {a : FobAction}

/-- R59: the session of the slot and of the direction of the action is renewed. -/
theorem State.renewByDuplicate_eq : s.renewByDuplicate i a = s.setSession (s.fobs.session.map (fun x =>
    if x.slot = i ∧ (a = .comfortClose ∧ x.dir = .close ∨ a = .comfortOpen ∧ x.dir = .opening) then
      { x with keepAlive := s.now + 3000 } else x)) := by
  unfold State.renewByDuplicate State.sessionIs State.renewSession
  cases hx : s.fobs.session with
  | none =>
    have hsame : s.setSession none = s := by rw [← hx]; rfl
    cases a <;> exact hsame.symm
  | some x =>
    have hsame : s.setSession (some x) = s := by rw [← hx]; rfl
    cases a <;> simp only [FobAction.comfort, Option.map_some, reduceCtorEq, false_and, or_self, and_false, if_false, hsame,
      true_and, or_false, false_or, Bool.and_eq_true, decide_eq_true_eq]
    all_goals
      split
      · rfl
      · exact hsame.symm

end Session

/-! ### The statement -/

/-- Settles O22: the classification of R58 decides each case, and what it leaves of the slot is what the answer shows. -/
theorem credentialJudged : Obligations.CredentialJudged := by
  intro s tag i c a hk hc
  rw [exec_credential hk hc]
  refine ⟨fun h => ?_, fun h => ?_, fun h => ?_⟩
  · rw [State.credential, h]
    rfl
  · rw [State.credential, h]
    rfl
  rw [State.credential_active h]
  refine ⟨fun hsame hrepeated => ?_, fun hstale => ?_, fun hfar hnear hconfirmed hstreak => ?_, fun haccepts hright => ?_⟩
  · rw [State.judgeFrame_duplicate (classify_duplicate hsame hrepeated), State.renewByDuplicate_eq,
      State.applyCounter_duplicate hrepeated,
      answer_credentialReply _ (congrArg FobSlot.counter ((setSession_slotAt _).trans (slotAt_with _ _)))]
    rfl
  · have hclass : classify (s.slotAt i) s.now c (some a) = .stale := by
      rcases hstale with ⟨hsame, hnot⟩ | hpast | ⟨hfar, hconfirmed, hstreak⟩
      · exact classify_same hsame (by simpa using mt repeatsLast_iff.mp hnot)
      · exact classify_past hpast
      · exact classify_exhausted hfar hconfirmed hstreak
    rw [State.judgeFrame_stale hclass, State.applyCounter_stale,
      answer_credentialReply _ (congrArg FobSlot.counter (slotAt_with _ _))]
  · rw [State.judgeFrame_resync (classify_resync hfar hnear hconfirmed hstreak), State.applyCounter_resync hstreak,
      answer_credentialReply _ (congrArg FobSlot.counter (slotAt_with _ _))]
  · rw [State.judgeFrame_noRight haccepts hright, State.applyCounter_accepted,
      answer_credentialReply _ (congrArg FobSlot.counter (counted_slotAt _))]
    rfl

end Sys2Proof.Machine
end

section
/-! Commands offered to the lock sequencer (R22, R23, R33 to R35), and those that an accepted CREDENTIAL hands over (R64,
R65). -/

namespace Sys2Proof.Machine
open Sys2Proof

/-! ### A command offered to the sequencer -/

section Offer
variable {s : State} {c : Command}

/-- R22: a refused command changes nothing. -/
theorem State.offer_refused {code : Code} (h : s.acceptance c = some code) : s.offer c = s := by
  have hcode : s.offerCode c = code := by rw [State.offerCode, h]; rfl
  have hnot : code.accepted = false := acceptance_not_accepted h
  unfold State.offer
  simp only [hcode, hnot, Bool.false_eq_true, if_false]

theorem State.offerCode_refused {code : Code} (h : s.acceptance c = some code) : s.offerCode c = code := by
  rw [State.offerCode, h]
  rfl

/-- R22: the crash latch refuses every lock-class command. -/
theorem State.acceptance_crash (hcrash : s.crash.latch = true) (hclass : c.kind.lockClass = true) :
    s.acceptance c = some .crash := by
  unfold State.acceptance
  rw [if_pos (by simp [hcrash, hclass])]

/-- R22: FD AJAR refuses a LOCK command that port B did not issue. -/
theorem State.acceptance_ajar (hcrash : s.crash.latch = false) (hcls : c.kind.cls = .lock)
    (hajar : s.closures.fd.latch = .ajar) (hsource : c.source ≠ .b) : s.acceptance c = some .ajar := by
  unfold State.acceptance
  rw [if_neg (by simp [hcrash]), if_pos (by simp [hcls, hajar, hsource])]

/-- R22: the crash latch, or FD AJAR, keeps a LOCK command of elsewhere than port B from the queue. -/
theorem State.offer_lock_barred (hcls : c.kind.cls = .lock) (hsource : c.source ≠ .b)
    (h : s.crash.latch = true ∨ s.closures.fd.latch = .ajar) : s.offer c = s := by
  cases hlatch : s.crash.latch with
  | true =>
    refine State.offer_refused (State.acceptance_crash hlatch ?_)
    rw [CmdKind.lockClass, hcls]
    rfl
  | false => exact State.offer_refused (State.acceptance_ajar hlatch hcls (h.resolve_left (by simp [hlatch])) hsource)

/-- R22: every command passes but the crash latch's lock-class commands, a LOCK from elsewhere than port B with FD AJAR, and a
release of its own. -/
theorem State.acceptance_clear (hcrash : c.kind.lockClass = true → s.crash.latch = false)
    (hajar : c.kind.cls = .lock → c.source ≠ .b → s.closures.fd.latch ≠ .ajar)
    (hrelease : c.kind = .releaseTailgate → c.paired = true) : s.acceptance c = none := by
  unfold State.acceptance
  rw [if_neg, if_neg, if_neg]
  · simpa using hrelease
  · simp only [Bool.and_eq_true, decide_eq_true_eq, bne_iff_ne]
    exact fun ⟨⟨hcls, hopen⟩, hsource⟩ => hajar hcls hsource hopen
  · simp only [Bool.and_eq_true]
    exact fun ⟨hlatch, hclass⟩ => Bool.eq_false_iff.mp (hcrash hclass) hlatch

/-- R23, step 3, and R33: an accepted command without an opposite or an identical newest entry is added at the tail. -/
theorem State.offer_added (h : s.acceptance c = none) (hclass : c.kind.lockClass = true)
    (hopposite : s.seq.queue.any (cancels c.kind) = false)
    (hnewest : ∀ e, newestPending s.seq.queue = some e → e.kind ≠ c.kind) (hlen : s.seq.queue.length < 4) :
    s.offerCode c = .ok ∧ s.offer c = { s with seq := { s.seq with
      queue := s.seq.queue ++ [c.entry]
      repeatRec := some { origin := c.source.origin, action := c.kind.repeatAction, time := s.now } } } := by
  have hkept : cancelled c.kind s.seq.queue = s.seq.queue := by
    rw [cancelled, hopposite]
    rfl
  have hnone : s.seq.queue.filter (cancels c.kind) = [] := by
    simpa [List.filter_eq_nil_iff] using hopposite
  have hcode : s.offerCode c = .ok := by
    rw [State.offerCode, h, Option.getD_none, State.placement, hkept]
    cases hn : newestPending s.seq.queue with
    | none => exact if_neg (by omega)
    | some e => exact (if_neg (hnewest e hn)).trans (if_neg (by omega))
  refine ⟨hcode, ?_⟩
  unfold State.offer
  simp only [hcode, hkept, hnone, List.foldl_nil, State.recordRepeat, hclass, if_true]
  rfl

/-- R23, R33: a lock-class command taken by an empty queue. -/
theorem State.offer_taken (h : s.acceptance c = none) (hclass : c.kind.lockClass = true) (hq : s.seq.queue = []) :
    s.offerCode c = .ok ∧
      s.offer c = { s with seq := s.seq.took c.entry c.source.origin c.kind.repeatAction s.now } := by
  obtain ⟨hcode, hoffer⟩ := State.offer_added h hclass (by rw [hq]; rfl) (by rw [hq]; exact fun _ h => nomatch h)
    (by rw [hq]; decide)
  refine ⟨hcode, hoffer.trans ?_⟩
  rw [hq]
  rfl

/-- R34, R35: the kind that a LOCK or an UNLOCK action becomes. -/
theorem State.unlockAction_eq (s : State) (o : Origin) : s.unlockAction o =
    if s.config.selectiveUnlock = true ∧ s.mode ≠ .allOpen ∧ s.repeatMatches o .unlock = false then .unlockDriver
    else .unlockAll := by
  unfold State.unlockAction
  simp only [Bool.and_eq_true, bne_iff_ne, Bool.not_eq_true', and_assoc]

theorem State.lockAction_cls (s : State) (o : Origin) : (s.lockAction o).cls = .lock := by
  unfold State.lockAction
  split <;> rfl

theorem State.unlockAction_cls (s : State) (o : Origin) : (s.unlockAction o).cls = .unlock := by
  unfold State.unlockAction
  split <;> rfl

/-- R33: the action that the repeat record takes from a lock or an unlock command. -/
def actionOf (unlocks : Bool) : RepeatAction := if unlocks then .unlock else .lock

/-- R22, R33: a lock or an unlock command, taken by an empty queue with the crash latch clear, and a lock of elsewhere than
port B with FD not AJAR. -/
theorem State.offer_turned (unlocks : Bool) (hcls : c.kind.cls = if unlocks then .unlock else .lock) (hq : s.seq.queue = [])
    (hcrash : s.crash.latch = false) (hajar : unlocks = false → c.source ≠ .b → s.closures.fd.latch ≠ .ajar) :
    s.offerCode c = .ok ∧
      s.offer c = { s with seq := s.seq.took c.entry c.source.origin (actionOf unlocks) s.now } := by
  have hclass : c.kind.lockClass = true := by
    unfold CmdKind.lockClass
    rw [hcls]
    cases unlocks <;> rfl
  have haction : c.kind.repeatAction = actionOf unlocks := by
    unfold CmdKind.repeatAction
    rw [hcls]
    cases unlocks <;> rfl
  have hkind : c.kind ≠ .releaseTailgate := by
    intro h
    rw [h] at hcls
    cases unlocks <;> cases hcls
  rw [← haction]
  refine State.offer_taken (State.acceptance_clear (fun _ => hcrash) (fun h => hajar ?_) (fun h => absurd h hkind)) hclass hq
  rw [hcls] at h
  cases unlocks
  · rfl
  · cases h

/-- R41: the two commands of a tailgate action, taken by an empty queue. -/
theorem State.tailgatePair_taken (src : CmdSource) (tag : Byte) (hq : s.seq.queue = []) (hcrash : s.crash.latch = false)
    (hajar : s.closures.fd.latch ≠ .ajar) :
    s.tailgatePair src tag = ({ s with seq := { s.seq with
      queue := [portEntry .unlockTailgate src .k tag false, portEntry .releaseTailgate src .k tag true]
      repeatRec := some { origin := src.origin, action := .other, time := s.now } } }, [.ok, .ok]) := by
  obtain ⟨hcode, hoffer⟩ := State.offer_taken (s := s) (c := State.slotCommand .unlockTailgate src tag)
    (State.acceptance_clear (fun _ => hcrash) (fun _ _ => hajar) nofun) rfl hq
  obtain ⟨u, hu⟩ : ∃ u, u = s.offer (State.slotCommand .unlockTailgate src tag) := ⟨_, rfl⟩
  have hqueue : u.seq.queue = [portEntry .unlockTailgate src .k tag false] := by rw [hu, hoffer]; rfl
  obtain ⟨hcode', hoffer'⟩ := State.offer_added (s := u)
    (c := { State.slotCommand .releaseTailgate src tag with paired := true })
    (State.acceptance_clear (fun _ => by rw [hu, hoffer]; exact hcrash) nofun (fun _ => rfl)) rfl
    (by rw [hqueue]; rfl) (by rw [hqueue]; rintro e ⟨⟩; exact nofun) (by rw [hqueue]; exact (by decide : 1 < 4))
  unfold State.tailgatePair
  dsimp only
  rw [hcode, ← hu]
  refine Prod.ext (hoffer'.trans ?_) (congrArg (fun x => [Code.ok, x]) hcode')
  rw [hqueue, hu, hoffer]
  rfl

end Offer

/-! ### An accepted CREDENTIAL with its right (R64, R65) -/

section Credential
variable {s : State} {tag : Byte} {i : Fin 8} {c : Nat} {a : FobAction}

/-- R57: an accepted frame whose right is held: the slot is counted, and the action answers. -/
theorem exec_credential_admitted (hk : s.canTake .k) (hc : c < 16777216) (hactive : (s.slotAt i).status = .active)
    (h : (s.slotAt i).accepts c) (hright : a.admitted (s.slotAt i).rights) :
    exec (.credential .k tag (credentialBytes i c a)) s =
      .next (State.answer .k tag ((s.counted i c (some ⟨s.now, a⟩)).fobAction i a tag)) := by
  rw [exec_credential hk hc, State.credential_active hactive, State.judgeFrame_admitted h hright,
    State.applyCounter_accepted]
  rfl

/-- R64: a fob's lock or unlock command, taken by an empty queue. -/
theorem State.lockReply_taken {k : CmdKind} (unlocks : Bool) (hcls : k.cls = if unlocks then .unlock else .lock)
    (hq : s.seq.queue = []) (hcrash : s.crash.latch = false) (hajar : s.closures.fd.latch ≠ .ajar) {n : Nat}
    (hn : (s.slotAt i).counter = n) :
    State.answer .k tag (s.lockReply i k tag) = { s with
      seq := s.seq.took (portEntry k (.kFob i) .k tag false) (.slot i) (actionOf unlocks) s.now
      ports := s.ports.set .k (answered tag .ok (u8 i.val ++ u24 n ++ [0])) } := by
  obtain ⟨hcode, hoffer⟩ := State.offer_turned (s := s) (c := State.slotCommand k (.kFob i) tag) unlocks hcls hq hcrash
    (fun _ _ => hajar)
  unfold State.lockReply
  dsimp only
  rw [hcode, hoffer, ← hn]
  rfl

/-- R65: a fob's TAILGATE, taken by an empty queue. -/
theorem State.tailgate_taken (hq : s.seq.queue = []) (hcrash : s.crash.latch = false)
    (hajar : s.closures.fd.latch ≠ .ajar) {n : Nat} (hn : (s.slotAt i).counter = n) :
    State.answer .k tag (s.fobAction i .tailgate tag) = { s with
      seq := { s.seq with
        queue := [portEntry .unlockTailgate (.kFob i) .k tag false, portEntry .releaseTailgate (.kFob i) .k tag true]
        repeatRec := some { origin := .slot i, action := .other, time := s.now } }
      ports := s.ports.set .k (answered tag .ok (u8 i.val ++ u24 n ++ [0])) } := by
  unfold State.fobAction
  dsimp only
  rw [State.tailgatePair_taken (.kFob i) tag hq hcrash hajar, ← hn]
  rfl

/-- Settles O23: the counted slot's action offers its commands to the empty queue, which takes them. -/
theorem credentialHandsOver : Obligations.CredentialHandsOver := by
  intro s tag i c hk hc hactive haccepts hdoors htailgate hq hcrash hajar
  have hcounter : ∀ last, ((s.counted i c last).slotAt i).counter = c :=
    fun last => congrArg FobSlot.counter (counted_slotAt last)
  refine ⟨fun row hrow => ?_, ?_⟩
  · simp only [List.mem_cons, List.not_mem_nil, or_false] at hrow
    rcases hrow with rfl | rfl
    · rw [exec_credential_admitted (a := .lock) hk hc hactive haccepts hdoors]
      exact congrArg Host.Outcome.next
        (State.lockReply_taken (s := s.counted i c (some ⟨s.now, .lock⟩)) false (State.lockAction_cls _ _) hq hcrash hajar
          (hcounter _))
    · rw [exec_credential_admitted (a := .unlock) hk hc hactive haccepts hdoors]
      refine congrArg Host.Outcome.next
        ((State.lockReply_taken (s := s.counted i c (some ⟨s.now, .unlock⟩)) true (State.unlockAction_cls _ _) hq hcrash hajar
          (hcounter _)).trans ?_)
      rw [State.unlockAction_eq]
      rfl
  · rw [exec_credential_admitted (a := .tailgate) hk hc hactive haccepts htailgate]
    exact congrArg Host.Outcome.next
      (State.tailgate_taken (s := s.counted i c (some ⟨s.now, .tailgate⟩)) hq hcrash hajar (hcounter _))

end Credential

end Sys2Proof.Machine
end

section
/-! A PASSIVE_CLAIM for a WAITING entry (R58, R62, R79 to R81). -/

namespace Sys2Proof.Machine
open Sys2Proof

/-! ### The counter, the zone and the action of a claim -/

section Claim
variable {s : State} {tag : Byte} {x : TouchSource} {i : Fin 8} {c : Nat} {z : KeyZone} {clear : Bool}

/-- R76: the answer to a claim. -/
theorem answer_claimReply (code : Code) {n : Nat} (h : (s.slotAt i).counter = n) :
    State.answer .k tag (s.claimReply x i code) =
      { s with ports := s.ports.set .k (answered tag code (claimAnswer x i n)) } := by
  rw [← h]
  rfl

theorem State.claimCounter_stale (h : classify (s.slotAt i) s.now c none = .stale) :
    s.claimCounter x i c z clear tag = (s.applyCounter i c none .stale).claimReply x i .stale := by
  simp only [State.claimCounter, h]

theorem State.claimCounter_resync (h : classify (s.slotAt i) s.now c none = .resyncNeeded) :
    s.claimCounter x i c z clear tag = (s.applyCounter i c none .resyncNeeded).claimReply x i .resyncNeeded := by
  simp only [State.claimCounter, h]

theorem State.claimCounter_refused (h : (s.slotAt i).accepts c) {code : Code} (hz : zoneRefusal x z clear = some code) :
    s.claimCounter x i c z clear tag = (s.counted i c none).claimReply x i code := by
  simp only [State.claimCounter, classify_accepts h, hz]
  rfl

theorem State.claimCounter_served (h : (s.slotAt i).accepts c) (hz : zoneRefusal x z clear = none) :
    s.claimCounter x i c z clear tag = (s.counted i c none).claimAction x i tag := by
  simp only [State.claimCounter, classify_accepts h, hz]
  rfl

/-- R80: NONE and INSIDE end a claim, and so does OUTSIDE_NEAR for a lock touch when the key is not clear of the inside. -/
theorem State.zoneRefusal_some (h : z = .none ∨ z = .inside ∨ (x = .fdLock ∨ x = .fpLock) ∧ clear = false) :
    State.zoneRefusal x z clear = some (if z = .none then .noKey else .keyInside) := by
  rcases h with rfl | rfl | ⟨rfl | rfl, rfl⟩
  · rfl
  · rfl
  · cases z <;> rfl
  · cases z <;> rfl

theorem State.zoneRefusal_none (h : clear = true ∨ x = .fdOpen ∨ x = .fpOpen ∨ x = .tgButton) :
    State.zoneRefusal x .outsideNear clear = none := by
  rcases h with rfl | rfl | rfl | rfl
  · cases x <;> rfl
  all_goals rfl

variable (hq : s.seq.queue = []) (hcrash : s.crash.latch = false) (hajar : s.closures.fd.latch ≠ .ajar) {n : Nat}
  (hn : (s.slotAt i).counter = n)
include hq hcrash hajar hn

/-- R81: a claim's lock or unlock command, taken by an empty queue. -/
theorem State.claimCommand_taken {k : CmdKind} (unlocks : Bool) (hcls : k.cls = if unlocks then .unlock else .lock) :
    State.answer .k tag (s.claimCommand x i k tag) = { s with
      seq := s.seq.took (portEntry k (.kPassive i) .k tag false) (.slot i) (actionOf unlocks) s.now
      ports := s.ports.set .k (answered tag .ok (claimAnswer x i n)) } := by
  obtain ⟨hcode, hoffer⟩ :=
    State.offer_turned (s := s) (c := State.slotCommand k (.kPassive i) tag) unlocks hcls hq hcrash (fun _ _ => hajar)
  unfold State.claimCommand
  dsimp only
  rw [hcode, hoffer, ← hn]
  rfl

/-- R81: what an action leaves of the sequencer, and its answer. -/
theorem State.claimAction_taken : State.answer .k tag (s.claimAction x i tag) = { s with
      seq := match x with
        | .fdOpen => s.seq.took (portEntry (s.unlockAction (.slot i)) (.kPassive i) .k tag false) (.slot i) .unlock s.now
        | .fpOpen => s.seq.took (portEntry .unlockAll (.kPassive i) .k tag false) (.slot i) .unlock s.now
        | .fdLock | .fpLock => s.seq.took (portEntry .lockAll (.kPassive i) .k tag false) (.slot i) .lock s.now
        | .tgButton =>
          { s.seq with
            queue := [portEntry .unlockTailgate (.kPassive i) .k tag false,
                      portEntry .releaseTailgate (.kPassive i) .k tag true]
            repeatRec := some { origin := .slot i, action := .other, time := s.now } }
      ports := s.ports.set .k (answered tag .ok (claimAnswer x i n)) } := by
  cases x with
  | fdOpen => exact State.claimCommand_taken hq hcrash hajar hn true (State.unlockAction_cls _ _)
  | fpOpen => exact State.claimCommand_taken hq hcrash hajar hn true rfl
  | fdLock => exact State.claimCommand_taken hq hcrash hajar hn false rfl
  | fpLock => exact State.claimCommand_taken hq hcrash hajar hn false rfl
  | tgButton =>
    unfold State.claimAction
    dsimp only
    rw [State.tailgatePair_taken (.kPassive i) tag hq hcrash hajar, ← hn]
    rfl

end Claim

/-- Settles O28: the window is consumed, the counter step decides, then the zone, then the empty queue takes the command. -/
theorem claimServed : Obligations.ClaimServed := by
  intro s tag x i c z clear hk hc hwaiting hactive hpassive
  obtain ⟨d, hd⟩ := hwaiting
  obtain ⟨u, hu⟩ : ∃ u, u = s.setTouch x .idle := ⟨_, rfl⟩
  have hslot : u.slotAt i = s.slotAt i := by rw [hu]; rfl
  have hexec : exec (.passiveClaim .k tag (claimBytes x i c z clear)) s =
      .next (State.answer .k tag (u.claimCounter x i c z clear tag)) := by
    rw [exec_passiveClaim_waiting hk tag i hc z clear hd, ← hu,
      State.claimSlot_admitted x c z clear tag (hslot ▸ hactive) (hslot ▸ hpassive)]
  have hcounted : ((u.counted i c none).slotAt i).counter = c := congrArg FobSlot.counter (counted_slotAt none)
  rw [hexec, ← hslot]
  refine ⟨fun hstale => ?_, fun hfar hnear hconfirmed hstreak => ?_, fun haccepts => ⟨fun hz => ?_, ?_⟩⟩
  · have hclass : classify (u.slotAt i) u.now c none = .stale := by
      rcases hstale with hsame | hpast | ⟨hfar, hconfirmed, hstreak⟩
      · exact classify_same hsame (by unfold repeatsLast; split <;> simp_all)
      · exact classify_past hpast
      · exact classify_exhausted hfar hconfirmed hstreak
    rw [State.claimCounter_stale hclass, State.applyCounter_stale,
      answer_claimReply _ (congrArg FobSlot.counter (slotAt_with _ _)), hu]
    rfl
  · rw [State.claimCounter_resync (classify_resync hfar hnear hconfirmed hstreak), State.applyCounter_resync hstreak,
      answer_claimReply _ (congrArg FobSlot.counter (slotAt_with _ _)), hu]
    rfl
  · rw [State.claimCounter_refused haccepts (State.zoneRefusal_some hz), answer_claimReply _ hcounted, hu]
    rfl
  · rintro rfl hclear hq hcrash hajar
    rw [State.claimCounter_served haccepts (State.zoneRefusal_none hclear),
      State.claimAction_taken (s := u.counted i c none) (by rw [hu]; exact hq)
      (by rw [hu]; exact hcrash) (by rw [hu]; exact hajar) hcounted, State.unlockAction_eq, hu]
    rfl

end Sys2Proof.Machine
end

section
/-! The stability timer of a line that gives a contact event (R5): touch lines (R71, R73, R82), inner handles (R13) and key
contacts (R14). -/

namespace Sys2Proof.Machine
open Sys2Proof

/-! ### A line that settles (R5) -/

/-- R5: the lines after one of them has settled, at the time of its timer or later. -/
def State.settledTo (s : State) (d : Nat) (y : Sensing) : State := { s with now := max s.now d, sensing := y }

section Settle
variable {s : State} {d : Nat} {y : Sensing}

theorem State.settledTo_only : Only [.now, .sensing] s (s.settledTo d y) :=
  Only.after (Only.sensing _ _) rfl ((State.reach_only s d).mono rfl)

theorem exec_debounceExpiry (hl : s.resetLine = false) (l : Line) :
    exec (.debounceExpiry l) s = .next (s.debounce l) :=
  congrArg Host.Outcome.next (State.live_of_not_held hl _)

theorem State.debounce_touch {x : TouchSource} (hd : (s.sensing.touch.get x).timer = some d) :
    s.debounce (.touch x) = (s.settledTo d { s.sensing with
        touch := s.sensing.touch.set x { s.sensing.touch.get x with level := some (s.sensing.touch.get x).raw, timer := none } }).contactEvent
      (s.sensing.touch.get x) (fun u => u.touched x) := by
  simp only [State.debounce, hd]
  rfl

theorem State.debounce_handle {a : Side} (hd : (s.sensing.handle.get a).timer = some d) :
    s.debounce (.handle a) = (s.settledTo d { s.sensing with
        handle := s.sensing.handle.set a { s.sensing.handle.get a with level := some (s.sensing.handle.get a).raw, timer := none } }).contactEvent
      (s.sensing.handle.get a) (fun u => u.handlePull a) := by
  simp only [State.debounce, hd]
  rfl

theorem State.debounce_keyLock (hd : s.sensing.keyLock.timer = some d) :
    s.debounce .keyLock = (s.settledTo d { s.sensing with
        keyLock := { s.sensing.keyLock with level := some s.sensing.keyLock.raw, timer := none } }).contactEvent
      s.sensing.keyLock State.keyLockContact := by
  simp only [State.debounce, hd]
  rfl

theorem State.debounce_keyUnlock (hd : s.sensing.keyUnlock.timer = some d) :
    s.debounce .keyUnlock = (s.settledTo d { s.sensing with
        keyUnlock := { s.sensing.keyUnlock with level := some s.sensing.keyUnlock.raw, timer := none } }).contactEvent
      s.sensing.keyUnlock State.keyUnlockContact := by
  simp only [State.debounce, hd]
  rfl

/-- R5: a first level, an opening and a glitch give no event. -/
theorem State.contactEvent_none {x : Stage Bool} {f : State → State} (h : x.level ≠ some false ∨ x.raw = false) :
    s.contactEvent x f = s := by
  unfold State.contactEvent
  rcases h with h | h <;> simp [h]

theorem State.contactEvent_some {x : Stage Bool} {f : State → State} (hlevel : x.level = some false)
    (hraw : x.raw = true) : s.contactEvent x f = f s := by
  unfold State.contactEvent
  simp [hlevel, hraw]

theorem Only.contactEvent {ps : List Part} (x : Stage Bool) {f : State → State} (h : Only ps s (f s)) :
    Only ps s (s.contactEvent x f) := by
  unfold State.contactEvent
  split
  · exact h
  · exact Only.refl _ _

/-- A settled line with an event that leaves time and lines: what the later state shows of them. -/
theorem settled_seen {ps : List Part} {t u : State} (hu : u = s.settledTo d y) (h : Only ps u t)
    (hnow : ps.contains .now = false) (hsensing : ps.contains .sensing = false) : t.now = max s.now d ∧ t.sensing = y := by
  subst hu
  exact ⟨h.same .now (by simpa using hnow), h.same .sensing (by simpa using hsensing)⟩

/-- A line that settles without an event that changes anything. -/
theorem settled_quiet {t : State} (h : t = s.settledTo d y) : Only [.now, .sensing] s t := by
  rw [h]
  exact State.settledTo_only

/-- A line that settles with a lock-class command that the sequencer takes. -/
theorem settled_offer {t u : State} {c : Command} {e : Entry} {o : Origin} {a : RepeatAction} (hu : u = s.settledTo d y)
    (ht : t = u.offer c) (h : u.offer c = { u with seq := u.seq.took e o a u.now }) :
    Only [.now, .sensing, .seq] s t ∧ t.seq = s.seq.took e o a (max s.now d) := by
  rw [ht, h, hu]
  exact ⟨Only.after (Only.seq _ _) rfl (State.settledTo_only.mono rfl), rfl⟩

end Settle

/-! ### Touch lines (R71, R73, R82) -/

section Touch
variable {s : State} {x : TouchSource}

theorem State.touchEvent_off (h : s.config.passive = false) : s.touchEvent x = s := by
  unfold State.touchEvent
  rw [h]

/-- R73: with the passive policy on, a touch on an entry that is not WAITING opens a window. -/
theorem State.touchEvent_opens (hp : s.config.passive = true) (h : ∀ e, s.touch.get x ≠ .waiting e) :
    s.touchEvent x = (s.setTouch x (.waiting s.now)).raiseHandleTouch := by
  unfold State.touchEvent
  rw [hp]
  cases hx : s.touch.get x with
  | waiting e => exact absurd hx (h e)
  | idle | expired => rfl

/-- R82: a press with TG standing UNLOCKED, under the crash latch, gives nothing. -/
theorem State.tailgatePress_unlocked (hgoal : s.closures.tg.lockGoal = .unlocked)
    (hsensed : s.closures.tg.lockSensed = .unlocked) : s.tailgatePress =
      if s.crash.latch then s else s.offer (.internal .releaseTailgate .tgButton) := by
  unfold State.tailgatePress
  rw [if_pos (by simp [hgoal, hsensed])]

/-- R22: a release with TG AJAR is refused; otherwise, with TG standing UNLOCKED and the crash latch clear, it passes. -/
theorem State.acceptance_release {c : Command} (hkind : c.kind = .releaseTailgate) (hpaired : c.paired = false)
    (hcrash : s.crash.latch = false) (hgoal : s.closures.tg.lockGoal = .unlocked)
    (hsensed : s.closures.tg.lockSensed = .unlocked) :
    s.acceptance c = if s.closures.tg.latch = .ajar then some .ajar else none := by
  unfold State.acceptance
  rw [hkind, hpaired, hcrash, hgoal, hsensed]
  rfl

end Touch

/-- Settles O29: the line settles, and the event, if there is one, is the touch window table's or the sequencer's. -/
theorem debouncedTouch : Obligations.DebouncedTouch := by
  intro s x hl d hd
  obtain ⟨u, hu⟩ : ∃ u, u = s.settledTo d { s.sensing with
    touch := s.sensing.touch.set x { s.sensing.touch.get x with level := some (s.sensing.touch.get x).raw, timer := none } } :=
    ⟨_, rfl⟩
  have hdebounce := State.debounce_touch hd
  rw [← hu] at hdebounce
  obtain ⟨hnow, hsensing⟩ := settled_seen hu
    (Only.contactEvent (s.sensing.touch.get x) (f := fun t => t.touched x) (State.touched_only u x)) rfl rfl
  have hclosures : u.closures = s.closures := by rw [hu]; rfl
  have hconfig : u.config = s.config := by rw [hu]; rfl
  have htouch : u.touch = s.touch := by rw [hu]; rfl
  have hcrash : u.crash = s.crash := by rw [hu]; rfl
  refine ⟨_, exec_debounceExpiry hl _, by rw [hdebounce]; exact hnow, by rw [hdebounce]; exact hsensing, fun hquiet => ?_,
    fun hlevel hraw => ?_⟩
  · exact settled_quiet ((hdebounce.trans (State.contactEvent_none hquiet)).trans hu)
  have hevent : s.debounce (.touch x) = u.touched x := hdebounce.trans (State.contactEvent_some hlevel hraw)
  rw [hevent]
  refine ⟨fun hlocked => ?_, fun hx hgoal hsensed => ?_⟩
  · rw [State.touched_eq_touchEvent (hclosures ▸ hlocked)]
    refine ⟨fun hpassive hentry => ?_, fun hquiet => settled_quiet (Eq.trans ?_ hu)⟩
    · rw [State.touchEvent_opens (hconfig ▸ hpassive) (htouch ▸ hentry), hu]
      exact ⟨Only.after (State.raiseHandleTouch_only _) rfl (Only.after (State.setTouch_only _ _ _) rfl
        (State.settledTo_only.mono rfl)), rfl, rfl⟩
    · rcases hquiet with hpassive | ⟨e, hentry⟩
      · exact State.touchEvent_off (hconfig ▸ hpassive)
      · exact State.touchEvent_waiting (htouch ▸ hentry)
  · have hpress : u.touched x = if u.crash.latch then u else u.offer (.internal .releaseTailgate .tgButton) := by
      rw [hx]
      exact State.tailgatePress_unlocked (hclosures ▸ hgoal) (hclosures ▸ hsensed)
    have haccept := fun hlatch => State.acceptance_release (s := u) (c := .internal .releaseTailgate .tgButton) rfl rfl
      hlatch (hclosures ▸ hgoal) (hclosures ▸ hsensed)
    rw [hpress, hcrash]
    refine ⟨fun hquiet => settled_quiet (Eq.trans ?_ hu), fun hlatch hajar hq => ?_⟩
    · cases hlatch : s.crash.latch with
      | true => rfl
      | false =>
        have hajar := hquiet.resolve_left (by simp [hlatch])
        refine State.offer_refused (code := .ajar) ((haccept (hcrash ▸ hlatch)).trans ?_)
        rw [hclosures, if_pos hajar]
    · refine settled_offer hu (if_neg (by simp [hlatch])) (State.offer_taken ?_ rfl (hu ▸ hq)).2
      rw [haccept (hcrash ▸ hlatch), hclosures, if_neg hajar]

/-! ### Inner handles (R13) -/

/-- R13: the command of a pull. -/
def pullKind : Side → CmdKind
  | .fd => .unlockAll
  | .fp => .unlockOne .fp
  | .rd => .unlockOne .rd
  | .rp => .unlockOne .rp

/-- R13: all that a pull would unlock stands UNLOCKED and confirmed. -/
def State.pullDone (s : State) (a : Side) : Bool :=
  match a with
  | .fd => Closure.list.all s.unlockedConfirmed
  | .fp | .rd | .rp => s.unlockedConfirmed (sideClosure a)

section Handle
variable {s : State} {a : Side}

theorem State.handlePull_eq : s.handlePull a =
    if (s.closure (sideClosure a)).lockSensed = .superlocked || s.childEngaged (sideClosure a) then s
    else if s.pullDone a then s else s.offer (.internal (pullKind a) .innerHandle) := by
  cases a <;> rfl

theorem State.childEngaged_iff : s.childEngaged (sideClosure a) = true ↔
    a = .rd ∧ s.childs.rd.goal = .engaged ∨ a = .rp ∧ s.childs.rp.goal = .engaged := by
  cases a with
  | fd | fp => simp [State.childEngaged, sideClosure, closureRear]
  | rd => exact decide_eq_true_iff.trans (by simp [State.childOf, Rears.get])
  | rp => exact decide_eq_true_iff.trans (by simp [State.childOf, Rears.get])

theorem State.unlockedConfirmed_iff {c : Closure} :
    s.unlockedConfirmed c = true ↔ (s.closure c).lockGoal = .unlocked ∧ (s.closure c).confirmed = true := by
  simp [State.unlockedConfirmed]

theorem State.pullDone_iff : s.pullDone a = true ↔
    ∀ c, a = .fd ∨ c = sideClosure a → (s.closure c).lockGoal = .unlocked ∧ (s.closure c).confirmed = true := by
  simp only [← State.unlockedConfirmed_iff]
  cases a with
  | fd => exact List.all_eq_true.trans ⟨fun h c _ => h c (by cases c <;> decide), fun h c _ => h c (.inl rfl)⟩
  | fp | rd | rp => exact ⟨fun h c hc => (hc.resolve_left nofun) ▸ h, fun h => h _ (.inr rfl)⟩

/-- R13: a pull that is ignored or refused. -/
theorem State.handlePull_ignored (h : (s.closure (sideClosure a)).lockSensed = .superlocked ∨
      a = .rd ∧ s.childs.rd.goal = .engaged ∨ a = .rp ∧ s.childs.rp.goal = .engaged ∨ s.crash.latch = true) :
    s.handlePull a = s := by
  rw [State.handlePull_eq]
  split
  · rfl
  next hbarred =>
    simp only [Bool.or_eq_true, decide_eq_true_eq, State.childEngaged_iff, not_or] at hbarred
    obtain ⟨hsuper, hrd, hrp⟩ := hbarred
    have hlatch : s.crash.latch = true := 
      ((h.resolve_left hsuper).resolve_left hrd).resolve_left hrp
    split
    · rfl
    · exact State.offer_refused (State.acceptance_crash hlatch (by cases a <;> rfl))

theorem State.handlePull_done (h : s.pullDone a = true) : s.handlePull a = s := by
  rw [State.handlePull_eq]
  simp [h]

theorem State.handlePull_served (hsuper : (s.closure (sideClosure a)).lockSensed ≠ .superlocked)
    (hrd : a = .rd → s.childs.rd.goal ≠ .engaged) (hrp : a = .rp → s.childs.rp.goal ≠ .engaged)
    (h : s.pullDone a = false) : s.handlePull a = s.offer (.internal (pullKind a) .innerHandle) := by
  have hbarred : ¬ s.childEngaged (sideClosure a) = true := by
    rw [State.childEngaged_iff]
    rintro (⟨ha, hgoal⟩ | ⟨ha, hgoal⟩)
    · exact hrd ha hgoal
    · exact hrp ha hgoal
  rw [State.handlePull_eq]
  simp [hsuper, hbarred, h]

end Handle

/-- Settles O34: the pull is ignored, refused, or one unlock command for the empty queue. -/
theorem handlePull : Obligations.HandlePull := by
  intro s a hl d hd
  obtain ⟨u, hu⟩ : ∃ u, u = s.settledTo d { s.sensing with
    handle := s.sensing.handle.set a { s.sensing.handle.get a with level := some (s.sensing.handle.get a).raw, timer := none } } :=
    ⟨_, rfl⟩
  have hdebounce := State.debounce_handle hd
  rw [← hu] at hdebounce
  obtain ⟨hnow, hsensing⟩ := settled_seen hu
    (Only.contactEvent (s.sensing.handle.get a) (f := fun t => t.handlePull a) (State.handlePull_only u a)) rfl rfl
  have hclosure : ∀ c, u.closure c = s.closure c := fun c => by rw [hu]; rfl
  have hchilds : u.childs = s.childs := by rw [hu]; rfl
  have hcrash : u.crash = s.crash := by rw [hu]; rfl
  have hdone : u.pullDone a = true ↔
      ∀ c, a = .fd ∨ c = sideClosure a → (s.closure c).lockGoal = .unlocked ∧ (s.closure c).confirmed = true :=
    State.pullDone_iff.trans (by simp only [hclosure])
  have hignored : u.handlePull a = u → Only [.now, .sensing] s (s.debounce (.handle a)) := by
    intro h
    refine settled_quiet (Eq.trans ?_ hu)
    rw [hdebounce, State.contactEvent, h, ite_self]
  refine ⟨_, exec_debounceExpiry hl _, by rw [hdebounce]; exact hnow, by rw [hdebounce]; exact hsensing, fun hquiet => ?_,
    fun hside hgoal hconfirmed => hignored (State.handlePull_done (hdone.mpr fun c hc => ?_)),
    fun _ hall => hignored (State.handlePull_done (hdone.mpr fun c _ => hall c)),
    fun hlevel hraw hsuper hrd hrp hlatch hq => ?_⟩
  · rcases hquiet with hlevel | hraw | hbarred
    · exact settled_quiet ((hdebounce.trans (State.contactEvent_none (.inl hlevel))).trans hu)
    · exact settled_quiet ((hdebounce.trans (State.contactEvent_none (.inr hraw))).trans hu)
    · exact hignored (State.handlePull_ignored (by rwa [hclosure, hchilds, hcrash]))
  · rw [hc.resolve_left hside]
    exact ⟨hgoal, hconfirmed⟩
  cases hpull : u.pullDone a with
  | true =>
    have hall := hdone.mp hpull
    refine ⟨(hignored (State.handlePull_done hpull)).mono rfl, fun hfd ⟨c, hc⟩ => ?_, fun row hrow ha hopen => ?_⟩
    · obtain ⟨hgoal, hconfirmed⟩ := hall c (.inl hfd)
      exact absurd hc (by simp [hgoal, hconfirmed])
    · obtain ⟨hgoal, hconfirmed⟩ := hall (sideClosure a) (.inr rfl)
      exact absurd hopen (by simp [hgoal, hconfirmed])
  | false =>
    have hserved := State.handlePull_served (by rwa [hclosure]) (by rwa [hchilds]) (by rwa [hchilds]) hpull
    have hevent : s.debounce (.handle a) = u.handlePull a := hdebounce.trans (State.contactEvent_some hlevel hraw)
    have hcls : (pullKind a).cls = .unlock := by cases a <;> rfl
    obtain ⟨hframe, hseq⟩ := settled_offer hu (hevent.trans hserved)
      (State.offer_taken (State.acceptance_clear (fun _ => hcrash ▸ hlatch) (fun h => by cases hcls.symm.trans h)
        (fun h => by cases (congrArg CmdKind.cls h).symm.trans hcls)) (by cases a <;> rfl) (hu ▸ hq)).2
    refine ⟨hframe, fun hfd _ => ?_, fun row hrow ha _ => ?_⟩
    · rw [hseq, hfd]
      rfl
    · simp only [List.mem_cons, List.not_mem_nil, or_false] at hrow
      rw [hseq, ha]
      rcases hrow with rfl | rfl | rfl <;> rfl

/-! ### Key contacts (R14, R34) -/

section Key
variable {s : State}

theorem State.keyLockContact_barred (h : s.sensing.keyUnlock.level = some true) : s.keyLockContact = s := if_pos h

theorem State.keyUnlockContact_barred (h : s.sensing.keyLock.level = some true) : s.keyUnlockContact = s := if_pos h

theorem State.repeatMatches_iff {o : Origin} {a : RepeatAction} : s.repeatMatches o a = true ↔
    ∃ r, s.seq.repeatRec = some r ∧ r.origin = o ∧ r.action = a ∧ s.now ≤ r.time + 30000 := by
  unfold State.repeatMatches
  cases s.seq.repeatRec with
  | none => simp
  | some r =>
    rw [Bool.and_eq_true, Bool.and_eq_true, decide_eq_true_iff, decide_eq_true_iff, decide_eq_true_iff]
    exact ⟨fun ⟨⟨horigin, haction⟩, hnow⟩ => ⟨r, rfl, horigin, haction, hnow⟩,
      by rintro ⟨_, ⟨⟩, horigin, haction, hnow⟩; exact ⟨⟨horigin, haction⟩, hnow⟩⟩

end Key

/-- Settles O35: each contact is ignored, refused, or one command for the empty queue. -/
theorem keyContacts : Obligations.KeyContacts := by
  intro s hl
  refine ⟨fun d hd => ?_, fun d hd => ?_⟩
  · obtain ⟨u, hu⟩ : ∃ u, u = s.settledTo d { s.sensing with
      keyLock := { s.sensing.keyLock with level := some s.sensing.keyLock.raw, timer := none } } := ⟨_, rfl⟩
    have hdebounce := State.debounce_keyLock hd
    rw [← hu] at hdebounce
    obtain ⟨hnow, hsensing⟩ := settled_seen hu
      (Only.contactEvent s.sensing.keyLock (State.keyLockContact_only u)) rfl rfl
    have hother : u.sensing.keyUnlock = s.sensing.keyUnlock := by rw [hu]; rfl
    have hcrash : u.crash = s.crash := by rw [hu]; rfl
    have hclosures : u.closures = s.closures := by rw [hu]; rfl
    refine ⟨_, exec_debounceExpiry hl _, by rw [hdebounce]; exact hnow, by rw [hdebounce]; exact hsensing,
      fun hquiet => settled_quiet (Eq.trans ?_ hu), fun hlevel hraw hopen hlatch hajar hq => ?_⟩
    · rw [hdebounce]
      rcases hquiet with hlevel | hraw | hclosed | hrefused
      · exact State.contactEvent_none (.inl hlevel)
      · exact State.contactEvent_none (.inr hraw)
      · rw [State.contactEvent, State.keyLockContact_barred (hother ▸ hclosed), ite_self]
      · rw [State.contactEvent, State.keyLockContact,
          State.offer_lock_barred (State.lockAction_cls u .key)
            (show CmdSource.key ≠ .b from nofun) (by rwa [hcrash, hclosures]), ite_self, ite_self]
    · obtain ⟨hframe, hseq⟩ := settled_offer hu
        ((hdebounce.trans (State.contactEvent_some hlevel hraw)).trans (if_neg (hother ▸ hopen)))
        (State.offer_turned (c := .internal (u.lockAction .key) .key) false (State.lockAction_cls u .key) (hu ▸ hq)
          (hcrash ▸ hlatch) (fun _ _ => hclosures ▸ hajar)).2
      refine ⟨hframe, hseq.trans ?_⟩
      unfold State.lockAction
      simp only [State.repeatMatches_iff, hu]
      rfl
  · obtain ⟨u, hu⟩ : ∃ u, u = s.settledTo d { s.sensing with
      keyUnlock := { s.sensing.keyUnlock with level := some s.sensing.keyUnlock.raw, timer := none } } := ⟨_, rfl⟩
    have hdebounce := State.debounce_keyUnlock hd
    rw [← hu] at hdebounce
    obtain ⟨hnow, hsensing⟩ := settled_seen hu
      (Only.contactEvent s.sensing.keyUnlock (State.keyUnlockContact_only u)) rfl rfl
    have hother : u.sensing.keyLock = s.sensing.keyLock := by rw [hu]; rfl
    have hcrash : u.crash = s.crash := by rw [hu]; rfl
    refine ⟨_, exec_debounceExpiry hl _, by rw [hdebounce]; exact hnow, by rw [hdebounce]; exact hsensing,
      fun hquiet => settled_quiet (Eq.trans ?_ hu), fun hlevel hraw hopen hlatch hq => ?_⟩
    · rw [hdebounce]
      rcases hquiet with hlevel | hraw | hclosed | hrefused
      · exact State.contactEvent_none (.inl hlevel)
      · exact State.contactEvent_none (.inr hraw)
      · rw [State.contactEvent, State.keyUnlockContact_barred (hother ▸ hclosed), ite_self]
      · rw [State.contactEvent, State.keyUnlockContact,
          State.offer_refused (State.acceptance_crash (hcrash ▸ hrefused) rfl), ite_self, ite_self]
    · exact settled_offer hu
        ((hdebounce.trans (State.contactEvent_some hlevel hraw)).trans (if_neg (hother ▸ hopen)))
        (State.offer_turned (c := .internal .unlockAll .key) true rfl (hu ▸ hq) (hcrash ▸ hlatch) nofun).2

end Sys2Proof.Machine
end

section
/-! The stability timer of a line whose debounced level is a field of a record: latches (R7, R8, R37), lock feedbacks (R6, R7,
R9 to R11) and child feedbacks (R7, R9, R12). -/

namespace Sys2Proof.Machine
open Sys2Proof

/-! ### The settled line -/

section Settle
variable {s : State} {d : Nat}

theorem State.debounce_latch {c : Closure} (hd : (s.sensing.latch.get c).timer = some d) :
    s.debounce (.latch c) = (s.settledTo d { s.sensing with
        latch := s.sensing.latch.set c { s.sensing.latch.get c with read := true, timer := none } }).latchExpiry c
      (s.sensing.latch.get c) := by
  simp only [State.debounce, hd]
  rfl

theorem State.debounce_feedback {c : Closure} (hd : (s.sensing.feedback.get c).timer = some d) :
    s.debounce (.feedback c) = (s.settledTo d { s.sensing with
        feedback := s.sensing.feedback.set c { s.sensing.feedback.get c with read := true, timer := none } }).feedbackExpiry c
      (s.sensing.feedback.get c) := by
  simp only [State.debounce, hd]
  rfl

theorem State.debounce_child {r : Rear} (hd : (s.sensing.child.get r).timer = some d) :
    s.debounce (.child r) = (s.settledTo d { s.sensing with
        child := s.sensing.child.set r { s.sensing.child.get r with read := true, timer := none } }).childExpiry r
      (s.sensing.child.get r) := by
  simp only [State.debounce, hd]
  rfl

end Settle

/-! ### LOCK_CHANGED and CHILD_CHANGED (R4) -/

section Named
variable {s t : State} {c : Closure} {r : ClosureRec} {x : Rear} {v : ChildRec}

theorem raiseLockChanged_named : lockNamed (s.raiseLockChanged c).notices c := by
  intro p
  cases p <;> exact ⟨_, rfl, Closures.get_set_self ..⟩

theorem raiseChildChanged_named : childNamed (s.raiseChildChanged x).notices x := by
  intro p hp
  cases p with
  | k => exact absurd rfl hp
  | b | d => exact ⟨_, rfl, Rears.get_set_self ..⟩

/-- R4: a closure record that differs in a field other than lock_sensed raises LOCK_CHANGED. -/
theorem writeClosure_named (h : (s.closure c).latch ≠ r.latch ∨ (s.closure c).lockGoal ≠ r.lockGoal ∨
    (s.closure c).confirmed ≠ r.confirmed ∨ (s.closure c).lastSource ≠ r.lastSource) :
    lockNamed (s.writeClosure c r).notices c := by
  unfold State.writeClosure
  rw [if_pos (by simpa [State.lockChange, or_assoc] using h)]
  exact raiseLockChanged_named

theorem writeClosure_quiet (hlatch : r.latch = (s.closure c).latch) (hgoal : r.lockGoal = (s.closure c).lockGoal)
    (hconfirmed : r.confirmed = (s.closure c).confirmed) (hsource : r.lastSource = (s.closure c).lastSource) :
    s.writeClosure c r = s.setClosure c r := by
  unfold State.writeClosure
  rw [if_neg (by simp [State.lockChange, hlatch, hgoal, hconfirmed, hsource])]

theorem writeChild_named (h : (s.childOf x).goal ≠ v.goal ∨ (s.childOf x).confirmed ≠ v.confirmed) :
    childNamed (s.writeChild x v).notices x := by
  unfold State.writeChild
  rw [if_pos (by simpa [State.childChange] using h)]
  exact raiseChildChanged_named

/-- LOCK_CHANGED stands as it did. -/
def SameLockChanged (s t : State) : Prop := ∀ p, (t.notices.get p).lockChanged = (s.notices.get p).lockChanged

theorem SameLockChanged.named (h : SameLockChanged s t) (hs : lockNamed s.notices c) : lockNamed t.notices c := by
  intro p
  rw [h p]
  exact hs p

theorem SameLockChanged.after {u : State} (k : SameLockChanged t u) (h : SameLockChanged s t) : SameLockChanged s u :=
  fun p => (k p).trans (h p)

theorem SameLockChanged.of_eq (h : t.notices = s.notices) : SameLockChanged s t := fun p => by rw [h]

theorem ReadyAlone.sameLockChanged (h : ReadyAlone s t) : SameLockChanged s t := by
  obtain ⟨v, -, ht⟩ := h
  intro p
  rw [ht]
  cases p <;> rfl

theorem raiseCancelled_sameLockChanged (e : Entry) : SameLockChanged s (s.raiseCancelled e) := by
  intro p
  cases p <;> (unfold State.raiseCancelled; dsimp only [Ports.get]; split <;> rfl)

end Named

/-! ### Latches (R7, R8, R37) -/

section Latch
variable {s : State} {c : Closure} {f : Feed LatchLevel}

theorem State.latchExpiry_first (h : f.read = false) :
    s.latchExpiry c f = (s.setClosure c { s.closure c with latch := latchOf f.raw }).raiseLockChanged c := by
  unfold State.latchExpiry
  simp [h]

theorem State.latchExpiry_same (h : f.read = true) (hsame : (s.closure c).latch = latchOf f.raw) :
    s.latchExpiry c f = s := by
  unfold State.latchExpiry
  simp [h, hsame]

theorem State.latchExpiry_changed (h : f.read = true) (hnew : (s.closure c).latch ≠ latchOf f.raw) :
    s.latchExpiry c f =
      if latchOf f.raw = .ajar then (s.writeClosure c { s.closure c with latch := latchOf f.raw }).latchAjar c
      else s.writeClosure c { s.closure c with latch := latchOf f.raw } := by
  unfold State.latchExpiry
  simp [h, hnew.symm]

theorem State.superlockRelock_other (h : s.mode ≠ .superlocked) : s.superlockRelock = s := by
  unfold State.superlockRelock
  simp [h]

/-- R37: in mode SUPERLOCKED, an empty queue takes a LOCK_ALL. -/
theorem State.superlockRelock_empty (h : s.mode = .superlocked) (hq : s.seq.queue = []) :
    s.superlockRelock = { s with seq := s.seq.took (innerEntry .lockAll .relock) .other .lock s.now } := by
  unfold State.superlockRelock
  simp only [h, hq]
  rfl

theorem superlockRelock_sameLockChanged : SameLockChanged s s.superlockRelock := by
  have hrecord : ∀ (t : State) (k : Command), (t.recordRepeat k).notices = t.notices := by
    intro t k
    unfold State.recordRepeat
    split <;> rfl
  unfold State.superlockRelock
  extract_lets q first unlock command taken
  split
  · exact .of_eq rfl
  · refine (SameLockChanged.of_eq (hrecord _ _)).after ?_
    unfold taken
    split
    · exact (SameLockChanged.of_eq rfl).after (raiseCancelled_sameLockChanged _)
    · exact .of_eq rfl

theorem stopRetained_ready : ReadyAlone s s.stopRetained := by
  unfold State.stopRetained
  split
  · dsimp only
    split
    · exact (ReadyAlone.endHeldAll _ _).after (.of_eq rfl)
    · exact .of_eq rfl
  · exact .of_eq rfl

theorem stopRetained_retained : s.stopRetained.win.retained = none := by
  unfold State.stopRetained
  split
  · dsimp only
    split
    · exact (State.endHeldAll_rest _ _).2.1
    · rfl
  next h => simpa using h

theorem latchAjar_sameLockChanged : SameLockChanged s (s.latchAjar c) := by
  unfold State.latchAjar
  dsimp only
  have hrelock : SameLockChanged s (s.setRelock none).superlockRelock :=
    superlockRelock_sameLockChanged.after (.of_eq rfl)
  split
  · exact stopRetained_ready.sameLockChanged.after hrelock
  · exact hrelock

theorem latchAjar_side (h : c = .fd ∨ c = .fp) :
    s.latchAjar c = (s.setRelock none).superlockRelock.stopRetained := by
  unfold State.latchAjar
  rcases h with rfl | rfl <;> rfl

theorem latchAjar_other (hfd : c ≠ .fd) (hfp : c ≠ .fp) : s.latchAjar c = (s.setRelock none).superlockRelock := by
  unfold State.latchAjar
  simp [hfd, hfp]

theorem superlockRelock_relock : s.superlockRelock.seq.relock = s.seq.relock := by
  have hrecord : ∀ (t : State) (k : Command), (t.recordRepeat k).seq.relock = t.seq.relock := by
    intro t k
    unfold State.recordRepeat
    split <;> rfl
  unfold State.superlockRelock
  extract_lets q first unlock command taken
  split
  · rfl
  · rw [hrecord]
    unfold taken
    split <;> rfl

theorem setRelock_mode {x : Option Nat} : (s.setRelock x).mode = s.mode := rfl

/-- R16: a closure record written with the same goal leaves the central lock mode. -/
theorem mode_writeClosure {r : ClosureRec} (h : r.lockGoal = (s.closure c).lockGoal) : (s.writeClosure c r).mode = s.mode := by
  have hgoal : ∀ c', ((s.writeClosure c r).closure c').lockGoal = (s.closure c').lockGoal := by
    intro c'
    rw [State.writeClosure_closure]
    split
    next hc => rw [hc, h]
    next => rfl
  refine congrArg modeOf ?_
  simp only [State.goals, Closures.mk.injEq]
  exact ⟨hgoal .fd, hgoal .fp, hgoal .rd, hgoal .rp, hgoal .tg⟩

theorem latchAjar_seq : (s.latchAjar c).seq = (s.setRelock none).superlockRelock.seq := by
  unfold State.latchAjar
  dsimp only
  split
  · exact (State.stopRetained_only _).same .seq (by decide)
  · rfl

end Latch

/-- Settles O31: the reading's cases, each with what it hands on. -/
theorem latchReading : Obligations.LatchReading := by
  intro s c hl d hd
  obtain ⟨u, hu⟩ : ∃ u, u = s.settledTo d { s.sensing with
    latch := s.sensing.latch.set c { s.sensing.latch.get c with read := true, timer := none } } := ⟨_, rfl⟩
  have hdebounce := State.debounce_latch hd
  rw [← hu] at hdebounce
  obtain ⟨hnow, hsensing⟩ := settled_seen hu (State.latchExpiry_only u c (s.sensing.latch.get c)) rfl rfl
  have hsettled : Only [.now, .sensing] s u := hu ▸ State.settledTo_only
  have hclosures : u.closures = s.closures := hsettled.same .closures (by decide)
  have hclosure : u.closure c = s.closure c := congrArg (fun x => x.get c) hclosures
  have hseq : u.seq = s.seq := hsettled.same .seq (by decide)
  have hmode : u.mode = s.mode := by rw [hu]; rfl
  obtain ⟨f, hf⟩ : ∃ f, f = s.sensing.latch.get c := ⟨_, rfl⟩
  rw [← hf] at hdebounce hnow hsensing ⊢
  obtain ⟨r, hr⟩ : ∃ r, r = ({ s.closure c with latch := latchOf f.raw } : ClosureRec) := ⟨_, rfl⟩
  have hfirst := State.latchExpiry_first (s := u) (c := c) (f := f)
  have hsame := State.latchExpiry_same (s := u) (c := c) (f := f)
  have hchanged := State.latchExpiry_changed (s := u) (c := c) (f := f)
  rw [hclosure] at hfirst hsame hchanged
  rw [← hr] at hfirst hchanged
  have hwritten : (u.writeClosure c r).closures = s.closures.set c r := by rw [State.writeClosure_closures, hclosures]
  have hnamed : (s.closure c).latch ≠ r.latch → lockNamed (u.writeClosure c r).notices c :=
    fun h => writeClosure_named (.inl (hclosure ▸ h))
  have hlatch : r.latch = latchOf f.raw := by rw [hr]
  refine ⟨_, exec_debounceExpiry hl _, ?_⟩
  rw [hdebounce]
  refine ⟨hnow, hsensing, ?_, fun hread => ?_, fun hread hold => ?_, fun hread hopen hraw => ?_, fun hread hopen hraw => ?_⟩
  · show _ = s.closures.set c { s.closure c with latch := latchOf f.raw }
    rw [← hr]
    cases hread : f.read with
    | false =>
      rw [hfirst hread]
      exact congrArg (·.set c r) hclosures
    | true =>
      by_cases hold : (s.closure c).latch = latchOf f.raw
      · rw [hsame hread hold, hclosures, hr, ← hold]
        exact (Closures.set_get ..).symm
      · rw [hchanged hread hold]
        split
        · rw [(State.latchAjar_only _ c).same .closures (by decide), hwritten]
        · exact hwritten
  · rw [hfirst hread]
    exact ⟨Only.after (State.raiseLockChanged_only _ _) rfl (Only.after (State.setClosure_only _ _ _) rfl (hsettled.mono rfl)),
      raiseLockChanged_named⟩
  · rw [hsame hread hold]
    exact hsettled
  · rw [hraw] at hchanged hlatch
    rw [hchanged hread hopen, if_neg (show latchOf .closed ≠ .ajar from nofun)]
    exact ⟨Only.after (State.writeClosure_only _ _ _) rfl (hsettled.mono rfl), hnamed (by rw [hlatch]; exact hopen)⟩
  · rw [hraw] at hchanged hlatch
    rw [hchanged hread hopen, if_pos (show latchOf .ajar = .ajar from rfl)]
    obtain ⟨v, hv⟩ : ∃ v, v = u.writeClosure c r := ⟨_, rfl⟩
    have hframe : Only [.now, .sensing, .closures, .notices] s v :=
      hv ▸ Only.after (State.writeClosure_only _ _ _) rfl (hsettled.mono rfl)
    have hvseq : v.seq = s.seq := hframe.same .seq (by decide)
    have hvnow : v.now = max s.now d := by
      rw [hv, show (u.writeClosure c r).now = u.now from (State.writeClosure_only u c r).same .now (by decide), hu]
      rfl
    have hvmode : v.mode = s.mode := by
      rw [hv, mode_writeClosure (by rw [hr, hclosure])]
      exact hmode
    rw [← hv] at hnamed ⊢
    refine ⟨latchAjar_sameLockChanged.named (hnamed (by rw [hlatch]; exact hopen)), ?_, fun hother => ?_, fun hsuper hq => ?_, fun hside => ?_,
      fun hfd hfp => ?_⟩
    · rw [latchAjar_seq, superlockRelock_relock]
      rfl
    · rw [latchAjar_seq, State.superlockRelock_other (by rw [setRelock_mode, hvmode]; exact hother)]
      exact congrArg (fun q : Sequencer => { q with relock := none }) hvseq
    · rw [latchAjar_seq, State.superlockRelock_empty (s := v.setRelock none) (by rw [setRelock_mode, hvmode]; exact hsuper)
        ((congrArg Sequencer.queue hvseq).trans hq)]
      show ({ v.seq with relock := none } : Sequencer).took _ _ _ v.now = _
      rw [hvseq, hvnow]
    · rw [latchAjar_side hside]
      exact stopRetained_retained
    · rw [latchAjar_other hfd hfp]
      exact Only.after (State.superlockRelock_only _) rfl (Only.after (State.setRelock_only _ _) rfl (hframe.mono rfl))

/-! ### Lock feedbacks (R6, R7, R9 to R11) -/

section Feedback
variable {s : State} {c : Closure} {f : Feed LockPins}

/-- R7, R9: the record that a reading leaves of its closure. -/
def State.readRecord (s : State) (c : Closure) (f : Feed LockPins) : ClosureRec :=
  if (s.opAt (.l c)).isNone then
    if f.read then State.knobEvent (s.closure c) s.crash.latch (feedbackReading c f.raw)
    else State.adoptReading (s.closure c) s.crash.latch (feedbackReading c f.raw)
  else { s.closure c with lockSensed := feedbackReading c f.raw }

theorem State.feedbackExpiry_first (h : f.read = false) :
    s.feedbackExpiry c f = (s.setClosure c (s.readRecord c f)).raiseLockChanged c := by
  unfold State.feedbackExpiry State.readRecord
  simp [h]

theorem State.feedbackExpiry_same (h : f.read = true) (hsame : (s.closure c).lockSensed = feedbackReading c f.raw) :
    s.feedbackExpiry c f = s := by
  unfold State.feedbackExpiry
  simp [h, hsame]

theorem State.feedbackExpiry_changed (h : f.read = true) (hnew : (s.closure c).lockSensed ≠ feedbackReading c f.raw) :
    s.feedbackExpiry c f = s.writeClosure c (s.readRecord c f) := by
  unfold State.feedbackExpiry State.readRecord
  simp [h, hnew.symm]

theorem State.readRecord_lockSensed : (s.readRecord c f).lockSensed = feedbackReading c f.raw := by
  unfold State.readRecord State.knobEvent State.adoptReading
  repeat' split
  all_goals rfl

theorem State.readRecord_latch : (s.readRecord c f).latch = (s.closure c).latch := by
  unfold State.readRecord State.knobEvent State.adoptReading
  repeat' split
  all_goals rfl

theorem State.readRecord_held (h : s.opAt (.l c) ≠ none) :
    s.readRecord c f = { s.closure c with lockSensed := feedbackReading c f.raw } := by
  unfold State.readRecord
  rw [if_neg (by simpa using h)]

theorem State.readRecord_adopted (h : s.opAt (.l c) = none) (hread : f.read = false) :
    s.readRecord c f = State.adoptReading (s.closure c) s.crash.latch (feedbackReading c f.raw) := by
  unfold State.readRecord
  simp [h, hread]

theorem State.readRecord_knob (h : s.opAt (.l c) = none) (hread : f.read = true) :
    s.readRecord c f = State.knobEvent (s.closure c) s.crash.latch (feedbackReading c f.raw) := by
  unfold State.readRecord
  simp [h, hread]

/-- The three ends of a lock feedback's timer: a first reading, one that repeats lock_sensed, and another. -/
theorem State.feedbackExpiry_cases (P : State → Prop)
    (hfirst : f.read = false → P ((s.setClosure c (s.readRecord c f)).raiseLockChanged c))
    (hsame : f.read = true → (s.closure c).lockSensed = feedbackReading c f.raw → P s)
    (hchanged : f.read = true → (s.closure c).lockSensed ≠ feedbackReading c f.raw →
      P (s.writeClosure c (s.readRecord c f))) : P (s.feedbackExpiry c f) := by
  cases hread : f.read with
  | false =>
    rw [State.feedbackExpiry_first hread]
    exact hfirst hread
  | true =>
    by_cases h : (s.closure c).lockSensed = feedbackReading c f.raw
    · rw [State.feedbackExpiry_same hread h]
      exact hsame hread h
    · rw [State.feedbackExpiry_changed hread h]
      exact hchanged hread h

theorem setClosure_named_closure {r : ClosureRec} (c' : Closure) :
    ((s.setClosure c r).raiseLockChanged c).closure c' = if c' = c then r else s.closure c' :=
  State.setClosure_closure ..

theorem State.feedbackExpiry_other {c' : Closure} (h : c' ≠ c) : (s.feedbackExpiry c f).closure c' = s.closure c' := by
  refine State.feedbackExpiry_cases (fun t => t.closure c' = s.closure c') (fun _ => ?_) (fun _ _ => rfl) (fun _ _ => ?_)
  · rw [setClosure_named_closure, if_neg h]
  · rw [State.writeClosure_closure, if_neg h]

theorem State.feedbackExpiry_sensed : ((s.feedbackExpiry c f).closure c).lockSensed = feedbackReading c f.raw := by
  refine State.feedbackExpiry_cases (fun t => (t.closure c).lockSensed = _) (fun _ => ?_) (fun _ h => h) (fun _ _ => ?_)
  · rw [setClosure_named_closure, if_pos rfl, State.readRecord_lockSensed]
  · rw [State.writeClosure_closure, if_pos rfl, State.readRecord_lockSensed]

theorem State.feedbackExpiry_latch : ((s.feedbackExpiry c f).closure c).latch = (s.closure c).latch := by
  refine State.feedbackExpiry_cases (fun t => (t.closure c).latch = _) (fun _ => ?_) (fun _ _ => rfl) (fun _ _ => ?_)
  · rw [setClosure_named_closure, if_pos rfl, State.readRecord_latch]
  · rw [State.writeClosure_closure, if_pos rfl, State.readRecord_latch]

/-- R4: LOCK_CHANGED names the closure when its record changes beside lock_sensed. -/
theorem State.feedbackExpiry_named (h : ((s.feedbackExpiry c f).closure c).confirmed ≠ (s.closure c).confirmed ∨
    ((s.feedbackExpiry c f).closure c).lockGoal ≠ (s.closure c).lockGoal ∨
    ((s.feedbackExpiry c f).closure c).lastSource ≠ (s.closure c).lastSource) :
    lockNamed (s.feedbackExpiry c f).notices c := by
  revert h
  refine State.feedbackExpiry_cases (fun t => (t.closure c).confirmed ≠ _ ∨ (t.closure c).lockGoal ≠ _ ∨
    (t.closure c).lastSource ≠ _ → lockNamed t.notices c) (fun _ _ => raiseLockChanged_named) (fun _ _ h => ?_) (fun _ _ h => ?_)
  · rcases h with h | h | h <;> exact absurd rfl h
  · rw [State.writeClosure_closure, if_pos rfl] at h
    obtain hconfirmed | hgoal | hsource := h
    · exact writeClosure_named (.inr (.inr (.inl hconfirmed.symm)))
    · exact writeClosure_named (.inr (.inl hgoal.symm))
    · exact writeClosure_named (.inr (.inr (.inr hsource.symm)))

end Feedback

/-- Settles O32: the reading's cases, each with the record that it leaves. -/
theorem lockFeedback : Obligations.LockFeedback := by
  refine ⟨fun c sup => by cases c <;> exact ⟨rfl, rfl, rfl, rfl, rfl, rfl⟩, fun s c hl d hd => ?_⟩
  obtain ⟨u, hu⟩ : ∃ u, u = s.settledTo d { s.sensing with
    feedback := s.sensing.feedback.set c { s.sensing.feedback.get c with read := true, timer := none } } := ⟨_, rfl⟩
  have hdebounce := State.debounce_feedback hd
  rw [← hu] at hdebounce
  obtain ⟨hnow, hsensing⟩ := settled_seen hu (State.feedbackExpiry_only u c (s.sensing.feedback.get c)) rfl rfl
  have hsettled : Only [.now, .sensing] s u := hu ▸ State.settledTo_only
  obtain ⟨f, hf⟩ : ∃ f, f = s.sensing.feedback.get c := ⟨_, rfl⟩
  rw [← hf] at hdebounce hnow hsensing ⊢
  have hframe := Only.after (State.feedbackExpiry_only u c f) rfl
    (hsettled.mono (ps := [.now, .sensing, .closures, .notices]) rfl)
  have hclosures : u.closures = s.closures := hsettled.same .closures (by decide)
  have hclosure : ∀ c', u.closure c' = s.closure c' := fun c' => congrArg (fun x => x.get c') hclosures
  have hnotices : u.notices = s.notices := hsettled.same .notices (by decide)
  have hop : u.opAt (.l c) = s.opAt (.l c) := congrArg (fun q : Sequencer => q.ops.get (.l c)) (hsettled.same .seq (by decide))
  have hcrash : u.crash = s.crash := hsettled.same .crash (by decide)
  have hsensed := State.feedbackExpiry_sensed (s := u) (c := c) (f := f)
  have hnamed := State.feedbackExpiry_named (s := u) (c := c) (f := f)
  rw [hclosure] at hnamed
  have hfirst : f.read = false → (u.feedbackExpiry c f).closure c = u.readRecord c f := fun h => by
    rw [State.feedbackExpiry_first h, setClosure_named_closure, if_pos rfl]
  have hchanged : f.read = true → (s.closure c).lockSensed ≠ feedbackReading c f.raw →
      (u.feedbackExpiry c f).closure c = u.readRecord c f := fun h hnew => by
    rw [State.feedbackExpiry_changed h (by rwa [hclosure]), State.writeClosure_closure, if_pos rfl]
  refine ⟨_, exec_debounceExpiry hl _, ?_⟩
  rw [hdebounce]
  refine ⟨hnow, hframe, fun c' h => (State.feedbackExpiry_other h).trans (hclosure c'), hsensing, hsensed,
    State.feedbackExpiry_latch.trans (congrArg _ (hclosure c)),
    fun hread => ⟨?_, fun hfree hclear => ?_, fun hheld => ?_⟩, fun hread hsame => ?_, fun hread hheld => ?_,
    fun hread hnew hfree => ⟨fun hset => ?_, fun hclear => ?_⟩, hnamed⟩
  · rw [State.feedbackExpiry_first hread]
    exact raiseLockChanged_named
  · rw [hsensed, hfirst hread, State.readRecord_adopted (hop ▸ hfree) hread, hclosure, hcrash, hclear]
    cases feedbackReading c f.raw <;> exact ⟨rfl, rfl, rfl⟩
  · rw [hsensed, hfirst hread, State.readRecord_held (hop ▸ hheld), hclosure]
  · rw [hsensed] at hsame
    rw [State.feedbackExpiry_same hread (by rwa [hclosure])]
    exact ⟨hclosures, hnotices⟩
  · by_cases hnew : (s.closure c).lockSensed = feedbackReading c f.raw
    · rw [hsensed, State.feedbackExpiry_same hread (by rwa [hclosure]), hclosure, ← hnew]
      exact ⟨rfl, hnotices⟩
    · refine ⟨by rw [hsensed, hchanged hread hnew, State.readRecord_held (hop ▸ hheld), hclosure], ?_⟩
      rw [State.feedbackExpiry_changed hread (by rwa [hclosure]), State.readRecord_held (hop ▸ hheld)]
      exact (congrArg State.notices (writeClosure_quiet (s := u) (c := c)
        (r := { u.closure c with lockSensed := feedbackReading c f.raw }) rfl rfl rfl rfl)).trans hnotices
  · rw [hsensed] at hnew
    rw [hsensed, hchanged hread hnew, State.readRecord_knob (hop ▸ hfree) hread, hclosure, hcrash, hset]
    exact ⟨rfl, rfl, rfl⟩
  · rw [hsensed] at hnew
    rw [hsensed, hchanged hread hnew, State.readRecord_knob (hop ▸ hfree) hread, hclosure, hcrash, hclear]
    cases feedbackReading c f.raw <;> exact ⟨rfl, rfl, rfl⟩

/-! ### Child feedbacks (R7, R9, R12) -/

section Child
variable {s : State} {r : Rear} {f : Feed ChildState}

/-- R7, R12: the record that a reading leaves of its child lock. -/
def State.readChild (s : State) (r : Rear) (f : Feed ChildState) : ChildRec :=
  if (s.opAt (.c r)).isNone then
    if f.read then { s.childOf r with sensed := f.raw, confirmed := f.raw = (s.childOf r).goal }
    else { goal := f.raw, sensed := f.raw, confirmed := true }
  else { s.childOf r with sensed := f.raw }

theorem State.childExpiry_cases (P : State → Prop)
    (hfirst : f.read = false → P ((s.setChild r (s.readChild r f)).raiseChildChanged r))
    (hsame : f.read = true → f.raw = (s.childOf r).sensed → P s)
    (hchanged : f.read = true → f.raw ≠ (s.childOf r).sensed → P (s.writeChild r (s.readChild r f))) :
    P (s.childExpiry r f) := by
  unfold State.childExpiry
  dsimp only
  cases hread : f.read with
  | false => simpa [State.readChild, hread] using hfirst hread
  | true =>
    by_cases h : f.raw = (s.childOf r).sensed
    · simpa [h] using hsame hread h
    · simpa [State.readChild, hread, h] using hchanged hread h

theorem setChild_named_childOf {v : ChildRec} (r' : Rear) :
    ((s.setChild r v).raiseChildChanged r).childOf r' = if r' = r then v else s.childOf r' :=
  State.setChild_childOf ..

/-- The child record after its reading. -/
theorem State.childExpiry_childOf (r' : Rear) : (s.childExpiry r f).childOf r' =
    if r' = r ∧ ¬ (f.read = true ∧ f.raw = (s.childOf r).sensed) then s.readChild r f else s.childOf r' := by
  refine State.childExpiry_cases (fun t => t.childOf r' = _) (fun h => ?_) (fun h hsame => ?_) (fun h hnew => ?_)
  · simp [setChild_named_childOf, h]
  · simp [h, hsame]
  · simp [State.writeChild_childOf, hnew]

/-- R4: CHILD_CHANGED names the side when the reading changes child_confirmed. -/
theorem State.childExpiry_named (h : ((s.childExpiry r f).childOf r).confirmed ≠ (s.childOf r).confirmed) :
    childNamed (s.childExpiry r f).notices r := by
  revert h
  refine State.childExpiry_cases (fun t => (t.childOf r).confirmed ≠ _ → childNamed t.notices r)
    (fun _ _ => raiseChildChanged_named) (fun _ _ h => absurd rfl h) (fun _ _ h => ?_)
  rw [State.writeChild_childOf, if_pos rfl] at h
  exact writeChild_named (.inr h.symm)

end Child

/-- Settles O33: the reading's cases, each with the record that it leaves. -/
theorem childFeedback : Obligations.ChildFeedback := by
  intro s r hl d hd
  obtain ⟨u, hu⟩ : ∃ u, u = s.settledTo d { s.sensing with
    child := s.sensing.child.set r { s.sensing.child.get r with read := true, timer := none } } := ⟨_, rfl⟩
  have hdebounce := State.debounce_child hd
  rw [← hu] at hdebounce
  obtain ⟨hnow, hsensing⟩ := settled_seen hu (State.childExpiry_only u r (s.sensing.child.get r)) rfl rfl
  have hsettled : Only [.now, .sensing] s u := hu ▸ State.settledTo_only
  obtain ⟨f, hf⟩ : ∃ f, f = s.sensing.child.get r := ⟨_, rfl⟩
  rw [← hf] at hdebounce hnow hsensing ⊢
  have hframe := Only.after (State.childExpiry_only u r f) rfl (hsettled.mono (ps := [.now, .sensing, .childs, .notices]) rfl)
  have hchild : ∀ r', u.childOf r' = s.childOf r' :=
    fun r' => congrArg (fun x : Rears ChildRec => x.get r') (hsettled.same .childs (by decide))
  have hop : u.opAt (.c r) = s.opAt (.c r) := congrArg (fun q : Sequencer => q.ops.get (.c r)) (hsettled.same .seq (by decide))
  have hrecord := State.childExpiry_childOf (s := u) (r := r) (f := f)
  simp only [hchild] at hrecord
  have hread : u.readChild r f = if (s.opAt (.c r)).isNone then
      if f.read then { s.childOf r with sensed := f.raw, confirmed := f.raw = (s.childOf r).goal }
      else { goal := f.raw, sensed := f.raw, confirmed := true }
      else { s.childOf r with sensed := f.raw } := by
    unfold State.readChild
    rw [hop, hchild]
  have hself := hrecord r
  simp only [true_and] at hself
  refine ⟨_, exec_debounceExpiry hl _, ?_⟩
  rw [hdebounce]
  refine ⟨hnow, hframe, fun r' h => ?_, hsensing, ?_, fun hfirst => ⟨?_, fun hfree => ?_⟩, fun hlater => ?_,
    fun hlater hnew hfree => ⟨?_, fun hchanged => ?_⟩, fun hheld => ?_⟩
  · rw [hrecord, if_neg (fun hr => h hr.1)]
  · rw [hself]
    by_cases hsame : f.read = true ∧ f.raw = (s.childOf r).sensed
    · rw [if_pos hsame, if_neg (fun h => h hsame)]
    · rw [if_neg hsame, if_pos hsame, hread]
      repeat' split
      all_goals rfl
  · refine State.childExpiry_cases (fun t => childNamed t.notices r) (fun _ => raiseChildChanged_named) (fun h => ?_)
      (fun h => ?_)
    · exact absurd hfirst (by simp [h])
    · exact absurd hfirst (by simp [h])
  · rw [hself, if_pos (by simp [hfirst]), hread, hfree, hfirst]
    rfl
  · rw [hself]
    split
    · rw [hread, hlater]
      split <;> rfl
    · rfl
  · rw [hself, if_pos (fun h => hnew h.2), hread, hfree, hlater]
    rfl
  · exact State.childExpiry_named (by rw [hchild]; exact hchanged)
  · rw [hself]
    split
    · rw [hread, if_neg (by simpa using hheld)]
      exact ⟨rfl, rfl⟩
    · exact ⟨rfl, rfl⟩

end Sys2Proof.Machine
end

section
/-! What the operations of a window's motions leave, seen from the state before the command and from the state after it: starts,
pauses, ends, presses and NEUTRAL events (R93 to R96, R99). -/

namespace Sys2Proof.Machine
open Sys2Proof

/-! ### The same surroundings of a window -/

/-- What a window's motions read and write beside its record is the same in two states. -/
structure SameFor (w : Window) (s u : State) : Prop where
  pinch : u.pinchOf w = s.pinchOf w
  refs : u.refsOf w = s.refsOf w
  ring : u.trace.rings.get w = s.trace.rings.get w
  chan : u.chan (.w w) = s.chan (.w w)
  cal : u.calOf w = s.calOf w
  temp : u.mon.temp = s.mon.temp
  supply : u.mon.supply = s.mon.supply

/-- The blocks that the motions of the windows write, beside the records, are the same in two states. -/
structure SameBlocks (s u : State) : Prop where
  pinch : u.pinch = s.pinch
  refs : u.refs = s.refs
  trace : u.trace = s.trace
  mon : u.mon = s.mon
  notices : u.notices = s.notices

section Seen
variable {s t u t' : State} {w : Window} {r : WindowRec}

theorem SameFor.refl (w : Window) (s : State) : SameFor w s s := ⟨rfl, rfl, rfl, rfl, rfl, rfl, rfl⟩

theorem SameFor.after {v : State} (k : SameFor w u v) (h : SameFor w s u) : SameFor w s v :=
  ⟨k.pinch.trans h.pinch, k.refs.trans h.refs, k.ring.trans h.ring, k.chan.trans h.chan, k.cal.trans h.cal,
    k.temp.trans h.temp, k.supply.trans h.supply⟩

theorem SameBlocks.after {v : State} (k : SameBlocks u v) (h : SameBlocks s u) : SameBlocks s v :=
  ⟨k.pinch.trans h.pinch, k.refs.trans h.refs, k.trace.trans h.trace, k.mon.trans h.mon, k.notices.trans h.notices⟩

theorem SameFor.of_only {ps : List Part} (h : Only ps s u)
    (hd : [Part.pinch, .refs, .trace, .mon, .config].all (fun x => !ps.contains x) = true := by rfl) : SameFor w s u := by
  have hmem : ∀ x ∈ [Part.pinch, .refs, .trace, .mon, .config], x ∉ ps := fun x hx => by
    simpa using List.all_eq_true.mp hd x hx
  have hpinch : u.pinch = s.pinch := h.same .pinch (hmem _ (by decide))
  have hrefs : u.refs = s.refs := h.same .refs (hmem _ (by decide))
  have htrace : u.trace = s.trace := h.same .trace (hmem _ (by decide))
  have hmon : u.mon = s.mon := h.same .mon (hmem _ (by decide))
  have hconfig : u.config = s.config := h.same .config (hmem _ (by decide))
  exact ⟨by simp only [State.pinchOf, hpinch], by simp only [State.refsOf, hrefs], by rw [htrace],
    by simp only [State.chan, hmon], by simp only [State.calOf, hconfig], by rw [hmon], by rw [hmon]⟩

theorem SameBlocks.of_only {ps : List Part} (h : Only ps s u)
    (hd : [Part.pinch, .refs, .trace, .mon, .notices].all (fun x => !ps.contains x) = true := by rfl) : SameBlocks s u := by
  have hmem : ∀ x ∈ [Part.pinch, .refs, .trace, .mon, .notices], x ∉ ps := fun x hx => by
    simpa using List.all_eq_true.mp hd x hx
  exact ⟨h.same .pinch (hmem _ (by decide)), h.same .refs (hmem _ (by decide)), h.same .trace (hmem _ (by decide)),
    h.same .mon (hmem _ (by decide)), h.same .notices (hmem _ (by decide))⟩

theorem SameBlocks.recordOnly (h : SameBlocks s u) (ht : SameRuns u t) (hn : t.notices = u.notices) :
    Machine.recordOnly s t w (u.winRec w) :=
  ⟨(ht.at w).record, ht.mon.trans h.mon, ht.refs.trans h.refs, ht.trace.trans h.trace, ht.pinch.trans h.pinch,
    hn.trans h.notices⟩

/-- R96: a run has started, whatever else has happened. -/
theorem RunStarted.seenFor {k : RunRec} (h : RunStarted u t w r k) (hs : SameFor w s u) (ht : SameAt w t t')
    (hnow : t'.now = t.now) : RunStarted s t' w r k where
  record := by rw [ht.record, h.record, hnow]
  bridge := by rw [ht.chan, h.bridge, hs.chan, hnow]
  pinch := by rw [ht.pinch, h.pinch, hs.cal, hnow]
  ring := by rw [ht.ring, h.ring]
  stroke := by rw [ht.refs, h.stroke, hs.cal, hs.temp, hs.supply]
  forget := by
    rw [ht.refs, ← hs.refs]
    exact h.forget

/-- R99: a motion has ended, whatever else has happened. -/
theorem RunEnded.seenFor (h : RunEnded u t w r) (hs : SameFor w s u) (ht : SameAt w t t') (hnow : t'.now = t.now) :
    RunEnded s t' w r where
  record := by rw [ht.record, h.record, hnow]
  bridge := by rw [ht.chan, h.bridge, hs.chan]
  pinch := by rw [ht.pinch, h.pinch, hs.pinch]
  refs := by rw [ht.refs, h.refs, hs.refs]

/-- R96: a run has paused, whatever else has happened. -/
theorem RunPaused.seenFor {p : Pending} (h : RunPaused u t w r p) (hs : SameFor w s u) (ht : SameAt w t t')
    (hnow : t'.now = t.now) : RunPaused s t' w r p where
  record := by rw [ht.record, h.record, hnow]
  bridge := by rw [ht.chan, h.bridge, hs.chan]
  refs := by rw [ht.refs, h.refs, hs.refs]
  ring := by rw [ht.ring, h.ring, hs.ring]

/-- R141: the FILLING record of the one window has completed, whatever else has happened. -/
theorem Completes.stoppedAt (h : Completes u t (fun v => v = w) .stopped) (hs : u.trace = s.trace) (ht : t'.trace = t.trace) :
    Machine.fillingStopped s t' (· = w) :=
  (h.of_eq hs.symm ht).fillingStopped

theorem startsAtBottom_seen (hs : SameFor w s u) (hposition : (u.winRec w).position = (s.winRec w).position)
    (hnormalised : (u.winRec w).normalised = (s.winRec w).normalised) (dir : Dir) :
    startsAtBottom u w dir = startsAtBottom s w dir := by
  unfold startsAtBottom
  rw [hposition, hnormalised, hs.cal]

end Seen

/-! ### Starts that leave the buffers and the notices (R96, R137) -/

section Starts
variable {s : State} {w : Window}

theorem State.launch_buffers (k : RunRec) : (s.launch w k).trace.buffers = s.trace.buffers := by
  have hforget : (s.carryOutForget w).trace = s.trace := (State.carryOutForget_only s w).same .trace (by decide)
  show (s.carryOutForget w).trace.buffers = _
  rw [hforget]

theorem State.launch_notices (k : RunRec) (h : (s.refsOf w).pendingForget = none) :
    (s.launch w k).notices = s.notices := by
  have hdriven : ∀ u : State, (u.driveRun w k).notices = u.notices := fun _ => rfl
  rw [State.launch, hdriven, State.carryOutForget, h]
  rfl

/-- R99: a start at the bottom has ended. -/
theorem State.startRun_bottom {dir : Dir} {kind : RunKind} {holder : RunHolder} (h : startsAtBottom s w dir = true) :
    ((s.startRun w dir kind holder).winRec w).motion = .idle ∧
      ((s.startRun w dir kind holder).chan (.w w)).drive = .brake ∧
      ((s.startRun w dir kind holder).winRec w).brake = some ((s.startRun w dir kind holder).now + 500) := by
  rw [State.startRun_eq, if_pos h]
  have hended := (s.launch w { dir, kind, target := runTarget dir (s.calOf w), holder }).toIdle_ended (w := w)
  rw [hended.record, hended.bridge, State.launch_winRec]
  exact ⟨rfl, rfl, rfl⟩

end Starts

/-! ### Presses (R93, R94) -/

section Press
variable {s t u : State} {w : Window} {x : RunHolder} {prev pos : SwitchPos}

theorem switchDir_eq (h : pos ≠ .neutral) : switchDir pos = some (posDir pos) := by
  cases pos with
  | neutral => exact absurd rfl h
  | up | upAuto | down | downAuto => rfl

theorem degrade_press (hs : SameFor w s u) (hnormalised : (u.winRec w).normalised = (s.winRec w).normalised)
    (hlimited : (u.winRec w).limited = (s.winRec w).limited) :
    u.degrade w (posDir pos) (switchKind pos) = pressKind s w pos := by
  cases pos with
  | neutral | up | down => rfl
  | upAuto => simp [State.degrade, pressKind, posDir, switchKind, hnormalised, hlimited, hs.supply, or_assoc]
  | downAuto => simp [State.degrade, pressKind, posDir, switchKind, hnormalised]

theorem sameSwitch_iff {k : RunRec} : State.sameSwitch k x (posDir pos) prev = true ↔
    k.holder = x ∧ k.dir = posDir pos ∧ prev ≠ .neutral ∧ posDir prev = posDir pos := by
  generalize posDir pos = dir
  cases prev <;> simp [State.sameSwitch, switchDir, posDir, and_assoc]

/-- R93: a tap has ended the run and set the source's flag. -/
theorem State.tap_ended (hs : SameFor w s u) (ht : SameAt w (u.tap w x) t) (hnow : t.now = u.now) :
    RunEnded s t w (tapped (u.winRec w) x) := by
  have hended := (u.toIdle_ended (w := w)).seenFor hs (.refl w _) rfl
  have hkept : ∀ v, SameFor w (u.toIdle w) ((u.toIdle w).setAwait w x v) := fun v =>
    .of_only (State.setAwait_only _ w x v)
  have hrec : ((u.toIdle w).setAwait w x true).winRec w =
      { (u.toIdle w).winRec w with
        awaitPanel := ((u.toIdle w).winRec w).awaitPanel || decide (x = .panel)
        awaitLocal := ((u.toIdle w).winRec w).awaitLocal || decide (x = .localSw) } := by
    cases x with
    | panel | localSw => simp [State.setAwait]
    | comfortB | comfortK _ => simp [State.setAwait]
  constructor
  · rw [ht.record, State.tap, hrec, hended.record, State.toIdle_now, hnow]
    rfl
  · rw [ht.chan, State.tap, (hkept true).chan, hended.bridge]
  · rw [ht.pinch, State.tap, (hkept true).pinch, hended.pinch]
  · rw [ht.refs, State.tap, (hkept true).refs, hended.refs]

theorem Completes.tap : Completes u (u.tap w x) (fun v => v = w) .stopped :=
  (Completes.toIdle u w).of_eq rfl ((State.setAwait_only _ w x true).same .trace (by decide))

theorem Motion.eq_of_heldRun {m : Motion} {k : RunRec} (h : m.heldRun = some k) : m = .run k ∨ m = .dwell (.run k) := by
  cases m with
  | run j => cases h; exact .inl rfl
  | dwell p =>
    cases p with
    | run j => cases h; exact .inr rfl
    | reverse x => cases h
  | idle | reverse _ | inhibited => cases h

theorem targetOf_eq (dir : Dir) (c : Cal) : State.targetOf dir c.l = runTarget dir c := by
  cases dir <;> rfl

/-! The press of each motion that it can find. -/

section Found
variable (hpos : pos ≠ .neutral) (hdegrade : u.degrade w (posDir pos) (switchKind pos) = pressKind s w pos)
include hpos hdegrade

theorem State.press_idle (h : (u.winRec w).motion = .idle) :
    u.press w x prev pos = u.startRun w (posDir pos) (pressKind s w pos) x := by
  unfold State.press
  simp only [switchDir_eq hpos, hdegrade, h]

theorem State.press_same {k : RunRec} (h : (u.winRec w).motion = .run k) (hkind : k.kind = .manual)
    (hdir : k.dir = posDir pos) : u.press w x prev pos = u.setWin w { u.winRec w with motion := .run { k with
      kind := pressKind s w pos, target := runTarget (posDir pos) (keptCal u w), holder := x } } := by
  unfold State.press
  simp only [switchDir_eq hpos, hdegrade, h, hkind, hdir, if_true]
  rw [targetOf_eq]
  rfl

theorem State.press_other {k : RunRec} (h : (u.winRec w).motion = .run k) (hkind : k.kind = .manual)
    (hdir : k.dir ≠ posDir pos) : u.press w x prev pos = u.toDwell w (.run { pressRun s w x pos with
      target := runTarget (posDir pos) (u.calOf w) }) := by
  unfold State.press
  simp only [switchDir_eq hpos, hdegrade, h, hkind, hdir, if_false, targetOf_eq]
  rfl

theorem State.press_pending {k : RunRec} (h : (u.winRec w).motion = .dwell (.run k)) (hkind : k.kind = .manual) :
    u.press w x prev pos = u.setWin w { u.winRec w with motion := .dwell (.run { pressRun s w x pos with
      target := runTarget (posDir pos) (u.calOf w) }) } := by
  unfold State.press
  simp only [switchDir_eq hpos, hdegrade, h, hkind, targetOf_eq]
  rfl

omit hdegrade in
theorem State.press_latched {k : RunRec} (h : (u.winRec w).motion.heldRun = some k) (hkind : k.kind ≠ .manual) :
    u.press w x prev pos = if State.sameSwitch k x (posDir pos) prev then u else u.tap w x := by
  have hmotion := Motion.eq_of_heldRun h
  unfold State.press
  cases hk : k.kind with
  | manual => exact absurd hk hkind
  | auto | comfort => rcases hmotion with hm | hm <;> simp only [switchDir_eq hpos, hm, hk]

end Found

/-- R93: a press is taken by the motion that it finds. -/
theorem PressTaken.of_press (hpos : pos ≠ .neutral) (hs : SameFor w s u) (hblocks : SameBlocks s u)
    (hposition : (u.winRec w).position = (s.winRec w).position)
    (hnormalised : (u.winRec w).normalised = (s.winRec w).normalised)
    (hlimited : (u.winRec w).limited = (s.winRec w).limited) (ht : SameRuns (u.press w x prev pos) t)
    (hn : t.notices = (u.press w x prev pos).notices) : PressTaken s t w (u.winRec w) x prev pos := by
  have hdegrade := degrade_press (pos := pos) hs hnormalised hlimited
  have hbottom := startsAtBottom_seen hs hposition hnormalised (posDir pos)
  have hwritten : ∀ r, u.press w x prev pos = u.setWin w r → recordOnly s t w r := fun r h => by
    rw [h] at ht hn
    have hrecorded := (SameBlocks.of_only (State.setWin_only u w r)).after hblocks |>.recordOnly (w := w) ht hn
    rwa [State.setWin_self] at hrecorded
  constructor
  case idle =>
    intro hidle hstart
    rw [State.press_idle hpos hdegrade hidle, State.startRun_eq, hbottom, hstart, hs.cal] at ht hn
    refine ⟨(State.launch_started u w (pressRun s w x pos)).seenFor hs (ht.at w) ht.now, ?_, fun hforget => ?_⟩
    · rw [ht.trace]
      exact (State.launch_buffers _).trans (congrArg TraceStore.buffers hblocks.trace)
    · rw [hn]
      exact (State.launch_notices _ (by rw [hs.refs, hforget])).trans hblocks.notices
  case bottom =>
    intro hidle hstart
    rw [State.press_idle hpos hdegrade hidle] at ht
    obtain ⟨hmotion, hdrive, hbrake⟩ := State.startRun_bottom (s := u) (kind := pressKind s w pos) (holder := x)
      (hbottom.trans hstart)
    rw [(ht.at w).record, (ht.at w).chan, ht.now]
    exact ⟨hmotion, hdrive, hbrake⟩
  case same =>
    intro k hk hkind hdir
    have hkept : keptCal u w = keptCal s w := by
      unfold keptCal
      rw [hs.pinch, hs.cal]
    rw [← hkept]
    exact hwritten _ (State.press_same hpos hdegrade hk hkind hdir)
  case other =>
    intro k hk hkind hdir
    rw [State.press_other hpos hdegrade hk hkind hdir, hs.cal] at ht
    exact (State.toDwell_paused u w _).seenFor hs (ht.at w) ht.now
  case pending =>
    intro k hk hnot hkind
    have hdwell : (u.winRec w).motion = .dwell (.run k) := (Motion.eq_of_heldRun hk).resolve_left hnot
    have hpressed := State.press_pending (x := x) (prev := prev) hpos hdegrade hdwell hkind
    rw [hs.cal] at hpressed
    exact hwritten _ hpressed
  case tap =>
    intro k hk hkind
    have hpressed := State.press_latched (x := x) (prev := prev) hpos hk hkind
    split
    next hsame =>
      rw [if_pos (sameSwitch_iff.mpr hsame)] at hpressed
      rw [hpressed] at ht hn
      exact hblocks.recordOnly ht hn
    next hother =>
      rw [if_neg (mt sameSwitch_iff.mp hother)] at hpressed
      rw [hpressed] at ht
      exact ⟨State.tap_ended hs (ht.at w) (ht.now.trans ((State.tap_only u w x).same .now (by decide))),
        Completes.tap.stoppedAt hblocks.trace ht.trace⟩

end Press

/-! ### NEUTRAL events (R95) -/

section Neutral
variable {s t u : State} {w : Window} {x : RunHolder}

theorem neutralEnds_eq (m : Motion) : State.neutralEnds m x = m.heldRun.any (fun k => k.kind = .manual && k.holder = x) := by
  unfold State.neutralEnds
  cases m.heldRun <;> rfl

/-- R95: a NEUTRAL event ends the source's own MANUAL run. -/
theorem NeutralTaken.of_neutral (hs : SameFor w s u) (hblocks : SameBlocks s u) (ht : SameRuns (u.neutral w x) t)
    (hn : t.notices = (u.neutral w x).notices) : NeutralTaken s t w ((u.setAwait w x false).winRec w) x := by
  have hkept : SameFor w u (u.setAwait w x false) := .of_only (State.setAwait_only u w x false)
  have hkeptBlocks : SameBlocks u (u.setAwait w x false) := .of_only (State.setAwait_only u w x false)
  unfold NeutralTaken
  unfold State.neutral at ht hn
  dsimp only at ht hn
  rw [neutralEnds_eq] at ht hn
  split
  next h =>
    rw [if_pos h] at ht
    refine ⟨State.toIdle_ended _ w |>.seenFor (hkept.after hs) (ht.at w) ht.now, ?_⟩
    exact (Completes.toIdle _ w).stoppedAt (hkeptBlocks.trace.trans hblocks.trace) ht.trace
  next h =>
    rw [if_neg h] at ht hn
    exact (hkeptBlocks.after hblocks).recordOnly ht hn

end Neutral

end Sys2Proof.Machine
end

section
/-! COMFORT of port B on the four windows (R100, R101), VEHICLE_MODE and the end of retained power (R88). -/

namespace Sys2Proof.Machine
open Sys2Proof

/-! ### Temperature and supply through the windows' operations -/

/-- The temperature and the supply are judged alike in two states. -/
def SameJudged (s t : State) : Prop := t.mon.temp = s.mon.temp ∧ t.mon.supply = s.mon.supply

namespace SameJudged
variable {s t u : State} {w : Window}

theorem after (k : SameJudged t u) (h : SameJudged s t) : SameJudged s u := ⟨k.1.trans h.1, k.2.trans h.2⟩

theorem of_only {ps : List Part} (h : Only ps s t) (hd : ps.contains .mon = false := by rfl) : SameJudged s t := by
  have hmon : t.mon = s.mon := h.same .mon (by simpa using hd)
  exact ⟨by rw [hmon], by rw [hmon]⟩

theorem setChan (s : State) (ch : Channel) (x : ChannelRec) : SameJudged s (s.setChan ch x) := ⟨rfl, rfl⟩

theorem stopMotion (s : State) (w : Window) (m : Motion) (braked : Bool) (x : Completion) :
    SameJudged s (s.stopMotion w m braked x) := by
  unfold State.stopMotion
  dsimp only
  refine (of_only (State.completeFilling_only _ w x)).after ((of_only (State.endStroke_only _ w)).after ?_)
  cases braked <;> exact ⟨rfl, rfl⟩

theorem toDwell (s : State) (w : Window) (p : Pending) : SameJudged s (s.toDwell w p) := ⟨rfl, rfl⟩

theorem driveRun (s : State) (w : Window) (k : RunRec) : SameJudged s (s.driveRun w k) := ⟨rfl, rfl⟩

theorem launch (s : State) (w : Window) (k : RunRec) : SameJudged s (s.launch w k) :=
  (driveRun _ w k).after (of_only (State.carryOutForget_only s w))

theorem startRun (s : State) (w : Window) (dir : Dir) (kind : RunKind) (holder : RunHolder) :
    SameJudged s (s.startRun w dir kind holder) := by
  rw [State.startRun_eq]
  split
  · exact (stopMotion _ w _ _ _).after (launch s w _)
  · exact launch s w _

theorem comfortOn (s : State) (w : Window) (dir : Dir) (h : RunHolder) : SameJudged s (s.comfortOn w dir h) := by
  unfold State.comfortOn
  split
  · unfold State.comfortStart
    dsimp only
    split
    · exact startRun s w _ _ _
    · split
      · exact of_only (State.setWin_only s w _)
      · exact toDwell s w _
    · exact of_only (State.setWin_only s w _)
    all_goals exact ⟨rfl, rfl⟩
  · exact ⟨rfl, rfl⟩

end SameJudged

/-! ### The outcome of a comfort request on a window (R100, R101) -/

section Outcome
variable {s t u : State} {w : Window} {dir : Dir} {h : RunHolder}

/-- R100: the five outcomes of a comfort request on a window, with their bytes. -/
inductive OutcomeShown : ComfortOutcome → Byte → Prop
  | started : OutcomeShown .started 0x00
  | skipped : OutcomeShown .skipped 0x01
  | crash : OutcomeShown (.refused .crash) 0x08
  | state : OutcomeShown (.refused .state) 0x0F
  | held : OutcomeShown (.refused .held) 0x0D

theorem comfort_shown (s : State) (w : Window) : OutcomeShown (s.comfortOutcome w) (comfortByte s w) := by
  unfold State.comfortOutcome comfortByte
  dsimp only
  split
  · split
    · exact .crash
    · exact .state
  · cases hn : (s.winRec w).normalised <;> cases hl : (s.winRec w).limited
    case true.false =>
      rw [if_neg (by decide), if_neg (by simp)]
      cases (s.winRec w).motion.holder with
      | none => exact .started
      | some a =>
        cases a with
        | reversal => exact .held
        | of x =>
          cases x with
          | panel | localSw => exact .held
          | comfortB | comfortK _ => exact .started
    all_goals exact .skipped

theorem outcomeByte_eq : State.outcomeByte (s.comfortOutcome w) = [comfortByte s w] := by
  have hw := comfort_shown s w
  generalize s.comfortOutcome w = o at hw ⊢
  generalize comfortByte s w = b at hw ⊢
  cases hw <;> rfl

theorem comfort_started_iff : s.comfortOutcome w = .started ↔ comfortByte s w = 0x00 := by
  have hw := comfort_shown s w
  generalize s.comfortOutcome w = o at hw ⊢
  generalize comfortByte s w = b at hw ⊢
  cases hw <;> simp

theorem comfortOutcomes_get : s.comfortOutcomes.get w = s.comfortOutcome w := by
  cases w <;> rfl

/-- R57, R101: the code that the byte of the first refusing window stands for. -/
def refusalCode : Option Byte → Code
  | some 0x08 => .crash
  | some 0x0F => .state
  | some _ => .held
  | none => .ok

theorem comfortRefusals_head (s : State) : (comfortRefusals s.comfortOutcomes).head?.getD .ok = comfortAnswer s := by
  have hlist : ∀ l : List Window, ((l.map s.comfortOutcomes.get).filterMap (fun x => match x with
      | .refused c => some c
      | .started | .skipped => none)).head?.getD .ok =
        refusalCode ((l.map (comfortByte s)).find? (fun b => b ≠ 0x00 ∧ b ≠ 0x01)) := by
    intro l
    induction l with
    | nil => rfl
    | cons w l ih =>
      rw [List.map_cons, List.map_cons, comfortOutcomes_get]
      have hw := comfort_shown s w
      generalize s.comfortOutcome w = o at hw ⊢
      generalize comfortByte s w = b at hw ⊢
      cases hw with
      | started | skipped => exact ih
      | crash | state | held => rfl
  exact hlist Window.list

theorem comfortByte_congr (h : u.winRec w = s.winRec w) : comfortByte u w = comfortByte s w := by
  unfold comfortByte
  rw [h]

theorem State.comfortOn_left (h' : comfortByte s w ≠ 0x00) : s.comfortOn w dir h = s := by
  unfold State.comfortOn
  rw [if_neg (mt comfort_started_iff.mp h')]

theorem State.comfortOn_started (h' : comfortByte s w = 0x00) : s.comfortOn w dir h = s.comfortStart w dir h := by
  unfold State.comfortOn
  rw [if_pos (comfort_started_iff.mpr h')]

/-- R100: what a comfort request does on one window, seen from the state before the request. -/
theorem ComfortTaken.of_start (hs : SameFor w s u) (hrec : u.winRec w = s.winRec w)
    (ht : SameAt w (u.comfortStart w dir h) t) (hnow : t.now = (u.comfortStart w dir h).now) : ComfortTaken s t w dir h := by
  have hbottom := startsAtBottom_seen hs (by rw [hrec]) (by rw [hrec]) dir
  have hwritten : ∀ r, u.comfortStart w dir h = u.setWin w r → t.winRec w = r ∧ t.chan (.w w) = s.chan (.w w) := by
    intro r hr
    rw [hr] at ht
    exact ⟨ht.record.trans (State.setWin_self ..), ht.chan.trans hs.chan⟩
  unfold State.comfortStart at ht hnow hwritten
  simp only [targetOf_eq, hrec, hs.cal] at ht hnow hwritten
  constructor
  case idle =>
    intro hidle hstart
    simp only [hidle] at ht hnow
    rw [State.startRun_eq, hbottom, hstart, hs.cal] at ht hnow
    exact hrec ▸ (State.launch_started u w _).seenFor hs ht hnow
  case bottom =>
    intro hidle hstart
    simp only [hidle] at ht
    obtain ⟨hmotion, hdrive, -⟩ := State.startRun_bottom (s := u) (kind := .comfort) (holder := h) (hbottom.trans hstart)
    rw [ht.record, ht.chan]
    exact ⟨hmotion, hdrive⟩
  case same =>
    intro o ho hdir
    have hkept : keptCal s w = u.runCal w := by
      unfold keptCal State.runCal
      rw [hs.pinch, hs.cal]
    rw [hkept]
    refine hwritten _ ?_
    simp only [ho, hdir, if_true]
  case other =>
    intro o ho hdir
    simp only [ho, hdir, if_false] at ht hnow
    exact hrec ▸ (State.toDwell_paused u w _).seenFor hs ht hnow
  case pending =>
    intro o ho
    refine hwritten _ ?_
    simp only [ho]

/-- R100: a comfort request on the four windows, each judged on its own record, seen from an earlier state; nothing else
happens to the windows. -/
theorem comfortAll_taken {s₀ : State} (hs₀ : SameFor w s₀ s) (hrec₀ : s.winRec w = s₀.winRec w)
    (ht : SameAt w (s.comfortAll dir h) t) (hnow : t.now = (s.comfortAll dir h).now) :
    if comfortByte s₀ w = 0x00 then ComfortTaken s₀ t w dir h else SameAt w s t := by
  obtain ⟨u, hu, ⟨honly, hjudged⟩, hlast⟩ := foldl_window_keeps (f := fun t v => t.comfortOn v dir h)
    (P := fun t => Only [.win, .pinch, .refs, .trace, .mon, .notices] s t ∧ SameJudged s t)
    (fun t v => .comfortOn t v dir h)
    (fun t v hv => ⟨Only.after (State.comfortOn_only t v dir h) rfl hv.1, (SameJudged.comfortOn t v dir h).after hv.2⟩)
    ⟨Only.refl _ s, rfl, rfl⟩ w
  have hrec : u.winRec w = s₀.winRec w := hu.record.trans hrec₀
  have hbyte := comfortByte_congr hrec
  have hcal : u.calOf w = s.calOf w := congrArg (fun c : Configuration => c.cal.get w) (honly.same .config (by decide))
  have hfor : SameFor w s u := ⟨hu.pinch, hu.refs, hu.ring, hu.chan, hcal, hjudged.1, hjudged.2⟩
  have hcount : t.now = (u.comfortOn w dir h).now := by
    rw [hnow, show (s.comfortAll dir h).now = s.now from (State.comfortAll_only s dir h).same .now (by decide),
      show (u.comfortOn w dir h).now = u.now from (State.comfortOn_only u w dir h).same .now (by decide)]
    exact (honly.same .now (by decide)).symm
  split
  next hstarted =>
    rw [State.comfortOn_started (hbyte.trans hstarted)] at hlast hcount
    exact .of_start (hfor.after hs₀) hrec (ht.after hlast) hcount
  next hleft =>
    rw [State.comfortOn_left (by rwa [hbyte])] at hlast
    exact ht.after (hlast.after hu)

end Outcome

/-! ### The statements -/

theorem Only.ports (s : State) (v : Ports PortEngine) : Only [.ports] s { s with ports := v } := by
  constructor
  intro x hx
  cases x with
  | ports => exact absurd (List.mem_singleton.mpr rfl) hx
  | _ => rfl

/-- R163: a request that is taken is answered with its owner's reply. -/
theorem exec_owned {s : State} {k : Kind} {p : Port} {tag : Byte} {q : List Byte} {r : Reply} (hk : s.canTake p)
    (hd : s.decoderRefusal k p q = none) (ho : ownerOf k p tag q s = r) : exec (k.command p tag q) s =
      .next { r.state with ports := r.state.ports.set p (answered tag r.code r.payload) } := by
  rw [exec_passed hk hd, ho]
  rfl

/-- R101: COMFORT CLOSE or OPEN of port B, with its direction. -/
theorem exec_comfort_asked {s : State} (hk : s.canTake .b) (tag : Byte) {q : Byte} {dir : Dir}
    (ho : State.ownComfort [q] s = s.comfortRequest dir) :
    ∃ t, exec (.comfort .b tag [q]) s = .next t ∧ Only [.win, .pinch, .refs, .trace, .mon, .notices, .ports] s t ∧
      t.win.mode = s.win.mode ∧ t.win.retained = s.win.retained ∧
      t.ports = s.ports.set .b (answered tag (comfortAnswer s) (Window.list.map (comfortByte s))) ∧
      ∀ w, if comfortByte s w = 0x00 then ComfortTaken s t w dir .comfortB
        else t.winRec w = s.winRec w ∧ t.chan (.w w) = s.chan (.w w) ∧ t.refsOf w = s.refsOf w := by
  have hpayload : Window.list.flatMap (fun w => State.outcomeByte (s.comfortOutcomes.get w)) =
      Window.list.map (comfortByte s) := by
    simp only [comfortOutcomes_get, outcomeByte_eq]
    rfl
  have hreply : s.comfortRequest dir =
      ⟨s.comfortAll dir .comfortB, comfortAnswer s, Window.list.map (comfortByte s)⟩ := by
    unfold State.comfortRequest
    dsimp only
    rw [hpayload, ← comfortRefusals_head]
    rfl
  refine ⟨_, exec_owned (k := .comfort) hk rfl (ho.trans hreply), ?_⟩
  obtain ⟨u, hu⟩ : ∃ u, u = s.comfortAll dir .comfortB := ⟨_, rfl⟩
  have hframe : Only [.win, .pinch, .refs, .trace, .mon, .notices] s u := hu ▸ State.comfortAll_only s dir .comfortB
  obtain ⟨hmode, hretained, -⟩ := foldl_rest (fun t v => OnlyWindow.comfortOn t v dir .comfortB) Window.list s
  have htaken := fun w t => comfortAll_taken (t := t) (dir := dir) (h := .comfortB) (.refl w s) rfl
  rw [← hu] at htaken
  dsimp only
  rw [← hu]
  refine ⟨Only.after (Only.ports u _) rfl (hframe.mono rfl), (congrArg (·.win.mode) hu).trans hmode,
    (congrArg (·.win.retained) hu).trans hretained,
    congrArg (fun x : Ports PortEngine => x.set .b _) (hframe.same .ports (by decide)), fun w => ?_⟩
  generalize answered tag (comfortAnswer s) _ = e
  have hw := htaken w _ ((SameRuns.of_only (Only.ports u (u.ports.set .b e))).at w) rfl
  split at hw
  next h => rwa [if_pos h]
  next h =>
    rw [if_neg h]
    exact ⟨hw.record, hw.chan, hw.refs⟩

/-- R165: the byte of a set of windows has a bit for each. -/
theorem windowSet_testBit (x : Windows Bool) (w : Window) :
    (byteOf (windowSet x) 0).testBit (Window.list.idxOf w) = x.get w := by
  have hlt := setBits_lt (Window.list.map x.get)
  have hlength : (Window.list.map x.get).length = 4 := rfl
  rw [hlength] at hlt
  show (BitVec.ofNat 8 (setBits (Window.list.map x.get))).toNat.testBit _ = _
  rw [BitVec.toNat_ofNat, Nat.mod_eq_of_lt (by omega), setBits_testBit]
  cases w <;> rfl

/-- Settles O47: each window is judged and acted on by itself. -/
theorem comfort : Obligations.Comfort := by
  refine ⟨fun s tag hk row hrow => ?_, fun s tag hk => ?_⟩
  · simp only [List.mem_cons, List.not_mem_nil, or_false] at hrow
    rcases hrow with rfl | rfl
    · exact exec_comfort_asked hk tag rfl
    · exact exec_comfort_asked hk tag rfl
  · refine ⟨_, exec_owned (k := .comfort) (r := s.comfortStopB) hk rfl rfl, ?_⟩
    obtain ⟨u, hu⟩ : ∃ u, u = s.endHeldAll State.isComfortB := ⟨_, rfl⟩
    have hframe : Only [.win, .refs, .trace, .mon, .notices] s u := hu ▸ State.endHeldAll_only s _
    have hended : runsEnded s u (fun h => h = .comfortB) := hu ▸ runsEnded_endHeldAll s State.isComfortB
    unfold State.comfortStopB
    dsimp only
    rw [← hu, payloadAt_answered]
    refine ⟨Only.after (Only.ports u _) rfl (hframe.mono rfl),
      congrArg (fun x : Ports PortEngine => x.set .b _) (hframe.same .ports (by decide)), rfl, fun w => ?_,
      hended.seen ⟨rfl, rfl, rfl, rfl, rfl, rfl⟩ (SameRuns.of_only (Only.ports u _))⟩
    rw [windowSet_testBit, Windows.get_map, heldBy_eq_any]
    rfl

/-! ### VEHICLE_MODE and retained power (R88) -/

section Mode
variable {s : State} {m : VehicleMode}

/-- R88: the mode and the timer as a write leaves them. -/
def State.moded (s : State) (m : VehicleMode) : State :=
  { s with win := { s.win with mode := m, retained := State.retainedAfter s.win.mode m s.win.retained s.now } }

theorem State.writeMode_eq : s.writeMode m = if s.windowPower && !(s.moded m).windowPower then (s.moded m).endPower
    else s.moded m := rfl

/-- R88: window power ends where PARKED is written without a retained-power timer. -/
theorem powerEnds_iff : (s.windowPower && !(s.moded m).windowPower) = true ↔
    m = .parked ∧ (s.moded m).win.retained = none ∧ (s.win.mode ≠ .parked ∨ s.win.retained ≠ none) := by
  have hpower : ∀ t : State, t.windowPower = true ↔ t.win.mode ≠ .parked ∨ t.win.retained ≠ none := by
    intro t
    simp [State.windowPower, Option.isSome_iff_ne_none]
  have hmode : (s.moded m).win.mode = m := rfl
  rw [Bool.and_eq_true, Bool.not_eq_true', Bool.eq_false_iff, Ne, hpower, hpower, hmode, not_or, Decidable.not_not, Decidable.not_not,
    and_comm, and_assoc]

/-- The time, and a setting of the windows that leaves their records, make no difference to the runs that end. -/
theorem runsEnded.of_settings {s t u : State} {f : RunHolder → Bool} (hu : Only [.now, .win] s u)
    (hx : u.win.recs = s.win.recs) (h : runsEnded u t f) : runsEnded s t f := by
  have hrec : ∀ w, u.winRec w = s.winRec w := fun w => congrArg (fun r : Windows WindowRec => r.get w) hx
  have hfor : ∀ w, SameFor w s u := fun w => .of_only hu
  have htrace : u.trace = s.trace := hu.same .trace (by decide)
  obtain ⟨hwindows, hrings, hbuffers⟩ := h
  simp only [hrec] at hwindows hbuffers
  refine ⟨fun w => ?_, hrings.trans (by rw [htrace]), fun hlaw i => ?_⟩
  · have hw := hwindows w
    split
    next hheld =>
      rw [if_pos hheld] at hw
      exact hw.seenFor (hfor w) (.refl w t) rfl
    next hheld =>
      rw [if_neg hheld, (hfor w).chan, (hfor w).refs, (hfor w).pinch] at hw
      exact hw
  · have hmoved : TraceLaw { s with win := u.win } := traceLaw_kept.settings s u.win hx hlaw
    have hlawU : TraceLaw u := traceLaw_restsOn _ _ (fun x hx => by
      rcases List.mem_cons.mp hx with rfl | hx
      · exact htrace
      · rw [List.mem_singleton.mp hx]
        rfl) hmoved
    rw [hbuffers hlawU, State.bufferAt, htrace]
    rfl

end Mode

/-- Settles O46: the write of the mode, the timer's expiry, and the runs that end with window power. -/
theorem vehicleModeAndRetainedPower : Obligations.VehicleModeAndRetainedPower := by
  refine ⟨fun s tag hk row hrow => ?_, fun s hl d hd => ?_⟩
  · have hown : ownerOf .vehicleMode .b tag [row.1] s = (s.writeMode row.2).accept := by
      simp only [List.mem_cons, List.not_mem_nil, or_false] at hrow
      rcases hrow with rfl | rfl | rfl <;> rfl
    refine ⟨_, exec_owned (k := .vehicleMode) hk rfl hown, ?_⟩
    obtain ⟨m, hm⟩ : ∃ m, m = row.2 := ⟨_, rfl⟩
    obtain ⟨u, hu⟩ : ∃ u, u = s.writeMode m := ⟨_, rfl⟩
    have hframe : Only [.win, .refs, .trace, .mon, .notices] s u := hu ▸ State.writeMode_only s m
    have hwritten : u = if s.windowPower && !(s.moded m).windowPower then (s.moded m).endPower else s.moded m :=
      hu.trans State.writeMode_eq
    have hrest := (s.moded m).endHeldAll_rest (fun h => h = .panel || h = .localSw)
    have hended : runsEnded s (s.moded m).endPower (fun h => h = .panel || h = .localSw) :=
      runsEnded.of_settings (u := s.moded m) ((Only.win s (s.moded m).win).mono rfl) rfl (runsEnded_endHeldAll (s.moded m) _)
    have hsettings : u.win.mode = m ∧ u.win.retained = (s.moded m).win.retained ∧ u.win.rearLockout = s.win.rearLockout := by
      rw [hwritten]
      split
      · exact hrest
      · exact ⟨rfl, rfl, rfl⟩
    obtain ⟨hmode, hretained, hlockout⟩ := hsettings
    rw [← hm]
    unfold State.accept
    dsimp only
    rw [← hu]
    refine ⟨Only.after (Only.ports u _) rfl (hframe.mono rfl),
      congrArg (fun x : Ports PortEngine => x.set .b _) (hframe.same .ports (by decide)), hmode, hlockout, ?_, ?_⟩
    · rw [hretained]
      cases m <;> cases hold : s.win.mode <;> simp [State.moded, State.retainedAfter, hold, Config.retainedPower, Config.sec]
    · rw [hretained]
      split
      next h =>
        rw [if_pos (powerEnds_iff.mpr h)] at hwritten
        exact (hwritten ▸ hended).seen ⟨rfl, rfl, rfl, rfl, rfl, rfl⟩ (SameRuns.of_only (Only.ports u _))
      next h =>
        rw [if_neg (mt powerEnds_iff.mp h)] at hwritten
        rw [hwritten]
        exact ⟨rfl, rfl, rfl, rfl, rfl⟩
  · obtain ⟨v, hv⟩ : ∃ v, v = ({ s.reach d with win := { s.win with retained := none } } : State) := ⟨_, rfl⟩
    have hframe : Only [.now, .win] s v := hv ▸ Only.after (Only.win (s.reach d) _) rfl ((State.reach_only s d).mono rfl)
    have hrecs : v.win.recs = s.win.recs := by rw [hv]
    have hexpired : s.retainedExpiry = if s.win.mode = .parked then v.endPower else v := by
      unfold State.retainedExpiry State.stopRetained
      rw [hd, hv]
      dsimp only
      rw [if_pos (show (s.reach d).win.retained.isSome = true by rw [show (s.reach d).win = s.win from rfl, hd]; rfl)]
      rfl
    have hrest := v.endHeldAll_rest (fun h => h = .panel || h = .localSw)
    have hsettings : v.now = max s.now d ∧ v.win.mode = s.win.mode ∧ v.win.retained = none ∧
        v.win.rearLockout = s.win.rearLockout := by
      rw [hv]
      exact ⟨rfl, rfl, rfl, rfl⟩
    obtain ⟨hnow, hmode, hretained, hlockout⟩ := hsettings
    refine ⟨_, congrArg Host.Outcome.next ((State.live_of_not_held hl _).trans hexpired), ?_⟩
    split
    next hparked =>
      obtain ⟨hmode', hretained', hlockout'⟩ := hrest
      exact ⟨Only.after (State.endPower_only v) rfl (hframe.mono rfl),
        Eq.trans ((State.endPower_only v).same .now (by decide)) hnow, hretained'.trans hretained, hmode'.trans hmode,
        hlockout'.trans hlockout, fun _ => (runsEnded_endHeldAll v _).of_settings hframe hrecs,
        fun h => absurd hparked h⟩
    next hother =>
      exact ⟨hframe.mono rfl, hnow, hretained, hmode, hlockout, fun h => absurd h hother,
        fun _ => ⟨hrecs, hframe.same .mon (by decide)⟩⟩

end Sys2Proof.Machine
end

section
/-! WINDOW_SWITCH and the panel refresh (R89, R90, R93 to R95), local switches and REAR_LOCKOUT (R91, R92). -/

namespace Sys2Proof.Machine
open Sys2Proof

/-! ### Frames of the driver switch pack (R89, R90) -/

section Panel
variable {s : State} {w : Window} {pos : SwitchPos}

theorem ownWindowSwitch_bytes : State.ownWindowSwitch [BitVec.ofNat 8 (Window.list.idxOf w),
    BitVec.ofNat 8 ([SwitchPos.neutral, .up, .upAuto, .down, .downAuto].idxOf pos)] s = s.panelFrame w pos := by
  have hw : pick Window.list [BitVec.ofNat 8 (Window.list.idxOf w),
      BitVec.ofNat 8 ([SwitchPos.neutral, .up, .upAuto, .down, .downAuto].idxOf pos)] 0 = some w := by cases w <;> rfl
  have hpos : pick switchPositions [BitVec.ofNat 8 (Window.list.idxOf w),
      BitVec.ofNat 8 ([SwitchPos.neutral, .up, .upAuto, .down, .downAuto].idxOf pos)] 1 = some pos := by cases pos <;> rfl
  rw [State.ownWindowSwitch, hw, hpos]

/-- R89: the record that a frame leaves before it is judged. -/
def panelRecord (r : WindowRec) (pos : SwitchPos) (now : Nat) : WindowRec :=
  if pos = .neutral then { r with panelPosition := .neutral, panelTimer := none }
  else { r with panelPosition := pos, panelTime := now, panelTimer := some (now + 2000) }

theorem State.recordPanel_eq : s.recordPanel w pos = s.setWin w (panelRecord (s.winRec w) pos s.now) := by
  unfold State.recordPanel panelRecord
  split
  next h => rw [h]
  next => rfl

theorem windowPower_iff : s.windowPower = false ↔ s.win.mode = .parked ∧ s.win.retained = none := by
  simp [State.windowPower]

/-- R90: why a non-neutral frame goes no further than its record. -/
def panelStop (s : State) (r : WindowRec) (prev pos : SwitchPos) : Option Code :=
  if s.crash.latch = true then some Code.crash
  else if r.motion = .inhibited then some .state
  else if s.win.mode = .parked ∧ s.win.retained = none then some .noPower
  else if pos = prev ∨ r.awaitPanel = true then some .ok
  else if r.motion.holder = some .reversal then some .held else none

theorem State.panelJudgement_eq (prev : SwitchPos) : s.panelJudgement w prev pos =
    ((panelStop s (s.winRec w) prev pos).getD .ok, (panelStop s (s.winRec w) prev pos).isNone) := by
  unfold State.panelJudgement panelStop
  dsimp only
  have hpower : (!s.windowPower) = true ↔ s.win.mode = .parked ∧ s.win.retained = none := by
    rw [Bool.not_eq_true', windowPower_iff]
  simp only [hpower]
  split
  · rfl
  split
  · rfl
  split
  · rfl
  by_cases hprev : pos = prev
  · rw [if_pos hprev, if_pos (.inl hprev)]
    rfl
  rw [if_neg hprev]
  by_cases hawait : (s.winRec w).awaitPanel = true
  · rw [if_pos hawait, if_pos (.inr hawait)]
    rfl
  rw [if_neg hawait, if_neg (show ¬ (pos = prev ∨ (s.winRec w).awaitPanel = true) from not_or.mpr ⟨hprev, hawait⟩)]
  split <;> rfl

/-- R89: the record that a NEUTRAL event of the panel leaves. -/
theorem setAwait_panel {u : State} {r : WindowRec} (hr : u.winRec w = r) :
    (u.setAwait w .panel false).winRec w = { r with awaitPanel := false } := by
  rw [← hr]
  exact State.setWin_self ..

end Panel

/-- Settles O44: the frame is recorded, and then judged, pressed or neutral. -/
theorem windowSwitch : Obligations.WindowSwitch := by
  refine ⟨fun s tag w pos hk => ?_, fun s w hl d hd => ?_⟩
  · refine ⟨_, exec_owned (k := .windowSwitch) hk rfl ownWindowSwitch_bytes, ?_⟩
    obtain ⟨u, hu⟩ : ∃ u, u = s.recordPanel w pos := ⟨_, rfl⟩
    have huSet : u = s.setWin w (panelRecord (s.winRec w) pos s.now) := hu.trans State.recordPanel_eq
    have hframe : Only [.win] s u := huSet ▸ State.setWin_only s w _
    have hrec : u.winRec w = panelRecord (s.winRec w) pos s.now := by rw [huSet, State.setWin_self]
    have hfor : SameFor w s u := .of_only hframe
    have hblocks : SameBlocks s u := .of_only hframe
    have hwindow : OnlyWindow s (s.panelFrame w pos).state w := .panelFrame s w pos
    have honly : Only [.win, .pinch, .refs, .trace, .mon, .notices] s (s.panelFrame w pos).state :=
      State.panelFrame_only s w pos
    have hcode : ∀ p c, s.panelFrame w pos = ⟨p, c, []⟩ →
        (s.panelFrame w pos).state.ports.set .d (answered tag (s.panelFrame w pos).code (s.panelFrame w pos).payload) =
          s.ports.set .d (answered tag c []) := by
      intro p c h
      rw [show (s.panelFrame w pos).state.ports = s.ports from honly.same .ports (by decide), h]
    refine ⟨Only.after (Only.ports _ _) rfl (honly.mono rfl), (OnlyWindow.of_only (Only.ports _ _) rfl rfl).after hwindow,
      fun hneutral => ?_, fun hpos r hr stop hstop => ?_⟩
    · have hpanel : s.panelFrame w pos = ⟨u.neutral w .panel, .ok, []⟩ := by
        unfold State.panelFrame
        rw [if_pos hneutral, ← hu]
        rfl
      refine ⟨hcode _ _ hpanel, ?_⟩
      rw [hpanel]
      have htaken := NeutralTaken.of_neutral (x := .panel) hfor hblocks
        (SameRuns.of_only (Only.ports (u.neutral w .panel) ((u.neutral w .panel).ports.set .d (answered tag .ok [])))) rfl
      rw [setAwait_panel (hrec.trans (if_pos hneutral))] at htaken
      exact htaken
    · have hrecord : u.winRec w = r := hrec.trans ((if_neg hpos).trans hr.symm)
      have hstop' : panelStop u (u.winRec w) (s.winRec w).panelPosition pos = stop := by
        rw [hstop, hrecord, huSet]
        rfl
      have hpanel : s.panelFrame w pos =
          ⟨if stop.isNone then u.press w .panel (s.winRec w).panelPosition pos else u, stop.getD .ok, []⟩ := by
        unfold State.panelFrame
        dsimp only
        rw [if_neg hpos, ← hu, State.panelJudgement_eq, hstop']
      refine ⟨hcode _ _ hpanel, ?_⟩
      rw [hpanel]
      cases stop with
      | none =>
        rw [if_pos rfl, ← hrecord]
        exact PressTaken.of_press hpos hfor hblocks (by rw [hrecord, hr]) (by rw [hrecord, hr]) (by rw [hrecord, hr])
          (SameRuns.of_only (Only.ports (u.press w .panel (s.winRec w).panelPosition pos) _)) rfl
      | some code =>
        rw [if_neg nofun, ← hrecord]
        exact hblocks.recordOnly (SameRuns.of_only (Only.ports u _)) rfl
  · obtain ⟨u, hu⟩ : ∃ u, u = (s.reach d).setWin w { s.winRec w with panelPosition := .neutral, panelTimer := none } := ⟨_, rfl⟩
    have hframe : Only [.now, .win] s u := hu ▸ Only.after (State.setWin_only _ w _) rfl ((State.reach_only s d).mono rfl)
    have hexpired : s.panelExpiry w = u.neutral w .panel := by
      unfold State.panelExpiry
      rw [hd, hu]
      rfl
    have hneutral : Only [.win, .refs, .trace, .mon, .notices] u (u.neutral w .panel) := State.neutral_only u w .panel
    refine ⟨_, congrArg Host.Outcome.next ((State.live_of_not_held hl _).trans hexpired),
      Eq.trans (hneutral.same .now (by decide)) (hu ▸ rfl), Only.after hneutral rfl (hframe.mono rfl),
      (OnlyWindow.neutral u w .panel).after (hu ▸ (OnlyWindow.setWin _ w _).after (.reach s w d)), ?_⟩
    have htaken := NeutralTaken.of_neutral (x := .panel) (.of_only hframe) (.of_only hframe)
      (⟨rfl, rfl, rfl, rfl, rfl, rfl⟩ : SameRuns (u.neutral w .panel) (u.neutral w .panel)) rfl
    rw [setAwait_panel (hu ▸ State.setWin_self ..)] at htaken
    exact htaken

/-! ### Local switches and REAR_LOCKOUT (R91, R92) -/

section Local
variable {s : State} {o : OtherSide} {w : Window}

theorem State.debounce_switch {d : Nat} (hd : (s.sensing.switch.get o).timer = some d) {u : State}
    (hu : u = s.settledTo d { s.sensing with
      switch := s.sensing.switch.set o { s.sensing.switch.get o with level := some (s.sensing.switch.get o).raw, timer := none } }) :
    s.debounce (.localSwitch o) = match (s.sensing.switch.get o).level with
      | some prev => if prev = (s.sensing.switch.get o).raw then u
          else u.localEvent (otherWindow o) prev (s.sensing.switch.get o).raw
      | none => u := by
  rw [hu]
  simp only [State.debounce, hd]
  rfl

theorem lockedOut_iff : s.lockedOut (otherWindow o) = true ↔ o ≠ .fp ∧ s.win.rearLockout = true ∨
    s.config.childLockout = true ∧ (o = .rd ∧ s.childs.rd.goal = .engaged ∨ o = .rp ∧ s.childs.rp.goal = .engaged) := by
  unfold State.lockedOut
  cases o with
  | fp => simp [otherWindow, windowRear]
  | rd =>
    show (s.win.rearLockout || (s.config.childLockout && decide (s.childs.rd.goal = .engaged))) = true ↔ _
    rw [Bool.or_eq_true, Bool.and_eq_true, decide_eq_true_iff]
    simp
  | rp =>
    show (s.win.rearLockout || (s.config.childLockout && decide (s.childs.rp.goal = .engaged))) = true ↔ _
    rw [Bool.or_eq_true, Bool.and_eq_true, decide_eq_true_iff]
    simp

/-- R91: why a press of a local switch is ignored. -/
theorem localIgnored_iff : s.localIgnored w = true ↔ s.crash.latch = true ∨ (s.winRec w).motion = .inhibited ∨
    (s.win.mode = .parked ∧ s.win.retained = none) ∨ s.lockedOut w = true ∨ (s.winRec w).awaitLocal = true ∨
    (s.winRec w).motion.holder = some .reversal ∨ (s.winRec w).motion.holder = some (.of .panel) := by
  rw [← windowPower_iff]
  simp [State.localIgnored, or_assoc]

theorem State.endHeld_ends {f : RunHolder → Bool} (h : State.heldBy (s.winRec w) f = true) :
    ((s.endHeld f w).winRec w).motion = .idle ∧ ((s.endHeld f w).chan (.w w)).drive = .brake := by
  rw [State.endHeld, if_pos h, (s.toIdle_ended w).record, (s.toIdle_ended w).bridge]
  exact ⟨rfl, rfl⟩

theorem State.endHeld_not {f : RunHolder → Bool} (h : State.heldBy (s.winRec w) f = false) : s.endHeld f w = s := by
  rw [State.endHeld, h]
  rfl

/-- R92: SET ends the LOCAL runs of the two rear windows. -/
theorem beginLockouts_window (v : State) (w : Window) :
    if (w = .wrd ∨ w = .wrp) ∧ (v.winRec w).motion.heldRun.any (·.holder = .localSw) = true then
      (((v.beginLockout .wrd).beginLockout .wrp).winRec w).motion = .idle ∧
        (((v.beginLockout .wrd).beginLockout .wrp).chan (.w w)).drive = .brake
    else ((v.beginLockout .wrd).beginLockout .wrp).winRec w = v.winRec w ∧
      ((v.beginLockout .wrd).beginLockout .wrp).chan (.w w) = v.chan (.w w) := by
  have hfirst : OnlyWindow v (v.beginLockout .wrd) .wrd := .endHeld v _ _
  have hsecond : OnlyWindow (v.beginLockout .wrd) ((v.beginLockout .wrd).beginLockout .wrp) .wrp := .endHeld _ _ _
  have hheld := heldBy_eq_any (v.winRec w) (fun h => h = .localSw)
  have hone : ∀ u : State, u.winRec w = v.winRec w → u.chan (.w w) = v.chan (.w w) →
      if (v.winRec w).motion.heldRun.any (·.holder = .localSw) = true then
        ((u.beginLockout w).winRec w).motion = .idle ∧ ((u.beginLockout w).chan (.w w)).drive = .brake
      else (u.beginLockout w).winRec w = v.winRec w ∧ (u.beginLockout w).chan (.w w) = v.chan (.w w) := by
    intro u hrec hchan
    rw [← hheld]
    split
    next h => exact State.endHeld_ends (by rw [hrec]; exact h)
    next h =>
      rw [State.beginLockout, State.endHeld_not (by rw [hrec]; exact Bool.eq_false_iff.mpr h)]
      exact ⟨hrec, hchan⟩
  cases w with
  | wfd | wfp =>
    rw [if_neg (by simp)]
    refine ⟨(hsecond.recs _ ?_).trans (hfirst.recs _ ?_), (hsecond.chans _ ?_).trans (hfirst.chans _ ?_)⟩ <;> simp
  | wrd =>
    rw [hsecond.recs .wrd nofun, hsecond.chans (.w .wrd) nofun]
    simpa using hone v rfl rfl
  | wrp => simpa using hone (v.beginLockout .wrd) (hfirst.recs .wrp nofun) (hfirst.chans (.w .wrp) nofun)

end Local

/-- Settles O45: the switch's event and the table of R93; the lockout flag and the two rear windows. -/
theorem localSwitchAndLockout : Obligations.LocalSwitchAndLockout := by
  refine ⟨fun s o w hw hl d hd => ?_, fun s tag hk => ⟨?_, ?_⟩⟩
  · obtain ⟨u, hu⟩ : ∃ u, u = s.settledTo d { s.sensing with
      switch := s.sensing.switch.set o { s.sensing.switch.get o with level := some (s.sensing.switch.get o).raw, timer := none } } :=
      ⟨_, rfl⟩
    have hsettled : Only [.now, .sensing] s u := hu ▸ State.settledTo_only
    have hwin : u.win = s.win := hsettled.same .win (by decide)
    have hrec : u.winRec w = s.winRec w := congrArg (fun x : WindowCtl => x.recs.get w) hwin
    have hdebounce := State.debounce_switch hd hu
    rw [← hw] at hdebounce
    generalize hx : s.sensing.switch.get o = x at hdebounce hu ⊢
    obtain ⟨hnow, hsensing⟩ := settled_seen (ps := []) hu (Only.refl _ u) rfl rfl
    refine ⟨_, exec_debounceExpiry hl _, ?_⟩
    by_cases hquiet : x.level = none ∨ x.level = some x.raw
    · have hsame : s.debounce (.localSwitch o) = u := by
        rw [hdebounce]
        rcases hquiet with hnone | hlevel
        · rw [hnone]
        · rw [hlevel]
          exact if_pos rfl
      rw [hsame]
      refine ⟨hnow, hsettled.mono rfl, .of_only hsettled rfl (by rw [hu]; rfl), hsensing, fun _ => hsettled, fun prev hprev hraw => ?_⟩
      rw [hprev] at hquiet
      exact absurd hquiet (by simp [hraw.symm])
    obtain ⟨hfirst, hnew⟩ := not_or.mp hquiet
    obtain ⟨prev, hprev⟩ := Option.ne_none_iff_exists'.mp hfirst
    have hraw : prev ≠ x.raw := fun h => hnew (by rw [hprev, h])
    have hevent : s.debounce (.localSwitch o) = u.localEvent w prev x.raw := by
      rw [hdebounce, hprev]
      exact if_neg hraw
    have honly : Only [.win, .pinch, .refs, .trace, .mon, .notices] u (u.localEvent w prev x.raw) :=
      State.localEvent_only u w prev x.raw
    have hfor : SameFor w s u := .of_only hsettled
    have hblocks : SameBlocks s u := .of_only hsettled
    rw [hevent]
    refine ⟨Eq.trans (honly.same .now (by decide)) hnow, Only.after honly rfl (hsettled.mono rfl),
      (OnlyWindow.localEvent u w prev x.raw).after (.of_only hsettled rfl (by rw [hu]; rfl)),
      Eq.trans (honly.same .sensing (by decide)) hsensing, fun h => absurd h hquiet, fun prev' hprev' _ => ?_⟩
    cases hprev.symm.trans hprev'
    refine ⟨fun hneutral => ?_, fun hneutral => ?_⟩
    · have hended : u.localEvent w prev x.raw = u.neutral w .localSw := if_pos hneutral
      rw [hended, ← hrec]
      have htaken := NeutralTaken.of_neutral (x := .localSw) hfor hblocks
        (⟨rfl, rfl, rfl, rfl, rfl, rfl⟩ : SameRuns (u.neutral w .localSw) (u.neutral w .localSw)) rfl
      rwa [show (u.setAwait w .localSw false).winRec w = { u.winRec w with awaitLocal := false } from
        State.setWin_self ..] at htaken
    · have hignored := localIgnored_iff (s := u) (w := w)
      have hlocked := lockedOut_iff (s := u) (o := o)
      rw [← hw] at hlocked
      rw [hrec, hlocked, hwin, show u.crash = s.crash from hsettled.same .crash (by decide),
        show u.config = s.config from hsettled.same .config (by decide),
        show u.childs = s.childs from hsettled.same .childs (by decide)] at hignored
      have hpressed : u.localEvent w prev x.raw =
          if u.localIgnored w then u else u.press w .localSw prev x.raw := if_neg hneutral
      split
      next h =>
        rw [hpressed, if_pos (hignored.mpr (by simpa only [or_assoc] using h))]
        exact hsettled
      next h =>
        rw [hpressed, if_neg (fun hi => h (by simpa only [or_assoc] using hignored.mp hi)), ← hrec]
        exact PressTaken.of_press hneutral hfor hblocks (by rw [hrec]) (by rw [hrec]) (by rw [hrec])
          ⟨rfl, rfl, rfl, rfl, rfl, rfl⟩ rfl
  · exact exec_owned (k := .rearLockout) (r := (s.writeLockout false).accept) hk rfl rfl
  · obtain ⟨v, hv⟩ : ∃ v, v = ({ s with win := { s.win with rearLockout := true } } : State) := ⟨_, rfl⟩
    have hown : ownerOf .rearLockout .d tag [1] s = ((v.beginLockout .wrd).beginLockout .wrp).accept := by rw [hv]; rfl
    refine ⟨_, exec_owned (k := .rearLockout) hk rfl hown, ?_⟩
    have hframe : Only [.win, .refs, .trace, .mon, .notices] s ((v.beginLockout .wrd).beginLockout .wrp) :=
      Only.after (State.beginLockout_only _ _) rfl (Only.after (State.beginLockout_only _ _) rfl
        (hv ▸ (Only.win s _).mono rfl))
    have hfirst := (OnlyWindow.endHeld v .wrd (fun h => h = .localSw)).rest
    have hsecond := (OnlyWindow.endHeld (v.beginLockout .wrd) .wrp (fun h => h = .localSw)).rest
    obtain ⟨hmode, hretained, hlockout⟩ := hfirst
    obtain ⟨hmode', hretained', hlockout'⟩ := hsecond
    have hrec : ∀ w, v.winRec w = s.winRec w := fun w => by rw [hv]; rfl
    have hchan : ∀ ch, v.chan ch = s.chan ch := fun ch => by rw [hv]; rfl
    refine ⟨Only.after (Only.ports _ _) rfl (hframe.mono rfl),
      congrArg (fun x : Ports PortEngine => x.set .d _) (hframe.same .ports (by decide)),
      (hlockout'.trans hlockout).trans (by rw [hv]), (hmode'.trans hmode).trans (by rw [hv]),
      (hretained'.trans hretained).trans (by rw [hv]), fun w => ?_⟩
    have hw := beginLockouts_window v w
    rw [hrec, hchan] at hw
    exact hw

end Sys2Proof.Machine
end

section
/-! The fob comfort session (R57, R66 to R68). -/

namespace Sys2Proof.Machine
open Sys2Proof

/-! ### The end of a session (R67, R68) -/

section Ended
variable {s : State} {x : Session}

theorem State.endSession_none (h : s.fobs.session = none) : s.endSession = s := by
  unfold State.endSession
  rw [h]

theorem State.endSession_some (h : s.fobs.session = some x) :
    s.endSession = (s.setSession none).endHeldAll (fun k => k = .comfortK x.slot) := by
  unfold State.endSession
  rw [h]

/-- R67, R68: the session is gone, and the runs that its slot holds have stopped. -/
theorem State.endSession_ends (h : s.fobs.session = some x) : s.endSession.fobs = { s.fobs with session := none } ∧
    ∀ w, if (s.winRec w).motion.heldRun.any (fun k => k.holder = .comfortK x.slot) = true then
      (s.endSession.winRec w).motion = .idle else s.endSession.winRec w = s.winRec w := by
  rw [State.endSession_some h]
  have hended := (runsEnded_endHeldAll (s.setSession none) (fun k => k = .comfortK x.slot)).1
  refine ⟨(State.endHeldAll_only (s.setSession none) _).same .fobs (by decide), fun w => ?_⟩
  have hw := hended w
  rw [show (s.setSession none).winRec w = s.winRec w from rfl] at hw
  split
  next hheld =>
    rw [if_pos hheld] at hw
    rw [hw.record]
  next hheld =>
    rw [if_neg hheld] at hw
    exact hw.1

end Ended

/-! ### FOB_COUNTER through the windows' operations -/

/-- FOB_COUNTER of port B stands as it did. -/
def SameCounterNotice (s t : State) : Prop := t.notices.b.fobCounter = s.notices.b.fobCounter

namespace SameCounterNotice
variable {s t u : State}

theorem after (k : SameCounterNotice t u) (h : SameCounterNotice s t) : SameCounterNotice s u := Eq.trans k h

theorem of_ready (h : ReadyAlone s t) : SameCounterNotice s t := by
  obtain ⟨v, -, ht⟩ := h
  rw [SameCounterNotice, ht]

theorem carryOutForget (s : State) (w : Window) : SameCounterNotice s (s.carryOutForget w) := by
  unfold State.carryOutForget
  split <;> rfl

theorem driveRun (s : State) (w : Window) (k : RunRec) : SameCounterNotice s (s.driveRun w k) := rfl

theorem startRun (s : State) (w : Window) (dir : Dir) (kind : RunKind) (holder : RunHolder) :
    SameCounterNotice s (s.startRun w dir kind holder) := by
  have hlaunch : ∀ k, SameCounterNotice s (s.launch w k) := fun k => (driveRun _ w k).after (carryOutForget s w)
  rw [State.startRun_eq]
  split
  · exact (of_ready (.toIdle _ w)).after (hlaunch _)
  · exact hlaunch _

theorem comfortOn (s : State) (w : Window) (dir : Dir) (h : RunHolder) : SameCounterNotice s (s.comfortOn w dir h) := by
  unfold State.comfortOn
  split
  · unfold State.comfortStart
    dsimp only
    split
    · exact startRun s w _ _ _
    · split <;> rfl
    all_goals rfl
  · rfl

theorem comfortAll (s : State) (dir : Dir) (h : RunHolder) : SameCounterNotice s (s.comfortAll dir h) := by
  have hfold := foldl_keeps (P := SameCounterNotice s) (f := fun t w => t.comfortOn w dir h)
    (fun t w ht => (comfortOn t w dir h).after ht) Window.list rfl
  exact hfold

end SameCounterNotice

/-! ### A new start (R66) -/

section Start
variable {s t u : State} {w : Window} {dir : Dir} {h : RunHolder}

theorem SameAt.symm (hst : SameAt w s t) : SameAt w t s :=
  ⟨hst.record.symm, hst.pinch.symm, hst.refs.symm, hst.ring.symm, hst.chan.symm⟩

/-- R100: a window that a comfort request is STARTED on stands IDLE, or runs, or has a run pending. -/
theorem comfort_motion (hbyte : comfortByte s w = 0x00) : (s.winRec w).motion = .idle ∨
    ∃ k, (s.winRec w).motion = .run k ∨ (s.winRec w).motion = .dwell (.run k) := by
  have hstarted := comfort_started_iff.mpr hbyte
  unfold State.comfortOutcome at hstarted
  cases hm : (s.winRec w).motion with
  | idle => exact .inl rfl
  | run k => exact .inr ⟨k, .inl rfl⟩
  | dwell p =>
    cases p with
    | run k => exact .inr ⟨k, .inr rfl⟩
    | reverse x =>
      simp only [hm, Motion.holder, reduceCtorEq, if_false] at hstarted
      split at hstarted <;> cases hstarted
  | reverse x =>
    simp only [hm, Motion.holder, reduceCtorEq, if_false] at hstarted
    split at hstarted <;> cases hstarted
  | inhibited =>
    simp only [hm, if_true] at hstarted
    cases hstarted

/-- R100: a run of a window that a comfort request is STARTED on is held by the request's holder. -/
theorem ComfortTaken.holder (hbyte : comfortByte s w = 0x00) (ht : ComfortTaken s t w dir h) {k : RunRec}
    (hk : (t.winRec w).motion.heldRun = some k) : k.holder = h := by
  rcases comfort_motion hbyte with hidle | ⟨o, ho | ho⟩
  · cases hb : startsAtBottom s w dir with
    | true =>
      rw [(ht.bottom hidle hb).1] at hk
      cases hk
    | false =>
      rw [(ht.idle hidle hb).record] at hk
      cases hk
      rfl
  · by_cases hdir : o.dir = dir
    · rw [(ht.same o ho hdir).1] at hk
      cases hk
      rfl
    · rw [(ht.other o ho hdir).record] at hk
      cases hk
      rfl
  · rw [(ht.pending o ho).1] at hk
    cases hk
    rfl

/-- R66, step 3: the runs held under another slot's session stop. -/
theorem State.replaceSession_eq (s : State) (i : Fin 8) (d : ComfortDir) : s.replaceSession i d =
    (s.endHeldAll (fun k => s.fobs.session.any (fun x => x.slot ≠ i && k = .comfortK x.slot))).setSession
      (some ⟨i, d, s.now + 3000⟩) := by
  have hnone : ∀ f : RunHolder → Bool, (∀ k, f k = false) → s.endHeldAll f = s := by
    intro f hf
    have hkept : ∀ (l : List Window) (t : State), l.foldl (fun t w => t.endHeld f w) t = t := by
      intro l
      induction l with
      | nil => exact fun _ => rfl
      | cons w l ih =>
        intro t
        rw [List.foldl_cons, State.endHeld_not (by rw [heldBy_eq_any]; cases (t.winRec w).motion.heldRun <;> simp [hf])]
        exact ih t
    exact hkept _ s
  have hnow : ∀ f, (s.endHeldAll f).now = s.now := fun f => (State.endHeldAll_only s f).same .now (by decide)
  unfold State.replaceSession
  cases hx : s.fobs.session with
  | none =>
    exact congrArg (fun t : State => t.setSession (some ⟨i, d, s.now + 3000⟩)) (hnone _ (fun _ => rfl)).symm
  | some x =>
    dsimp only
    by_cases hi : x.slot = i
    · rw [if_pos hi, hnone _ (fun k => by simp [hi])]
      rfl
    · rw [if_neg hi, hnow]
      simp only [Option.any_some, ne_eq, hi, not_false_eq_true, decide_true, Bool.true_and]
      rfl

/-- R57: the answer of a new start: the sequencer's refusal, or else that of the first window that refuses. -/
theorem formAnswer_comfort (s : State) (refused : Option Code) (hr : ∀ c, refused = some c → c.accepted = false) (runs : Bool) :
    formAnswer [refused.getD .ok] (comfortRefusals s.comfortOutcomes) runs = refused.getD (comfortAnswer s) := by
  have hrefusals : ∀ c ∈ comfortRefusals s.comfortOutcomes, c.accepted = false := by
    intro c hc
    simp only [comfortRefusals, List.mem_filterMap, List.mem_map] at hc
    obtain ⟨o, ⟨w, -, ho⟩, hc⟩ := hc
    rw [comfortOutcomes_get] at ho
    have hw := comfort_shown s w
    rw [ho] at hw
    generalize comfortByte s w = b at hw
    cases hw <;> cases hc <;> rfl
  rw [← comfortRefusals_head]
  unfold formAnswer
  cases refused with
  | some c => simp [hr c rfl]
  | none =>
    cases hl : comfortRefusals s.comfortOutcomes with
    | nil => rfl
    | cons c l =>
      rw [hl] at hrefusals
      have hc := hrefusals c (List.mem_cons_self ..)
      have hok : Code.accepted .ok = true := rfl
      simp only [Option.getD_none, List.cons_append, List.nil_append, List.find?_cons, hok, hc, Bool.not_true,
        Bool.not_false, List.head?_cons, Option.getD_some]

/-- R66: why the sequencer refuses the lock command of a new start. -/
def comfortRefused (s : State) (d : ComfortDir) : Option Code :=
  if s.crash.latch then some .crash else if d = .close ∧ s.closures.fd.latch = .ajar then some .ajar else none

theorem comfortRefused_not_accepted {d : ComfortDir} {c : Code} (hc : comfortRefused s d = some c) : c.accepted = false := by
  unfold comfortRefused at hc
  split at hc
  · cases hc
    rfl
  split at hc
  · cases hc
    rfl
  · cases hc

/-- R22, R66: the lock command of a new start, offered to an empty queue. -/
theorem State.offer_comfort (i : Fin 8) (d : ComfortDir) (tag : Byte) (hq : s.seq.queue = []) :
    s.offerCode (State.slotCommand (State.comfortKind d) (.kFob i) tag) = (comfortRefused s d).getD .ok ∧
      s.offer (State.slotCommand (State.comfortKind d) (.kFob i) tag) = { s with
        seq := if comfortRefused s d = none then
            s.seq.took (portEntry (State.comfortKind d) (.kFob i) .k tag false) (.slot i) (actionOf (d = .opening)) s.now
          else s.seq } := by
  have hcls : (State.comfortKind d).cls = if (d = .opening : Bool) then .unlock else .lock := by cases d <;> rfl
  have hclass : (State.comfortKind d).lockClass = true := by cases d <;> rfl
  unfold comfortRefused
  cases hlatch : s.crash.latch with
  | true =>
    have haccept := State.acceptance_crash (c := State.slotCommand (State.comfortKind d) (.kFob i) tag) hlatch hclass
    exact ⟨State.offerCode_refused haccept, State.offer_refused haccept⟩
  | false =>
    rw [if_neg nofun]
    by_cases hajar : d = .close ∧ s.closures.fd.latch = .ajar
    · have haccept := State.acceptance_ajar (c := State.slotCommand (State.comfortKind d) (.kFob i) tag) hlatch
        (hcls.trans (by rw [hajar.1]; rfl)) hajar.2 nofun
      rw [if_pos hajar]
      exact ⟨State.offerCode_refused haccept, State.offer_refused haccept⟩
    · rw [if_neg hajar]
      exact State.offer_turned (c := State.slotCommand (State.comfortKind d) (.kFob i) tag) (d = .opening) hcls hq hlatch
        (fun hclose _ hopen => hajar ⟨by cases d <;> simp_all, hopen⟩)

/-- R66, R100: the windows after a new start, seen from the state before the command. -/
theorem comfortNew_windows {v : State} (i : Fin 8) (d : ComfortDir) (hfor : SameFor w s v) (hrec : v.winRec w = s.winRec w)
    (ht : SameRuns ((v.comfortAll d.dir (.comfortK i)).replaceSession i d) t) :
    if comfortByte s w = 0x00 then ComfortTaken s t w d.dir (.comfortK i)
    else if v.fobs.session.any (fun x => x.slot ≠ i && (s.winRec w).motion.heldRun.any (fun k =>
      k.holder = .comfortK x.slot)) = true then RunEnded s t w (s.winRec w)
    else t.winRec w = s.winRec w ∧ t.chan (.w w) = s.chan (.w w) ∧ t.refsOf w = s.refsOf w := by
  obtain ⟨x, hx⟩ : ∃ x, x = v.comfortAll d.dir (.comfortK i) := ⟨_, rfl⟩
  obtain ⟨f, hf⟩ : ∃ f : RunHolder → Bool, f = fun k => v.fobs.session.any (fun y => y.slot ≠ i && k = .comfortK y.slot) :=
    ⟨_, rfl⟩
  have hsession : x.fobs.session = v.fobs.session :=
    congrArg Fobs.session (hx ▸ (State.comfortAll_only v d.dir (.comfortK i)).same .fobs (by decide))
  have hreplaced : SameRuns (x.endHeldAll f) t := by
    rw [← hx, State.replaceSession_eq, hsession, ← hf] at ht
    exact ⟨ht.now, ht.win, ht.pinch, ht.refs, ht.trace, ht.mon⟩
  obtain ⟨hwindows, hrings, -⟩ := runsEnded_endHeldAll x f
  have hended := hwindows w
  have hnow : t.now = x.now := hreplaced.now.trans ((State.endHeldAll_only x f).same .now (by decide))
  have hleft : (x.winRec w).motion.heldRun.any (fun k => f k.holder) = false → SameAt w x t := by
    intro hnot
    rw [hnot] at hended
    obtain ⟨hr, hc, hre, hp⟩ := hended
    exact (hreplaced.at w).after ⟨hr, hp, hre, congrArg (·.get w) hrings, hc⟩
  have htaken := fun t' => comfortAll_taken (t := t') (dir := d.dir) (h := .comfortK i) hfor hrec
  rw [← hx] at htaken
  split
  next hbyte =>
    have hholder : ∀ k, (x.winRec w).motion.heldRun = some k → k.holder = .comfortK i := fun k hk => by
      have hx' := htaken x (.refl w x) rfl
      rw [if_pos hbyte] at hx'
      exact hx'.holder hbyte hk
    have ht' := htaken t (hleft ?_) hnow
    · rwa [if_pos hbyte] at ht'
    · cases hk : (x.winRec w).motion.heldRun with
      | none => rfl
      | some k =>
        rw [Option.any_some, hholder k hk, hf]
        cases v.fobs.session with
        | none => rfl
        | some y => simp [eq_comm]
  next hbyte =>
    have hx' := htaken x (.refl w x) rfl
    rw [if_neg hbyte] at hx'
    have hsame : SameAt w s x := hx'.after ⟨hrec, hfor.pinch, hfor.refs, hfor.ring, hfor.chan⟩
    have hswap : v.fobs.session.any (fun y => y.slot ≠ i && (s.winRec w).motion.heldRun.any (fun k =>
        k.holder = .comfortK y.slot)) = (x.winRec w).motion.heldRun.any (fun k => f k.holder) := by
      rw [hsame.record, hf]
      cases v.fobs.session <;> cases (s.winRec w).motion.heldRun <;> simp
    rw [hswap]
    split
    next hheld =>
      rw [if_pos hheld, hsame.record] at hended
      exact hended.seen hsame.symm (hreplaced.at w) hreplaced.now
    next hheld =>
      have hsame' := (hleft (Bool.eq_false_iff.mpr hheld)).after hsame
      exact ⟨hsame'.record, hsame'.chan, hsame'.refs⟩

end Start

/-! ### The statement -/

section Credential
variable {s u : State} {tag : Byte} {i : Fin 8} {c : Nat}

theorem sessionIs_iff {d : ComfortDir} : u.sessionIs i d = true ↔ ∃ x, u.fobs.session = some x ∧ x.slot = i ∧ x.dir = d := by
  unfold State.sessionIs
  cases u.fobs.session with
  | none => simp
  | some x => simp

/-- R67: an accepted frame of the session's slot and direction renews it. -/
theorem State.comfortReply_renewed {d : ComfortDir} {x : Session} (hx : u.fobs.session = some x) (hslot : x.slot = i)
    (hdir : x.dir = d) : u.comfortReply i d tag =
      (u.setSession (some ⟨i, d, u.now + 3000⟩)).credentialReply i .ok (.all false) := by
  unfold State.comfortReply
  rw [if_pos (sessionIs_iff.mpr ⟨x, hx, hslot, hdir⟩), State.renewSession, hx, ← hslot, ← hdir]
  rfl

/-- R66: the answer of a new start. -/
theorem State.comfortReply_new {d : ComfortDir} {v : State} (h : ∀ x, u.fobs.session = some x → x.slot = i → x.dir ≠ d)
    (hv : v = u.offer (State.slotCommand (State.comfortKind d) (.kFob i) tag)) : u.comfortReply i d tag =
      ((v.comfortAll d.dir (.comfortK i)).replaceSession i d).credentialReply i
        (formAnswer [u.offerCode (State.slotCommand (State.comfortKind d) (.kFob i) tag)]
          (comfortRefusals v.comfortOutcomes) (Window.list.any (comfortStarted v.comfortOutcomes).get))
        (comfortStarted v.comfortOutcomes) := by
  unfold State.comfortReply
  rw [if_neg (mt sessionIs_iff.mp (fun ⟨x, hx, hslot, hdir⟩ => h x hx hslot hdir)), hv]
  rfl

theorem windowSet_started (v : State) : windowSet (comfortStarted v.comfortOutcomes) =
    u8 (setNumber (Window.list.map (fun w => decide (comfortByte v w = 0x00)))) := by
  rw [windowSet, setByte_eq]
  congr 2
  refine List.map_congr_left fun w _ => ?_
  rw [comfortStarted, Windows.get_map, comfortOutcomes_get]
  exact decide_eq_decide.mpr comfort_started_iff

theorem State.counted_only (last : Option Accepted) : Only [.fobs, .notices] s (s.counted i c last) :=
  Only.after (Only.notices { s with fobs := s.fobs.with i ((s.slotAt i).advanced c last) } _) rfl ((Only.fobs s _).mono rfl)

/-- R66: a new start, taken by an empty queue or refused. -/
theorem exec_comfort_new {a : FobAction} (d : ComfortDir) (hk : s.canTake .k) (hc : c < 16777216)
    (hactive : (s.slotAt i).status = .active) (haccepts : (s.slotAt i).accepts c) (hright : a.admitted (s.slotAt i).rights)
    (haction : ∀ u : State, u.fobAction i a tag = u.comfortReply i d tag)
    (hnew : ∀ x, s.fobs.session = some x → x.slot = i → x.dir ≠ d) (hq : s.seq.queue = []) :
    ∃ t, exec (.credential .k tag (credentialBytes i c a)) s = .next t ∧
      Only [.seq, .fobs, .win, .pinch, .refs, .trace, .mon, .notices, .ports] s t ∧
      t.fobs = { slots := (s.fobs.with i ((s.slotAt i).advanced c (some ⟨s.now, a⟩))).slots
                 session := some ⟨i, d, s.now + 3000⟩ } ∧
      t.notices.b.fobCounter = (counterNamed s.notices i).b.fobCounter ∧
      t.seq = (if comfortRefused s d = none then
          s.seq.took (portEntry (State.comfortKind d) (.kFob i) .k tag false) (.slot i) (actionOf (d = .opening)) s.now
        else s.seq) ∧
      t.ports = s.ports.set .k (answered tag ((comfortRefused s d).getD (comfortAnswer s))
        (u8 i.val ++ u24 c ++ u8 (setNumber (Window.list.map (fun w => decide (comfortByte s w = 0x00)))))) ∧
      t.win.mode = s.win.mode ∧ t.win.retained = s.win.retained ∧ t.win.rearLockout = s.win.rearLockout ∧
      ∀ w, if comfortByte s w = 0x00 then ComfortTaken s t w d.dir (.comfortK i)
        else if s.fobs.session.any (fun x => x.slot ≠ i && (s.winRec w).motion.heldRun.any (fun k =>
            k.holder = .comfortK x.slot)) = true then RunEnded s t w (s.winRec w)
        else t.winRec w = s.winRec w ∧ t.chan (.w w) = s.chan (.w w) ∧ t.refsOf w = s.refsOf w := by
  obtain ⟨u, hu⟩ : ∃ u, u = s.counted i c (some ⟨s.now, a⟩) := ⟨_, rfl⟩
  have huframe : Only [.fobs, .notices] s u := hu ▸ State.counted_only _
  obtain ⟨hcode, hoffer⟩ := State.offer_comfort (s := u) i d tag (by rw [hu]; exact hq)
  have hrefused : comfortRefused u d = comfortRefused s d := by rw [hu]; rfl
  rw [hrefused] at hcode hoffer
  obtain ⟨v, hv⟩ : ∃ v, v = u.offer (State.slotCommand (State.comfortKind d) (.kFob i) tag) := ⟨_, rfl⟩
  have hvseq := hv.trans hoffer
  have hvframe : Only [.seq, .fobs, .notices] s v :=
    hvseq ▸ Only.after (Only.seq u _) rfl (huframe.mono (ps := [.seq, .fobs, .notices]) rfl)
  have hvrec : ∀ w, v.winRec w = s.winRec w :=
    fun w => congrArg (fun x : WindowCtl => x.recs.get w) (hvframe.same .win (by decide))
  have hreply := State.comfortReply_new (tag := tag) (i := i) (by rw [hu]; exact hnew) hv
  have hbytes : ∀ w, comfortByte v w = comfortByte s w := fun w => comfortByte_congr (hvrec w)
  have hanswer : comfortAnswer v = comfortAnswer s := by
    unfold comfortAnswer
    rw [funext hbytes]
  rw [hcode, formAnswer_comfort v _ (fun _ => comfortRefused_not_accepted), hanswer] at hreply
  obtain ⟨x, hx⟩ : ∃ x, x = v.comfortAll d.dir (.comfortK i) := ⟨_, rfl⟩
  obtain ⟨z, hz⟩ : ∃ z, z = x.replaceSession i d := ⟨_, rfl⟩
  rw [← hx, ← hz, State.credentialReply, windowSet_started, funext hbytes] at hreply
  have hxframe : Only [.win, .pinch, .refs, .trace, .mon, .notices] v x := hx ▸ State.comfortAll_only v d.dir (.comfortK i)
  have hzframe := State.replaceSession_only x i d
  rw [← hz] at hzframe
  have hframe : Only [.seq, .fobs, .win, .pinch, .refs, .trace, .mon, .notices] s z :=
    Only.after hzframe rfl (Only.after hxframe rfl (hvframe.mono rfl))
  have hslots : z.fobs.slots = (s.fobs.with i ((s.slotAt i).advanced c (some ⟨s.now, a⟩))).slots := by
    rw [hz, State.replaceSession_slots, show x.fobs = v.fobs from hxframe.same .fobs (by decide), hvseq, hu]
    rfl
  have hcounter : (z.slotAt i).counter = c := by
    rw [State.slotAt, hslots]
    exact congrArg FobSlot.counter (slotAt_with (s := s) s.fobs _)
  have hxnow : x.now = s.now := Eq.trans (hxframe.same .now (by decide)) (hvframe.same .now (by decide))
  have hsession : z.fobs.session = some ⟨i, d, s.now + 3000⟩ := by
    rw [hz, State.replaceSession_eq, hxnow]
    rfl
  rw [hcounter] at hreply
  have hrest : z.win.mode = s.win.mode ∧ z.win.retained = s.win.retained ∧ z.win.rearLockout = s.win.rearLockout := by
    obtain ⟨hmode, hretained, hlockout⟩ := foldl_rest (fun t w => OnlyWindow.comfortOn t w d.dir (.comfortK i)) Window.list v
    obtain ⟨hmode', hretained', hlockout'⟩ := x.endHeldAll_rest
      (fun k => x.fobs.session.any (fun y => y.slot ≠ i && k = .comfortK y.slot))
    have hvwin : v.win = s.win := hvframe.same .win (by decide)
    have hxwin : x = Window.list.foldl (fun t w => t.comfortOn w d.dir (.comfortK i)) v := hx
    rw [← hxwin, hvwin] at hmode hretained hlockout
    rw [hz, State.replaceSession_eq]
    exact ⟨hmode'.trans hmode, hretained'.trans hretained, hlockout'.trans hlockout⟩
  have hnotice : z.notices.b.fobCounter = (counterNamed s.notices i).b.fobCounter := by
    have hzready : SameCounterNotice x z := by
      rw [hz, State.replaceSession_eq]
      exact .of_ready (.endHeldAll x _)
    have hxnotice : SameCounterNotice v x := hx ▸ .comfortAll v d.dir (.comfortK i)
    rw [hzready, hxnotice, hvseq, hu]
    rfl
  obtain ⟨e, he⟩ : ∃ e, e = answered tag ((comfortRefused s d).getD (comfortAnswer s))
    (u8 i.val ++ u24 c ++ u8 (setNumber (Window.list.map (fun w => decide (comfortByte s w = 0x00))))) := ⟨_, rfl⟩
  have hexec : exec (.credential .k tag (credentialBytes i c a)) s = .next { z with ports := z.ports.set .k e } := by
    rw [exec_credential_admitted hk hc hactive haccepts hright, ← hu, haction, hreply, he]
    rfl
  rw [← he]
  refine ⟨_, hexec, ?_⟩
  refine ⟨Only.after (Only.ports z _) rfl (hframe.mono rfl), ?_, hnotice, ?_,
    congrArg (fun x : Ports PortEngine => x.set .k _) (hframe.same .ports (by decide)), hrest.1, hrest.2.1, hrest.2.2,
    fun w => ?_⟩
  · rw [← hslots, ← hsession]
  · rw [show z.seq = v.seq from Eq.trans (hzframe.same .seq (by decide)) (hxframe.same .seq (by decide)), hvseq, hu]
    rfl
  · have hw := comfortNew_windows (t := { z with ports := z.ports.set .k e }) (w := w) i d
      (.of_only hvframe) (hvrec w) (by rw [← hx, ← hz]; exact SameRuns.of_only (Only.ports z _))
    rwa [show v.fobs.session = s.fobs.session by rw [hvseq, hu]; rfl] at hw

/-- R67: a renewal hands nothing over. -/
theorem exec_comfort_renewed {a : FobAction} (d : ComfortDir) (hk : s.canTake .k) (hc : c < 16777216)
    (hactive : (s.slotAt i).status = .active) (haccepts : (s.slotAt i).accepts c) (hright : a.admitted (s.slotAt i).rights)
    (haction : ∀ u : State, u.fobAction i a tag = u.comfortReply i d tag) {x : Session} (hx : s.fobs.session = some x)
    (hslot : x.slot = i) (hdir : x.dir = d) : exec (.credential .k tag (credentialBytes i c a)) s = .next { s with
      fobs := { slots := (s.fobs.with i ((s.slotAt i).advanced c (some ⟨s.now, a⟩))).slots
                session := some ⟨i, d, s.now + 3000⟩ }
      notices := counterNamed s.notices i
      ports := s.ports.set .k (answered tag .ok (u8 i.val ++ u24 c ++ [0])) } := by
  rw [exec_credential_admitted hk hc hactive haccepts hright, haction]
  rw [State.comfortReply_renewed (u := s.counted i c (some ⟨s.now, a⟩)) hx hslot hdir,
    answer_credentialReply _ (congrArg FobSlot.counter ((setSession_slotAt _).trans (counted_slotAt _)))]
  rfl

/-- Settles O24: renewals, new starts, the stop and the end of the keep-alive. -/
theorem comfortSession : Obligations.ComfortSession := by
  refine ⟨fun s tag i c hk hc hactive haccepts hcomfort => ⟨fun row hrow => ⟨fun x hx hslot hdir => ?_, ?_⟩, fun hnone => ?_,
    fun x hx => ?_⟩, fun s hl x hx => ?_⟩
  · simp only [List.mem_cons, List.not_mem_nil, or_false] at hrow
    rcases hrow with rfl | rfl
    · exact exec_comfort_renewed (a := .comfortClose) .close hk hc hactive haccepts hcomfort (fun _ => rfl) hx hslot hdir
    · exact exec_comfort_renewed (a := .comfortOpen) .opening hk hc hactive haccepts hcomfort (fun _ => rfl) hx hslot hdir
  · rintro hnew hq refused rfl
    simp only [List.mem_cons, List.not_mem_nil, or_false] at hrow
    rcases hrow with rfl | rfl
    · simpa [comfortRefused, State.comfortKind, ComfortDir.dir, actionOf] using
        exec_comfort_new (a := .comfortClose) .close hk hc hactive haccepts hcomfort (fun _ => rfl) hnew hq
    · simpa [comfortRefused, State.comfortKind, ComfortDir.dir, actionOf] using
        exec_comfort_new (a := .comfortOpen) .opening hk hc hactive haccepts hcomfort (fun _ => rfl) hnew hq
  · rw [exec_credential_admitted (a := .comfortStop) hk hc hactive haccepts hcomfort, State.fobAction]
    rw [State.endSession_none (s := s.counted i c (some ⟨s.now, .comfortStop⟩)) hnone,
      answer_credentialReply _ (congrArg FobSlot.counter (counted_slotAt _))]
    rfl
  · obtain ⟨u, hu⟩ : ∃ u, u = s.counted i c (some ⟨s.now, .comfortStop⟩) := ⟨_, rfl⟩
    have husession : u.fobs.session = some x := by rw [hu]; exact hx
    obtain ⟨hfobs, hwindows⟩ := State.endSession_ends husession
    have hslot : u.endSession.slotAt i = (s.slotAt i).advanced c (some ⟨s.now, .comfortStop⟩) := by
      rw [State.slotAt, State.endSession_slots, hu]
      exact counted_slotAt _
    have hframe := State.endSession_only u
    have hports : u.endSession.ports = s.ports := Eq.trans (hframe.same .ports (by decide)) (by rw [hu]; rfl)
    have hseq : u.endSession.seq = s.seq := Eq.trans (hframe.same .seq (by decide)) (by rw [hu]; rfl)
    have hrec : ∀ w, u.winRec w = s.winRec w := fun w => by rw [hu]; rfl
    simp only [hrec] at hwindows
    have hexec : exec (.credential .k tag (credentialBytes i c .comfortStop)) s = .next { u.endSession with
        ports := u.endSession.ports.set .k (answered tag .ok (u8 i.val ++ u24 c ++ [0])) } := by
      rw [exec_credential_admitted (a := .comfortStop) hk hc hactive haccepts hcomfort, ← hu, State.fobAction,
        answer_credentialReply _ (congrArg FobSlot.counter hslot)]
      rfl
    exact ⟨_, hexec, congrArg Fobs.session hfobs, hseq, hslot, hwindows, congrArg (fun y : Ports PortEngine => y.set .k _) hports⟩
  · obtain ⟨u, hu⟩ : ∃ u, u = s.reach x.keepAlive := ⟨_, rfl⟩
    obtain ⟨hfobs, hwindows⟩ := State.endSession_ends (s := u) (x := x) (by rw [hu]; exact hx)
    have hended : s.keepAliveEnd = u.endSession := by
      rw [State.keepAliveEnd, hx, hu]
    have hframe := State.endSession_only u
    have hrec : ∀ w, u.winRec w = s.winRec w := fun w => by rw [hu]; rfl
    simp only [hrec] at hwindows
    refine ⟨_, congrArg Host.Outcome.next ((State.live_of_not_held hl _).trans hended),
      Only.after hframe rfl (hu ▸ (State.reach_only s _).mono rfl), Eq.trans (hframe.same .now (by decide)) (by rw [hu]; rfl),
      hfobs.trans (by rw [hu]; rfl), hwindows⟩

end Credential

end Sys2Proof.Machine
end

section
/-! The timers of a motion: the ends of DWELL and of the brake (R96, R99, R103), and the stalls (R97, R98). -/

namespace Sys2Proof.Machine
open Sys2Proof

/-! ### The end of DWELL and of the brake -/

section Dwell
variable {s t u : State} {w : Window}

/-- R94: the kind of a run after degradation, as one condition. -/
theorem State.degrade_eq (s : State) (w : Window) (dir : Dir) (kind : RunKind) :
    s.degrade w dir kind = if kind = .auto ∧ ((s.winRec w).normalised = false ∨
      dir = .up ∧ ((s.winRec w).limited = true ∨ s.mon.supply = .low)) then .manual else kind := by
  cases kind with
  | manual | comfort => rfl
  | auto => cases dir <;> simp [State.degrade, or_assoc]

theorem State.endDwell_run {k : RunRec} (h : (s.winRec w).motion = .dwell (.run k)) :
    s.endDwell w = if State.mayStart (s.winRec w) k then s.startRun w k.dir (s.degrade w k.dir k.kind) k.holder
      else s.toIdle w := by
  rw [State.endDwell]
  simp only [h]

theorem State.endDwell_reverse {x : Int} (h : (s.winRec w).motion = .dwell (.reverse x)) :
    s.endDwell w = s.startReverse w x := by
  rw [State.endDwell]
  simp only [h]

theorem mayStart_false {r : WindowRec} {k : RunRec} (hkind : k.kind = .comfort) (hdir : k.dir = .up)
    (h : r.normalised = false ∨ r.limited = true) : State.mayStart r k = false := by
  rcases h with h | h <;> simp [State.mayStart, hkind, hdir, h]

theorem mayStart_true {r : WindowRec} {k : RunRec}
    (h : k.kind ≠ .comfort ∨ k.dir = .down ∨ r.normalised = true ∧ r.limited = false) : State.mayStart r k = true := by
  rcases h with h | h | ⟨hn, hl⟩
  · simp [State.mayStart, h]
  · simp [State.mayStart, h]
  · simp [State.mayStart, hn, hl]

/-- Settles O50: each pending thing starts from the state on which the DWELL's timer has run out. -/
theorem dwellAndBrake : Obligations.DwellAndBrake := by
  refine fun s w hl => ⟨fun d hd => ?_, fun d hd => ?_⟩
  · obtain ⟨u, hu⟩ : ∃ u, u = s.reach d := ⟨_, rfl⟩
    have hframe : Only [.now] s u := hu ▸ State.reach_only s d
    have hrec : u.winRec w = s.winRec w := by rw [hu]; rfl
    have hnow : u.now = max s.now d := by rw [hu]; rfl
    have hs : SameFor w s u := .of_only hframe
    have hended : s.dwellExpiry w = u.endDwell w := by
      rw [State.dwellExpiry, hd, hu]
    have hendOnly := State.endDwell_only u w
    refine ⟨u.endDwell w, congrArg Host.Outcome.next ((State.live_of_not_held hl _).trans hended),
      Only.after hendOnly rfl (hframe.mono rfl), Eq.trans (hendOnly.same .now (by decide)) hnow,
      (OnlyWindow.endDwell u w).after (.of_only hframe rfl (by rw [hu]; rfl)), fun k hk => ?_, fun x hx => ?_⟩
    · rintro kind rfl
      rw [State.endDwell_run (by rw [hrec, hk])]
      refine ⟨fun hkind hdir hbar => ?_, fun hmay => ?_⟩
      · rw [mayStart_false hkind hdir (hrec ▸ hbar), if_neg (by simp), ← hrec]
        exact (State.toIdle_ended u w).seenFor hs (.refl w _) rfl
      · rw [mayStart_true (hrec ▸ hmay), if_pos rfl]
        have hbottom := startsAtBottom_seen hs (by rw [hrec]) (by rw [hrec]) k.dir
        split
        next hstart =>
          obtain ⟨hmotion, hdrive, _⟩ := State.startRun_bottom (s := u) (kind := u.degrade w k.dir k.kind)
            (holder := k.holder) (hbottom.trans hstart)
          exact ⟨hmotion, hdrive⟩
        next hstart =>
          rw [State.startRun_eq, hbottom, if_neg hstart, State.degrade_eq, hrec, hs.supply, hs.cal, ← hrec]
          refine ⟨(State.launch_started u w _).seenFor hs (.refl w _) rfl, (State.launch_buffers _).trans ?_⟩
          exact congrArg TraceStore.buffers (hframe.same .trace (by decide))
    · have hrest := State.startReverse_only u w x
      have hrestNow : (u.startReverse w x).now = u.now := hrest.same .now (by decide)
      rw [State.endDwell_reverse (by rw [hrec, hx])]
      refine ⟨?_, ?_, ?_, ?_, ?_, ?_⟩
      · rw [State.startReverse_winRec, hrestNow, hrec]
        rfl
      · rw [State.startReverse_chan, hrestNow, hs.chan]
      · rw [State.startReverse_pinchOf, hrestNow, hs.pinch]
      · exact Eq.trans (hrest.same .refs (by decide)) (hframe.same .refs (by decide))
      · exact Eq.trans (hrest.same .trace (by decide)) (hframe.same .trace (by decide))
      · exact Eq.trans (hrest.same .notices (by decide)) (hframe.same .notices (by decide))
  · refine congrArg Host.Outcome.next ((State.live_of_not_held hl _).trans ?_)
    rw [State.brakeExpiry, hd]
    rfl

end Dwell

end Sys2Proof.Machine
end

section
/-! The judgement of a stroke at the top stop (R129, R130), and the stalls (R97, R98, R102). -/

namespace Sys2Proof.Machine
open Sys2Proof

/-! ### What a motion's end and a trigger leave of the notices -/

section Notices
variable {s t u : State} {w : Window}

/-- R143: TRACE_READY and TRACE_LOST alone may have changed. -/
def TraceNotices (s t : State) : Prop :=
  ∃ ready lost, t.notices = { s.notices with b := { s.notices.b with traceReady := ready, traceLost := lost } }

namespace TraceNotices

theorem of_eq (h : t.notices = s.notices) : TraceNotices s t := ⟨_, _, h⟩

theorem of_readyAlone (h : ReadyAlone s t) : TraceNotices s t := by
  obtain ⟨v, _, ht⟩ := h
  exact ⟨v, _, ht⟩

theorem after (k : TraceNotices t u) (h : TraceNotices s t) : TraceNotices s u := by
  obtain ⟨v, x, ht⟩ := h
  obtain ⟨v', x', hu⟩ := k
  rw [ht] at hu
  exact ⟨v', x', hu⟩

theorem toIdle (s : State) (w : Window) : TraceNotices s (s.toIdle w) := .of_readyAlone (.toIdle s w)

theorem trigger (s : State) (w : Window) (k : TriggerKind) : TraceNotices s (s.trigger w k) := by
  unfold State.trigger
  dsimp only
  split
  · exact ⟨_, _, rfl⟩
  · exact of_eq rfl
  · unfold State.openRecord
    dsimp only
    have hcompleted : TraceNotices s ((s.advanceSequence).completeFilling w .overlap) :=
      .of_readyAlone (ReadyAlone.completeFilling (s.advanceSequence) w .overlap)
    split
    · exact hcompleted
    · refine TraceNotices.after ?_ hcompleted
      unfold State.completeBuffer
      split
      · exact ⟨true, _, rfl⟩
      · exact of_eq rfl
      · exact of_eq rfl

theorem detail (h : TraceNotices s t) : t.notices.d = s.notices.d := by
  obtain ⟨_, _, h⟩ := h
  rw [h]

theorem event {f : WindowEvents → Bool} (h : TraceNotices s t) (hs : eventNamed s.notices w f) : eventNamed t.notices w f := by
  obtain ⟨_, _, h⟩ := h
  intro p hp
  have hnamed := hs p hp
  rw [h]
  cases p with
  | b | d => exact hnamed
  | k => exact absurd rfl hp

theorem context (h : TraceNotices s t) (hs : contextNamed s.notices w) : contextNamed t.notices w := by
  obtain ⟨_, _, h⟩ := h
  rw [contextNamed, h]
  exact hs

end TraceNotices

theorem raiseWindowEvent_named {f : WindowEvents → Bool} {g : WindowEvents → WindowEvents} (h : ∀ e, f (g e) = true) :
    eventNamed (s.raiseWindowEvent w g).notices w f := by
  intro p hp
  cases p with
  | b | d => simp [State.raiseWindowEvent, State.onBD, Ports.get, h]
  | k => exact absurd rfl hp

theorem raiseContextChanged_named : contextNamed (s.raiseContextChanged w).notices w := by
  obtain ⟨d, hd, hw⟩ := contextChanged_named s w
  rw [contextNamed, hd]
  exact hw

theorem raiseContextChanged_event {f : WindowEvents → Bool} (h : eventNamed s.notices w f) :
    eventNamed (s.raiseContextChanged w).notices w f := by
  intro p hp
  cases p with
  | b => exact h .b hp
  | d => exact h .d hp
  | k => exact absurd rfl hp

end Notices

/-! ### The judgement of a stroke (R129, R130) -/

section Strokes
variable {s t u : State} {w : Window}

theorem quarterStep_eq (old sample : Nat) : quarterStep old sample = quarterTowards old sample := by
  unfold quarterStep quarterTowards roundedShift
  have hround : ((sample : Int) - old) / (2 ^ 2 : Nat) + ((sample : Int) - old) / (2 ^ (2 - 1) : Nat) % 2 =
      ((sample : Int) - old + 2) / 4 := by
    have hfour : ((2 ^ 2 : Nat) : Int) = 4 := rfl
    have htwo : ((2 ^ (2 - 1) : Nat) : Int) = 2 := rfl
    rw [hfour, htwo]
    omega
  rw [hround]

theorem Marks.spoiled_false (m : Marks) : m.spoiled = false ↔ m = ⟨false, false, false, false, false, false⟩ := by
  obtain ⟨a, b, c, d, e, f⟩ := m
  simp [Marks.spoiled, and_assoc]

theorem learnZones_getElem (k : Stroke) (zones : Vector (Option ZoneRef) 32) (z : Fin 32) :
    (learnZones k zones)[z] = zoneTaught k zones[z] z := by
  unfold learnZones zoneTaught
  rw [Fin.getElem_fin, Vector.getElem_ofFn]
  simp only [Fin.eta]
  cases k.samples[z] with
  | none => rfl
  | some x =>
    dsimp only
    split
    · cases zones[z] with
      | none => rfl
      | some o => simp only [teach, quarterStep_eq]
    · rfl

/-- R129, R130: a stroke is judged. -/
theorem State.judgeStroke_judged (s : State) (w : Window) : strokeJudged s (s.judgeStroke w) w := by
  unfold strokeJudged
  cases hstroke : (s.refsOf w).stroke with
  | none =>
    have hstill : s.judgeStroke w = s := by
      unfold State.judgeStroke
      simp only [hstroke]
    rw [hstill]
    exact ⟨hstroke, rfl, nofun, fun _ => ⟨rfl, rfl⟩⟩
  | some k =>
    have hjudged : s.judgeStroke w = if !k.marks.spoiled && teaches k then
        (s.setRefs w { s.refsOf w with
          zones := learnZones k (s.refsOf w).zones, learned := satAdd 255 (s.refsOf w).learned 1
          stroke := none }).raiseContextChanged w
      else s.endStroke w := by
      unfold State.judgeStroke
      simp only [hstroke]
    have hteaches : (k.marks = ⟨false, false, false, false, false, false⟩ ∧ (List.finRange 32).any (fun z =>
        k.samples[z].isSome && decide (z.val ≤ k.pz / 2 ^ k.zs)) = true) ↔ (!k.marks.spoiled && teaches k) = true := by
      rw [Bool.and_eq_true, Bool.not_eq_true', Marks.spoiled_false]
      rfl
    by_cases h : (!k.marks.spoiled && teaches k) = true
    · rw [if_pos h] at hjudged
      have hrefs : (s.judgeStroke w).refsOf w = { s.refsOf w with
          zones := learnZones k (s.refsOf w).zones, learned := satAdd 255 (s.refsOf w).learned 1, stroke := none } := by
        rw [hjudged]
        exact State.setRefs_self s w _
      have hnamed : contextNamed (s.judgeStroke w).notices w := by
        rw [hjudged]
        exact raiseContextChanged_named
      rw [hrefs]
      refine ⟨rfl, rfl, fun k' hk' => ?_, nofun⟩
      cases hk'
      rw [if_pos (hteaches.mpr h)]
      exact ⟨fun z => learnZones_getElem k _ z, rfl, hnamed⟩
    · rw [if_neg h] at hjudged
      have hrefs : (s.judgeStroke w).refsOf w = { s.refsOf w with stroke := none } := by
        rw [hjudged]
        exact State.setRefs_self s w _
      rw [hrefs]
      refine ⟨rfl, rfl, fun k' hk' => ?_, nofun⟩
      cases hk'
      rw [if_neg (mt hteaches.mp h)]
      exact ⟨rfl, rfl⟩

/-- A stroke has been judged, whatever else has happened. -/
theorem strokeJudged.seen (h : strokeJudged u t w) (hs : u.refsOf w = s.refsOf w) {t' : State}
    (ht : t'.refsOf w = { t.refsOf w with stroke := none }) (hn : TraceNotices t t') : strokeJudged s t' w := by
  obtain ⟨_, hpending, hlearned, hkept⟩ := h
  unfold strokeJudged
  rw [ht]
  rw [hs] at hpending hlearned hkept
  refine ⟨rfl, hpending, fun k hk => ?_, hkept⟩
  have hjudged := hlearned k hk
  split
  next hteaches =>
    rw [if_pos hteaches] at hjudged
    exact ⟨hjudged.1, hjudged.2.1, hn.context hjudged.2.2⟩
  next hteaches =>
    rw [if_neg hteaches] at hjudged
    exact hjudged

end Strokes

/-! ### Each row of a stall (R98) -/

theorem State.setWin_same (t : State) (w : Window) : t.setWin w (t.winRec w) = t := by
  rw [State.setWin, State.winRec, Windows.set_get]

section Rows
variable {s t u : State} {w : Window}

theorem SameFor.keptCal (h : SameFor w s u) : keptCal u w = keptCal s w := by
  unfold Machine.keptCal
  rw [h.pinch, h.cal]

theorem State.takeStall_none (h : (u.winRec w).motion.drivenDir = none) : u.takeStall w = u := by
  unfold State.takeStall
  simp only [h]

theorem State.takeStall_up {p : Int} (h : (u.winRec w).motion.drivenDir = some .up) (hn : (u.winRec w).normalised = true)
    (hp : (u.winRec w).position = some p) : u.takeStall w = if p ≤ 8 then u.topStop w p
      else if p ≤ (keptCal u w).pz then u.takePinch w .stall p else u.unexpectedStall w := by
  unfold State.takeStall
  simp only [h, hn, hp]
  rfl

theorem State.takeStall_upBlind (h : (u.winRec w).motion.drivenDir = some .up) (hn : (u.winRec w).normalised = false) :
    u.takeStall w = u.normalise w := by
  unfold State.takeStall
  simp only [h, hn]

theorem State.takeStall_down {p : Int} (h : (u.winRec w).motion.drivenDir = some .down)
    (hn : (u.winRec w).normalised = true) (hp : (u.winRec w).position = some p) :
    u.takeStall w = if ((keptCal u w).l : Int) - 16 ≤ p then u.bottomReached w else u.unexpectedStall w := by
  unfold State.takeStall
  simp only [h, hn, hp]
  rfl

theorem State.takeStall_downBlind (h : (u.winRec w).motion.drivenDir = some .down)
    (hn : (u.winRec w).normalised = false) : u.takeStall w = u.toIdle w := by
  unfold State.takeStall
  simp only [h, hn]

theorem SameAt.trigger (s : State) (w : Window) (k : TriggerKind) : SameAt w s (s.trigger w k) := by
  have hframe := State.trigger_only s w k
  have hwin : (s.trigger w k).win = s.win := hframe.same .win (by decide)
  have hpinch : (s.trigger w k).pinch = s.pinch := hframe.same .pinch (by decide)
  have hrefs : (s.trigger w k).refs = s.refs := hframe.same .refs (by decide)
  have hmon : (s.trigger w k).mon = s.mon := hframe.same .mon (by decide)
  exact ⟨by simp only [State.winRec, hwin], by simp only [State.pinchOf, hpinch], by simp only [State.refsOf, hrefs],
    by rw [State.trigger_rings], by simp only [State.chan, hmon]⟩

/-- R98: an unexpected stall ends the motion. -/
theorem StallEnded.of_stall (hs : SameFor w s u) (htrace : u.trace = s.trace) :
    StallEnded s (u.unexpectedStall w) w (u.winRec w) := by
  obtain ⟨v, hv⟩ : ∃ v, v = (u.toIdle w).raiseWindowEvent w (fun e => { e with stall := true }) := ⟨_, rfl⟩
  have hended : u.unexpectedStall w = v.trigger w .stall := by rw [hv]; rfl
  have hraised : Only [.notices] (u.toIdle w) v := hv ▸ State.raiseWindowEvent_only _ w _
  have htriggered := State.trigger_only v w .stall
  have hsequence : v.trace.sequence = s.trace.sequence := by
    rw [Eq.trans (hraised.same .trace (by decide)) (State.completeFilling_trace _ w .stopped), ← htrace]
    rfl
  rw [hended]
  refine ⟨?_, (TraceNotices.trigger v w .stall).event (hv ▸ raiseWindowEvent_named fun _ => rfl), ?_⟩
  · have hsame : SameAt w (u.toIdle w) (v.trigger w .stall) :=
      (SameAt.trigger v w .stall).after (.of_only hraised rfl)
    refine (u.toIdle_ended w).seenFor hs hsame ?_
    rw [Eq.trans (htriggered.same .now (by decide)) (hraised.same .now (by decide))]
  · rw [State.trigger_sequence, hsequence]

/-- R102: a pinch pauses the run for its REVERSE. -/
theorem PinchTaken.of_pinch (hs : SameFor w s u) (htrace : u.trace = s.trace) (x : PinchCause) (p : Int) :
    PinchTaken s (u.takePinch w x p) w (u.winRec w) p x := by
  obtain ⟨m, hm⟩ : ∃ m, m = u.markStroke w (fun m => { m with pinch := true }) := ⟨_, rfl⟩
  obtain ⟨q, hq⟩ : ∃ q : Pending, q = .reverse (min (p + (keptCal s w).reversal) (keptCal s w).l) := ⟨_, rfl⟩
  obtain ⟨r, hr⟩ : ∃ r, r = { (m.toDwell w q).winRec w with
      pinchCount := satAdd 3 ((m.toDwell w q).winRec w).pinchCount 1
      limited := ((m.toDwell w q).winRec w).limited ||
        decide (satAdd 3 ((m.toDwell w q).winRec w).pinchCount 1 = 3) } := ⟨_, rfl⟩
  obtain ⟨v, hv⟩ : ∃ v, v = ((m.toDwell w q).setWin w r).raiseWindowEvent w (fun e => { e with pinch := some x }) :=
    ⟨_, rfl⟩
  obtain ⟨k, hk⟩ : ∃ k, k = (match x with | .effort => TriggerKind.pinchEffort | .stall => .pinchStall) := ⟨_, rfl⟩
  have htaken : u.takePinch w x p = v.trigger w k := by
    have hdwell : m.toDwell w q = (u.markStroke w (fun m => { m with pinch := true })).toDwell w
        (.reverse (min (p + (u.runCal w).reversal) (u.runCal w).l)) := by
      rw [hq, ← hs.keptCal, hm]
      rfl
    rw [hk, hv, hr, hdwell]
    unfold State.takePinch
    rfl
  have hraised : Only [.notices] ((m.toDwell w q).setWin w r) v := hv ▸ State.raiseWindowEvent_only _ w _
  have hsame : SameAt w ((m.toDwell w q).setWin w r) (v.trigger w k) :=
    (SameAt.trigger v w k).after (.of_only hraised rfl)
  have hpaused := m.toDwell_paused w q
  have hnow : (v.trigger w k).now = (m.toDwell w q).now := by
    rw [Eq.trans ((State.trigger_only v w k).same .now (by decide)) (hraised.same .now (by decide))]
    rfl
  have hmrec : m.winRec w = u.winRec w := by rw [hm]; rfl
  have hmchan : m.chan (.w w) = s.chan (.w w) := by rw [← hs.chan, hm]; rfl
  have hmring : m.trace.rings.get w = s.trace.rings.get w := by rw [← hs.ring, hm]; rfl
  have hmrefs : { m.refsOf w with stroke := none } = { s.refsOf w with stroke := none } := by
    rw [← hs.refs, hm, State.markStroke, State.setRefs_self]
  have hlimited : decide (satAdd 3 (u.winRec w).pinchCount 1 = 3) = decide (2 ≤ (u.winRec w).pinchCount) :=
    decide_eq_decide.mpr (by unfold satAdd; omega)
  rw [htaken]
  refine ⟨⟨?_, ?_, ?_, ?_⟩, (TraceNotices.trigger v w k).event (hv ▸ raiseWindowEvent_named fun _ => by simp), ?_⟩
  · rw [hsame.record, State.setWin_self, hr, hpaused.record, hmrec, hlimited, hnow, hq]
    rfl
  · rw [hsame.chan, State.setWin_chan, hpaused.bridge, hmchan]
  · rw [hsame.refs, State.setWin_refsOf, hpaused.refs, hmrefs]
  · rw [hsame.ring, ← hmring, ← hpaused.ring]
    rfl
  · rw [State.trigger_sequence, hv, ← htrace, hm]
    rfl

/-- R98: the top stop normalises the position, has the stroke judged and ends the motion. -/
theorem State.topStop_taken (hs : SameFor w s u) (htrace : u.trace = s.trace) (p : Int) :
    (u.topStop w p).winRec w = { u.winRec w with
      position := some 0, topCorrection := some p, pinchCount := 0, limited := false, motion := .idle
      startWindow := none, stall := none, stallReached := false, dwell := none
      brake := some ((u.winRec w).dwell.getD ((u.topStop w p).now + 500)) } ∧
    (u.topStop w p).chan (.w w) = (s.chan (.w w)).finished .brake ∧ fillingStopped s (u.topStop w p) (· = w) ∧
    strokeJudged s (u.topStop w p) w := by
  obtain ⟨v, hv⟩ : ∃ v, v = u.setWin w { u.winRec w with
      topCorrection := some p, position := some 0, pinchCount := 0, limited := false } := ⟨_, rfl⟩
  have hstop : u.topStop w p = (v.judgeStroke w).toIdle w := by rw [hv]; rfl
  have hframe := State.judgeStroke_only v w
  have hended := (v.judgeStroke w).toIdle_ended w
  have hrec : (v.judgeStroke w).winRec w = v.winRec w := by rw [State.winRec, hframe.same .win (by decide)]; rfl
  have hvrec : v.winRec w = { u.winRec w with
      topCorrection := some p, position := some 0, pinchCount := 0, limited := false } := by
    rw [hv, State.setWin_self]
  have hchan : (v.judgeStroke w).chan (.w w) = s.chan (.w w) := by
    rw [← hs.chan, State.chan, hframe.same .mon (by decide), hv]
    rfl
  rw [hstop]
  refine ⟨?_, ?_, ?_, ?_⟩
  · rw [hended.record, hrec, hvrec]
  · rw [hended.bridge, hchan]
  · refine (Completes.toIdle _ w).stoppedAt (Eq.trans (hframe.same .trace (by decide)) ?_) rfl
    rw [hv, ← htrace]
    rfl
  · refine (State.judgeStroke_judged v w).seen ?_ hended.refs (.toIdle _ w)
    rw [← hs.refs, hv]
    rfl

/-- R98: the stall of an unnormalised up-run. -/
theorem State.normalise_taken (hs : SameFor w s u) (htrace : u.trace = s.trace) :
    RunEnded s (u.normalise w) w { u.winRec w with position := some 0, normalised := true, topCorrection := none } ∧
    fillingStopped s (u.normalise w) (· = w) ∧ eventNamed (u.normalise w).notices w (·.normalised) ∧
    contextNamed (u.normalise w).notices w := by
  obtain ⟨r, hr⟩ : ∃ r, r = { u.winRec w with position := some 0, normalised := true, topCorrection := none } := ⟨_, rfl⟩
  obtain ⟨e, he⟩ : ∃ e : State, e = ((u.setWin w r).toIdle w).raiseWindowEvent w (fun e => { e with normalised := true }) :=
    ⟨_, rfl⟩
  have hnormalised : u.normalise w = e.raiseContextChanged w := by rw [he, hr]; rfl
  have hraised : Only [.notices] ((u.setWin w r).toIdle w) (e.raiseContextChanged w) :=
    Only.after (State.raiseContextChanged_only e w) rfl (he ▸ State.raiseWindowEvent_only _ w _)
  have hended := (u.setWin w r).toIdle_ended w
  rw [State.setWin_self] at hended
  rw [hnormalised, ← hr]
  refine ⟨hended.seenFor ((SameFor.of_only (State.setWin_only u w r)).after hs) (.of_only hraised rfl)
    (hraised.same .now (by decide)), ?_, ?_, raiseContextChanged_named⟩
  · exact (Completes.toIdle (u.setWin w r) w).stoppedAt htrace (hraised.same .trace (by decide))
  · exact raiseContextChanged_event (he ▸ raiseWindowEvent_named fun _ => rfl)

/-- R98, R99: the bottom is reached: the record is written and the motion ends. -/
theorem State.bottomReached_eq (hdriven : (u.winRec w).motion.drivenDir = some .down) :
    u.bottomReached w = (u.setWin w (bottomRecord (u.winRec w))).toIdle w := by
  unfold State.bottomReached
  extract_lets r full counted
  have hfull : full = fullDownRun r := by
    unfold full fullDownRun
    split
    next k hk =>
      unfold State.startedAtTop
      rw [hk]
      cases r.startPosition <;> rfl
    next hm => rw [hm] at hdriven; cases hdriven
    next hm => rw [hm] at hdriven; cases hdriven
    next hm => rw [hm]; rfl
    next hm => rw [hm] at hdriven; cases hdriven
  have hcounted : counted = u.setWin w (bottomRecord r) := by
    unfold counted bottomRecord
    rw [hfull]
    split
    · rfl
    · exact (State.setWin_same u w).symm
  rw [hcounted]

theorem Completes.bottomReached (hdriven : (u.winRec w).motion.drivenDir = some .down) :
    Completes u (u.bottomReached w) (fun v => v = w) .stopped := by
  rw [State.bottomReached_eq hdriven]
  exact (Completes.toIdle (u.setWin w (bottomRecord (u.winRec w))) w).of_eq rfl rfl

theorem RunEnded.of_bottom (hs : SameFor w s u) (hdriven : (u.winRec w).motion.drivenDir = some .down) :
    RunEnded s (u.bottomReached w) w (bottomRecord (u.winRec w)) := by
  have hended := (u.setWin w (bottomRecord (u.winRec w))).toIdle_ended w
  rw [State.setWin_self] at hended
  rw [State.bottomReached_eq hdriven]
  exact hended.seenFor ((SameFor.of_only (State.setWin_only u w _)).after hs) (.refl w _) rfl

/-- R98: a stall is judged by its row. -/
theorem StallTaken.of_stall (hs : SameFor w s u) (hblocks : SameBlocks s u) :
    StallTaken s (u.takeStall w) w (u.winRec w) := by
  have htrace := hblocks.trace
  constructor
  case none =>
    intro hdriven
    rw [State.takeStall_none hdriven]
    exact hblocks.recordOnly (SameRuns.of_only (Only.refl [] u)) rfl
  case top =>
    intro hdriven p hp hn h8
    rw [State.takeStall_up hdriven hn hp, if_pos h8]
    exact State.topStop_taken hs htrace p
  case unnormalised =>
    intro hdriven hn
    rw [State.takeStall_upBlind hdriven hn]
    exact State.normalise_taken hs htrace
  case pinch =>
    intro hdriven p hp hn h8 hpz
    rw [State.takeStall_up hdriven hn hp, if_neg (by omega), hs.keptCal, if_pos hpz]
    exact .of_pinch hs htrace .stall p
  case above =>
    intro hdriven p hp hn h8 hpz
    rw [State.takeStall_up hdriven hn hp, if_neg (by omega), hs.keptCal, if_neg (by omega)]
    exact .of_stall hs htrace
  case bottom =>
    intro hdriven p hp hn hl
    rw [State.takeStall_down hdriven hn hp, hs.keptCal, if_pos (by omega)]
    have hnotices : TraceNotices u (u.bottomReached w) := by
      rw [State.bottomReached_eq hdriven]
      exact (TraceNotices.toIdle _ w).after (.of_eq rfl)
    exact ⟨.of_bottom hs hdriven, (Completes.bottomReached hdriven).stoppedAt htrace rfl,
      hnotices.detail.trans (congrArg Ports.d hblocks.notices)⟩
  case short =>
    intro hdriven p hp hn hl
    rw [State.takeStall_down hdriven hn hp, hs.keptCal, if_neg (by omega)]
    exact .of_stall hs htrace
  case blind =>
    intro hdriven hn
    rw [State.takeStall_downBlind hdriven hn]
    exact ⟨(u.toIdle_ended w).seenFor hs (.refl w _) rfl, (Completes.toIdle u w).stoppedAt htrace rfl,
      (TraceNotices.toIdle u w).detail.trans (congrArg Ports.d hblocks.notices)⟩

/-- Settles O49: inside the start window a stall is noted; any other is judged by its row. -/
theorem stalls : Obligations.Stalls := by
  have htaken : ∀ (s u : State) (w : Window) (n : Nat) (r : WindowRec), u = (s.reach n).setWin w r →
      SameFor w s u ∧ SameBlocks s u ∧ Only [.now, .win] s u ∧ u.winRec w = r ∧ u.now = max s.now n ∧ OnlyWindow s u w :=
    fun s u w n r hu => by
      have hframe : Only [.now, .win] s u :=
        hu ▸ Only.after (State.setWin_only (s.reach n) w r) rfl ((State.reach_only s n).mono rfl)
      refine ⟨.of_only hframe, .of_only hframe, hframe, by rw [hu, State.setWin_self], by rw [hu]; rfl, ?_⟩
      rw [hu]
      exact (OnlyWindow.setWin _ w r).after (.reach s w n)
  refine fun s w hl => ⟨fun d hd => ?_, fun d hd => ?_⟩
  · have hrec : (s.reach d).winRec w = s.winRec w := rfl
    have hended : exec (.stallTimerExpiry w) s = .next (if (s.winRec w).startWindow.isSome then
        (s.reach d).setWin w { s.winRec w with stall := none, stallReached := true }
      else ((s.reach d).setWin w { s.winRec w with stall := none }).takeStall w) := by
      refine congrArg Host.Outcome.next ((State.live_of_not_held hl _).trans ?_)
      rw [State.stallEnd, hd]
      rfl
    refine ⟨_, hended, ?_⟩
    split
    · obtain ⟨u, hu⟩ : ∃ u, u = (s.reach d).setWin w { s.winRec w with stall := none, stallReached := true } := ⟨_, rfl⟩
      obtain ⟨_, hblocks, hframe, hurec, hnow, hone⟩ := htaken s u w d _ hu
      rw [← hu]
      exact ⟨hframe.mono rfl, hnow, hone, hurec ▸ hblocks.recordOnly (SameRuns.of_only (Only.refl [] u)) rfl⟩
    · obtain ⟨u, hu⟩ : ∃ u, u = (s.reach d).setWin w { s.winRec w with stall := none } := ⟨_, rfl⟩
      obtain ⟨hfor, hblocks, hframe, hurec, hnow, hone⟩ := htaken s u w d _ hu
      have hrest := State.takeStall_only u w
      rw [← hu]
      exact ⟨Only.after hrest rfl (hframe.mono rfl), Eq.trans (hrest.same .now (by decide)) hnow,
        (OnlyWindow.takeStall u w).after hone, hurec ▸ StallTaken.of_stall hfor hblocks⟩
  · obtain ⟨u, hu⟩ : ∃ u, u = (s.reach d).setWin w { s.winRec w with startWindow := none, stallReached := false } := ⟨_, rfl⟩
    obtain ⟨hfor, hblocks, hframe, hurec, hnow, hone⟩ := htaken s u w d _ hu
    have hended : exec (.startWindowEnd w) s = .next (if (s.winRec w).stallReached then u.takeStall w else u) := by
      refine congrArg Host.Outcome.next ((State.live_of_not_held hl _).trans ?_)
      rw [State.startEnd, hd, hu]
      rfl
    refine ⟨_, hended, ?_⟩
    split
    · have hrest := State.takeStall_only u w
      exact ⟨Only.after hrest rfl (hframe.mono rfl), Eq.trans (hrest.same .now (by decide)) hnow,
        (OnlyWindow.takeStall u w).after hone, hurec ▸ StallTaken.of_stall hfor hblocks⟩
    · exact ⟨hframe.mono rfl, hnow, hone, hurec ▸ hblocks.recordOnly (SameRuns.of_only (Only.refl [] u)) rfl⟩

end Rows

end Sys2Proof.Machine
end

section
/-! A ripple pulse (R87, R97, R99, R118). -/

namespace Sys2Proof.Machine
open Sys2Proof

section Ripple
variable {s t u : State} {w : Window}

/-- The state on which a pulse counts: the interval is noted and the stall timer restarted. -/
def State.pulsed (s : State) (w : Window) : State :=
  (s.pulseTiming w).setWin w { s.winRec w with stall := some (s.now + 800), stallReached := false }

theorem State.pulsed_only (s : State) (w : Window) : Only [.win, .pinch] s (s.pulsed w) :=
  Only.after (State.setWin_only _ w _) rfl ((State.pulseTiming_only s w).mono rfl)

theorem State.pulsed_winRec : (s.pulsed w).winRec w = { s.winRec w with stall := some (s.now + 800), stallReached := false } :=
  State.setWin_self _ w _

theorem State.pulsed_pinchOf : (s.pulsed w).pinchOf w = if (s.winRec w).motion.drivenDir = none then s.pinchOf w
    else { s.pinchOf w with lastInterval := min 255 (s.now - (s.pinchOf w).pulseBase), pulseBase := s.now } := by
  show (s.pulseTiming w).pinchOf w = _
  unfold State.pulseTiming
  cases (s.winRec w).motion.drivenDir with
  | none => rfl
  | some d => exact State.setPinch_self s w _

theorem State.pulsed_keptCal : keptCal (s.pulsed w) w = keptCal s w := by
  have hcal : (s.pulsed w).calOf w = s.calOf w := by
    rw [State.calOf, (State.pulsed_only s w).same .config (by decide)]
    rfl
  unfold keptCal
  rw [hcal, State.pulsed_pinchOf]
  split <;> rfl

/-- R87: a pulse counts on a normalised window with a direction. -/
theorem State.ripple_eq (s : State) (w : Window) :
    s.ripple w = match (s.winRec w).normalised, (s.winRec w).position, State.countDir (s.winRec w) with
      | true, some p, some dir => (s.pulsed w).count w dir p
      | _, _, _ => s.pulsed w := by
  have hrec : (s.pulseTiming w).winRec w = s.winRec w := by
    rw [State.winRec, (State.pulseTiming_only s w).same .win (by decide)]
    rfl
  have hnow : (s.pulseTiming w).now = s.now := (State.pulseTiming_only s w).same .now (by decide)
  have hpulsed : (s.pulseTiming w).setWin w { (s.pulseTiming w).winRec w with
      stall := some ((s.pulseTiming w).now + Config.stallTime), stallReached := false } = s.pulsed w := by
    rw [hrec, hnow]
    rfl
  unfold State.ripple
  dsimp only
  rw [hpulsed, State.pulsed_winRec]
  rfl

theorem Motion.targetReached_drivenDir {m : Motion} {c : Cal} {p : Int} (h : State.targetReached m c p = true) :
    m.drivenDir = some .down := by
  cases m with
  | run k =>
    simp only [State.targetReached, Bool.and_eq_true, decide_eq_true_eq] at h
    exact congrArg some h.1
  | reverse _ => rfl
  | idle | dwell _ | inhibited => cases h

/-- The record of a window that has lost its normalisation. -/
def lostRecord (r : WindowRec) : WindowRec := { r with position := none, normalised := false, topCorrection := none }

/-- R87: below −64 the normalisation is lost, with the events named; a run ends. -/
theorem State.loseNormalisation_taken (u : State) (w : Window) :
    (∀ k, (u.winRec w).motion = .run k →
      (u.loseNormalisation w).chan (.w w) = (u.chan (.w w)).finished .brake ∧
      Completes u (u.loseNormalisation w) (fun v => v = w) .stopped ∧ ((u.loseNormalisation w).refsOf w).stroke = none ∧
      (u.loseNormalisation w).winRec w = { lostRecord (u.winRec w) with
        motion := .idle, startWindow := none, stall := none, stallReached := false, dwell := none
        brake := some ((u.winRec w).dwell.getD (u.now + 500)) }) ∧
    ((∀ k, (u.winRec w).motion ≠ .run k) → (u.loseNormalisation w).winRec w = lostRecord (u.winRec w)) ∧
    ((u.loseNormalisation w).refsOf w).zones = (u.refsOf w).zones ∧
    ((u.loseNormalisation w).refsOf w).learned = (u.refsOf w).learned ∧
    eventNamed (u.loseNormalisation w).notices w (·.unnormalised) ∧ contextNamed (u.loseNormalisation w).notices w := by
  obtain ⟨m, hm⟩ : ∃ m, m = (u.setWin w (lostRecord (u.winRec w))).markStroke w (fun x => { x with unnormalised := true }) :=
    ⟨_, rfl⟩
  have hmrec : m.winRec w = lostRecord (u.winRec w) := by
    rw [hm]
    exact State.setWin_self u w _
  have hmrefs : m.refsOf w = { u.refsOf w with
      stroke := (u.refsOf w).stroke.map (fun k => { k with marks := { k.marks with unnormalised := true } }) } := by
    rw [hm]
    exact State.setRefs_self _ w _
  have hmtrace : m.trace = u.trace := by rw [hm]; rfl
  have hmchan : m.chan (.w w) = u.chan (.w w) := by rw [hm]; rfl
  have hmnow : m.now = u.now := by rw [hm]; rfl
  have hended := m.toIdle_ended w
  obtain ⟨e, he, hrun, hother⟩ : ∃ e, u.loseNormalisation w =
      (e.raiseWindowEvent w (fun x => { x with unnormalised := true })).raiseContextChanged w ∧
      (∀ k, (u.winRec w).motion = .run k → e = m.toIdle w) ∧ ((∀ k, (u.winRec w).motion ≠ .run k) → e = m) := by
    unfold State.loseNormalisation
    extract_lets before lost marked stopped
    have hmarked : marked = m := hm.symm
    have hmotion : (m.winRec w).motion = (u.winRec w).motion := by rw [hmrec]; rfl
    refine ⟨stopped, rfl, fun k hk => ?_, fun hnot => ?_⟩
    · simp only [stopped, hmarked, hmotion, hk]
    · cases hk : (u.winRec w).motion with
      | run k => exact absurd hk (hnot k)
      | idle | dwell _ | reverse _ | inhibited => simp only [stopped, hmarked, hmotion, hk]
  have hraised : Only [.notices] e (u.loseNormalisation w) :=
    he ▸ Only.after (State.raiseContextChanged_only _ w) rfl (State.raiseWindowEvent_only e w _)
  have hat : SameAt w e (u.loseNormalisation w) := .of_only hraised rfl
  have hkept : ((u.loseNormalisation w).refsOf w).zones = (u.refsOf w).zones ∧
      ((u.loseNormalisation w).refsOf w).learned = (u.refsOf w).learned := by
    rw [hat.refs]
    by_cases hk : ∃ k, (u.winRec w).motion = .run k
    · obtain ⟨k, hk⟩ := hk
      rw [hrun k hk, hended.refs, hmrefs]
      exact ⟨rfl, rfl⟩
    · rw [hother (fun k h => hk ⟨k, h⟩), hmrefs]
      exact ⟨rfl, rfl⟩
  refine ⟨fun k hk => ?_, fun hnot => ?_, hkept.1, hkept.2, ?_, ?_⟩
  · have hstopped := hrun k hk
    rw [hat.chan, hat.refs, hat.record, hstopped, hended.bridge, hended.refs, hended.record, hmchan, hmrec, State.toIdle_now,
      hmnow]
    refine ⟨rfl, ?_, rfl, rfl⟩
    exact (Completes.toIdle m w).of_eq hmtrace.symm (Eq.trans (hraised.same .trace (by decide)) (by rw [hstopped]))
  · rw [hat.record, hother hnot, hmrec]
  · rw [he]
    exact raiseContextChanged_event (raiseWindowEvent_named fun _ => rfl)
  · rw [he]
    exact raiseContextChanged_named

theorem bottomRecord_position (r : WindowRec) (x : Option Int) :
    bottomRecord { r with position := x } = { bottomRecord r with position := x } := by
  have hfull : fullDownRun { r with position := x } = fullDownRun r := rfl
  unfold bottomRecord
  rw [hfull]
  split <;> rfl

theorem bottomRecord_dwell (r : WindowRec) : (bottomRecord r).dwell = r.dwell := by
  unfold bottomRecord
  split <;> rfl

theorem heldRun_driven (m : Motion) : (m.heldRun.isSome = true ∧ m.drivenDir ≠ none) ↔ ∃ k, m = .run k := by
  cases m with
  | run k => simp [Motion.heldRun, Motion.drivenDir]
  | dwell p => cases p <;> simp [Motion.heldRun, Motion.drivenDir]
  | idle | reverse _ | inhibited => simp [Motion.heldRun]

theorem ite_of_eq {b c : Bool} {A B : Prop} (h : b = c) (hc : if c = true then A else B) : if b = true then A else B :=
  h ▸ hc

/-- Settles O48: a pulse is noted, and then counts in its direction where the window is normalised. -/
theorem ripplePulse : Obligations.RipplePulse := by
  intro s w hl r hr dir hdir
  obtain ⟨u, hu⟩ : ∃ u, u = s.pulsed w := ⟨_, rfl⟩
  have hframe : Only [.win, .pinch] s u := hu ▸ State.pulsed_only s w
  have hurec : u.winRec w = r := by rw [hu, State.pulsed_winRec, hr]
  have hmotion : r.motion = (s.winRec w).motion := by rw [hr]
  have hupinch : u.pinchOf w = if r.motion.drivenDir = none then s.pinchOf w
      else { s.pinchOf w with lastInterval := min 255 (s.now - (s.pinchOf w).pulseBase), pulseBase := s.now } := by
    rw [hu, State.pulsed_pinchOf, hmotion]
  have hkept : keptCal u w = keptCal s w := by rw [hu, State.pulsed_keptCal]
  have humon : u.mon = s.mon := hframe.same .mon (by decide)
  have hurefs : u.refs = s.refs := hframe.same .refs (by decide)
  have hutrace : u.trace = s.trace := hframe.same .trace (by decide)
  have hunotices : u.notices = s.notices := hframe.same .notices (by decide)
  have hunow : u.now = s.now := hframe.same .now (by decide)
  have huchan : u.chan (.w w) = s.chan (.w w) := by simp only [State.chan, humon]
  have hcount : dir = State.countDir (s.winRec w) := by rw [hdir, hr]; rfl
  have hexec : exec (.ripplePulse w) s = .next (s.ripple w) :=
    congrArg Host.Outcome.next (State.live_of_not_held hl _)
  have hripple := State.ripple_eq s w
  rw [← hcount, ← hu] at hripple
  have hpinch : (s.ripple w).pinchOf w = u.pinchOf w := by
    rw [hripple]
    split
    · rw [State.pinchOf, (State.count_only u w _ _).same .pinch (by decide)]
      rfl
    · rfl
  refine ⟨s.ripple w, hexec, State.ripple_only s w, .ripple s w, hpinch.trans hupinch, fun hnone => ?_,
    fun hn p hp => ?_⟩
  · have hstill : s.ripple w = u := by
      rw [hripple]
      rcases hnone with hnone | hnone
      · have hnone' : (s.winRec w).normalised = false := by rw [← hnone, hr]
        simp only [hnone']
      · rw [hnone]
        split
        next h => cases h
        next => rfl
    rw [hstill]
    exact ⟨hurec, humon, hurefs⟩
  · have hcounts : ∀ d, dir = some d → s.ripple w = u.count w d p := fun d hd => by
      have hn' : (s.winRec w).normalised = true := by rw [← hn, hr]
      have hp' : (s.winRec w).position = some p := by rw [← hp, hr]
      rw [hripple, hd]
      simp only [hn', hp']
    refine ⟨fun hd hlow => ?_, fun hd hlow => ?_, fun hd => ?_⟩
    · rw [hcounts _ hd, State.count]
      simp only [if_neg (show ¬ p - 1 < -64 by omega), hurec]
      exact ⟨State.setWin_self u w _, humon, hurefs, hunotices⟩
    · have hlost : s.ripple w = u.loseNormalisation w := by
        rw [hcounts _ hd, State.count]
        simp only [if_pos (show p - 1 < -64 by omega)]
      obtain ⟨hrun, hother, hzones, hlearned, hevent, hcontext⟩ := u.loseNormalisation_taken w
      have hurefsOf : u.refsOf w = s.refsOf w := by simp only [State.refsOf, hurefs]
      rw [hurec] at hrun hother
      rw [hlost]
      refine ⟨fun k hk => ?_, ?_, by rw [hzones, hurefsOf], by rw [hlearned, hurefsOf], hevent, hcontext⟩
      · obtain ⟨hchan, hfilling, hstroke, _⟩ := hrun k hk
        exact ⟨by rw [hchan, huchan], hfilling.stoppedAt hutrace rfl, hstroke⟩
      · rw [← hmotion]
        split
        next h =>
          obtain ⟨k, hk⟩ := (heldRun_driven _).mp h
          rw [(hrun k hk).2.2.2, hunow]
          rfl
        next h =>
          exact hother fun k hk => h ((heldRun_driven _).mpr ⟨k, hk⟩)
    · obtain ⟨v, hv⟩ : ∃ v, v = u.setWin w { r with position := some (min 4095 (p + 1)) } := ⟨_, rfl⟩
      have hvrec : v.winRec w = { r with position := some (min 4095 (p + 1)) } := by rw [hv, State.setWin_self]
      have hvkept : v.runCal w = keptCal s w := by rw [← hkept, hv]; rfl
      have hdown : s.ripple w = if State.targetReached r.motion (keptCal s w) (min 4095 (p + 1)) then v.bottomReached w
          else v := by
        rw [hcounts _ hd, State.count, hurec]
        dsimp only
        rw [← hv, hvrec, hvkept]
      refine ite_of_eq (c := State.targetReached r.motion (keptCal s w) (min 4095 (p + 1))) (by cases r.motion <;> rfl) ?_
      rw [hdown]
      split
      next hreached =>
        have hdriven : (v.winRec w).motion.drivenDir = some .down := by
          rw [hvrec]
          exact Motion.targetReached_drivenDir hreached
        have hended := RunEnded.of_bottom (SameFor.refl w v) hdriven
        have hnow : (v.bottomReached w).now = s.now := by
          rw [← hunow]
          exact Eq.trans ((State.bottomReached_only v w).same .now (by decide)) (by rw [hv]; rfl)
        refine ⟨?_, ?_, ?_⟩
        · rw [hended.record, hvrec, bottomRecord_position, hnow, ← bottomRecord_dwell r]
        · rw [hended.bridge, ← huchan, hv]
          rfl
        · exact (Completes.bottomReached hdriven).stoppedAt (by rw [← hutrace, hv]; rfl) rfl
      next h =>
        rw [hvrec]
        exact ⟨rfl, by rw [← humon, hv]; rfl, by rw [← hurefs, hv]; rfl⟩

end Ripple

end Sys2Proof.Machine
end

section
/-! Commands that the ports offer to the lock sequencer (R21 to R23, R40), and what the relock timer and the heat tick do
(R32, R39). -/

namespace Sys2Proof.Machine
open Sys2Proof

/-! ### A request that offers a command -/

section Offered
variable {s : State} {k : Kind} {p : Port} {tag : Byte} {q : List Byte} {c : Command}

theorem exec_offered (hk : s.canTake p) (hd : s.decoderRefusal k p q = none) (ho : ownerOf k p tag q s = s.offerReply c) :
    exec (k.command p tag q) s = .next { s.offer c with
      ports := (s.offer c).ports.set p (answered tag (s.offerCode c) []) } :=
  exec_owned hk hd ho

theorem exec_offer_refused (hk : s.canTake p) (hd : s.decoderRefusal k p q = none)
    (ho : ownerOf k p tag q s = s.offerReply c) {code : Code} (h : s.acceptance c = some code) :
    exec (k.command p tag q) s = .next { s with ports := s.ports.set p (answered tag code []) } := by
  rw [exec_offered hk hd ho, State.offer_refused h, State.offerCode_refused h]

/-- R23, R33: a lock-class command that the checks let pass, on an empty queue. -/
theorem exec_offer_taken (hk : s.canTake p) (hd : s.decoderRefusal k p q = none)
    (ho : ownerOf k p tag q s = s.offerReply c) (h : s.acceptance c = none) (hclass : c.kind.lockClass = true)
    (hq : s.seq.queue = []) : exec (k.command p tag q) s = .next { s with
      seq := s.seq.took c.entry c.source.origin c.kind.repeatAction s.now
      ports := s.ports.set p (answered tag .ok []) } := by
  obtain ⟨hcode, hoffer⟩ := State.offer_taken h hclass hq
  rw [exec_offered hk hd ho, hcode, hoffer]

/-- R40: a CHILD_SET on an empty queue; it leaves the repeat record. -/
theorem exec_offer_child (hk : s.canTake p) (hd : s.decoderRefusal k p q = none)
    (ho : ownerOf k p tag q s = s.offerReply c) (hcls : c.kind.cls = .child) (hq : s.seq.queue = []) :
    exec (k.command p tag q) s = .next { s with
      seq := { s.seq with queue := [c.entry] }, ports := s.ports.set p (answered tag .ok []) } := by
  have hclass : c.kind.lockClass = false := by
    unfold CmdKind.lockClass
    rw [hcls]
    rfl
  have hkind : c.kind ≠ .releaseTailgate := fun h => by
    rw [h] at hcls
    cases hcls
  have hpass : s.acceptance c = none :=
    State.acceptance_clear (fun h => by rw [hclass] at h; cases h) (fun h => by rw [hcls] at h; cases h) (fun h => absurd h hkind)
  have hcode : s.offerCode c = .ok := by
    rw [State.offerCode, hpass, Option.getD_none, State.placement, hq]
    rfl
  have hoffer : s.offer c = { s with seq := { s.seq with queue := [c.entry] } } := by
    unfold State.offer
    simp only [hcode, hq, cancelled, List.any_nil, List.filter_nil, List.foldl_nil, State.recordRepeat, hclass]
    rfl
  rw [exec_offered hk hd ho, hcode, hoffer]

end Offered

/-! ### LOCK, CENTRAL_TOGGLE and CHILD_SET on an empty queue (R21, R22, R40) -/

section Requests
variable {s : State} {tag : Byte}

/-- R22: a release of its own while TG does not stand UNLOCKED. -/
theorem State.acceptance_tgLocked {c : Command} (hkind : c.kind = .releaseTailgate) (hpaired : c.paired = false)
    (hcrash : s.crash.latch = false)
    (h : s.closures.tg.lockGoal ≠ .unlocked ∨ s.closures.tg.lockSensed ≠ .unlocked) : s.acceptance c = some .tgLocked := by
  unfold State.acceptance
  rw [hkind, hpaired, hcrash, if_neg (by simp), if_neg (by simp [CmdKind.cls]), if_pos (by simp), if_pos (by simpa using h)]

/-- R21: a LOCK of port B other than its release. -/
theorem exec_lock_taken (hk : s.canTake .b) (hq : s.seq.queue = []) {x : Byte} {kind : CmdKind}
    (ho : ownerOf .lock .b tag [x] s = s.offerReply (.ofPort kind .b .b tag)) (hclass : kind.lockClass = true)
    (hkind : kind ≠ .releaseTailgate) : exec (.lock .b tag [x]) s = .next
      (if s.crash.latch = true then { s with ports := s.ports.set .b (answered tag .crash []) }
      else { s with seq := s.seq.took (portEntry kind .b .b tag false) .other kind.repeatAction s.now
                    ports := s.ports.set .b (answered tag .ok []) }) := by
  cases hcrash : s.crash.latch with
  | true => exact exec_offer_refused (k := .lock) hk rfl ho (State.acceptance_crash hcrash hclass)
  | false =>
    exact exec_offer_taken (k := .lock) hk rfl ho
      (State.acceptance_clear (fun _ => hcrash) (fun _ h => absurd rfl h) (fun h => absurd h hkind)) hclass hq

/-- R21, R41: RELEASE_TAILGATE of port B. -/
theorem exec_lock_release (hk : s.canTake .b) (hq : s.seq.queue = []) : exec (.lock .b tag [5]) s = .next
    (if s.crash.latch = true then { s with ports := s.ports.set .b (answered tag .crash []) }
    else if s.closures.tg.lockGoal ≠ .unlocked ∨ s.closures.tg.lockSensed ≠ .unlocked then
      { s with ports := s.ports.set .b (answered tag .tgLocked []) }
    else if s.closures.tg.latch = .ajar then { s with ports := s.ports.set .b (answered tag .ajar []) }
    else { s with seq := s.seq.took (portEntry .releaseTailgate .b .b tag false) .other .other s.now
                  ports := s.ports.set .b (answered tag .ok []) }) := by
  have ho : ownerOf .lock .b tag [5] s = s.offerReply (.ofPort .releaseTailgate .b .b tag) := rfl
  split
  next hcrash => exact exec_offer_refused (k := .lock) hk rfl ho (State.acceptance_crash hcrash rfl)
  next hcrash =>
    have hclear : s.crash.latch = false := by simpa using hcrash
    split
    next hlocked =>
      exact exec_offer_refused (k := .lock) hk rfl ho (State.acceptance_tgLocked rfl rfl hclear hlocked)
    next hlocked =>
      simp only [not_or, Decidable.not_not] at hlocked
      have haccept := State.acceptance_release (s := s) (c := .ofPort .releaseTailgate .b .b tag) rfl rfl hclear hlocked.1
        hlocked.2
      split
      next hajar => exact exec_offer_refused (k := .lock) hk rfl ho (haccept.trans (if_pos hajar))
      next hajar => exact exec_offer_taken (k := .lock) hk rfl ho (haccept.trans (if_neg hajar)) rfl hq

/-- R21: CENTRAL_TOGGLE is turned by the mode. -/
theorem exec_centralToggle (hk : s.canTake .d) (hq : s.seq.queue = []) : exec (.centralToggle .d tag []) s = .next
    (if s.mode = .superlocked then { s with ports := s.ports.set .d (answered tag .superlocked []) }
    else if s.crash.latch = true then { s with ports := s.ports.set .d (answered tag .crash []) }
    else if s.mode = .locked then
      { s with seq := s.seq.took (portEntry .unlockAll .dButton .d tag false) .other .unlock s.now
               ports := s.ports.set .d (answered tag .ok []) }
    else if s.closures.fd.latch = .ajar then { s with ports := s.ports.set .d (answered tag .ajar []) }
    else { s with seq := s.seq.took (portEntry .lockAll .dButton .d tag false) .other .lock s.now
                  ports := s.ports.set .d (answered tag .ok []) }) := by
  have hown : ownerOf .centralToggle .d tag [] s = State.ownCentralToggle .d tag [] s := rfl
  split
  next hsuper =>
    refine exec_owner_refused (k := .centralToggle) hk rfl ?_
    rw [hown, State.ownCentralToggle, hsuper]
    rfl
  next hsuper =>
    obtain ⟨kind, hturned, hclass, hrelease⟩ : ∃ kind, State.toggleKind s.mode = some kind ∧ kind.lockClass = true ∧
        kind = (if s.mode = .locked then .unlockAll else .lockAll) := by
      cases hm : s.mode with
      | superlocked => exact absurd hm hsuper
      | locked => exact ⟨_, rfl, rfl, rfl⟩
      | allOpen | driverOnly | mixed => exact ⟨_, rfl, rfl, rfl⟩
    have ho : ownerOf .centralToggle .d tag [] s = s.offerReply (.ofPort kind .dButton .d tag) := by
      rw [hown, State.ownCentralToggle, hturned]
    split
    next hcrash => exact exec_offer_refused (k := .centralToggle) hk rfl ho (State.acceptance_crash hcrash hclass)
    next hcrash =>
      have hclear : s.crash.latch = false := by simpa using hcrash
      split
      next hlocked =>
        rw [if_pos hlocked] at hrelease
        subst hrelease
        exact exec_offer_taken (k := .centralToggle) hk rfl ho
          (State.acceptance_clear (fun _ => hclear) nofun nofun) rfl hq
      next hlocked =>
        rw [if_neg hlocked] at hrelease
        subst hrelease
        split
        next hajar =>
          exact exec_offer_refused (k := .centralToggle) hk rfl ho (State.acceptance_ajar hclear rfl hajar nofun)
        next hajar =>
          exact exec_offer_taken (k := .centralToggle) hk rfl ho
            (State.acceptance_clear (fun _ => hclear) (fun _ _ => hajar) nofun) rfl hq

/-- R40: CHILD_SET of a port. -/
theorem exec_childSet {p : Port} {src : CmdSource} {q : List Byte} {r : Rear} {st : ChildState} (hk : s.canTake p)
    (hq : s.seq.queue = []) (hd : s.decoderRefusal .childSet p q = none)
    (ho : ownerOf .childSet p tag q s = s.offerReply (.ofPort (.childSet r st) src p tag)) :
    exec (.childSet p tag q) s = .next { s with
      seq := { s.seq with queue := [portEntry (.childSet r st) src p tag false] }
      ports := s.ports.set p (answered tag .ok []) } :=
  exec_offer_child (k := .childSet) (c := .ofPort (.childSet r st) src p tag) hk hd ho rfl hq

/-- Settles O36: each request offers its command, which the checks of R22 refuse or the empty queue takes. -/
theorem lockRequests : Obligations.LockRequests := by
  refine ⟨fun s tag hk hq row hrow => ?_, fun s tag hk hq => exec_centralToggle hk hq, fun s tag x hx hk hq row hrow => ?_⟩
  · simp only [List.mem_cons, List.not_mem_nil, or_false] at hrow
    rcases hrow with rfl | rfl | rfl | rfl | rfl | rfl
    · exact (exec_lock_taken (kind := .lockAll) hk hq rfl rfl nofun).trans (by simp [CmdKind.repeatAction, CmdKind.cls])
    · exact (exec_lock_taken (kind := .superlockAll) hk hq rfl rfl nofun).trans (by simp [CmdKind.repeatAction, CmdKind.cls])
    · exact (exec_lock_taken (kind := .unlockAll) hk hq rfl rfl nofun).trans (by simp [CmdKind.repeatAction, CmdKind.cls])
    · exact (exec_lock_taken (kind := .unlockDriver) hk hq rfl rfl nofun).trans (by simp [CmdKind.repeatAction, CmdKind.cls])
    · exact (exec_lock_taken (kind := .unlockTailgate) hk hq rfl rfl nofun).trans (by simp [CmdKind.repeatAction, CmdKind.cls])
    · exact (exec_lock_release hk hq).trans (by simp)
  · simp only [List.mem_cons, List.not_mem_nil, or_false] at hx hrow
    rcases hx with rfl | rfl <;> rcases hrow with rfl | rfl | rfl | rfl <;> exact exec_childSet hk hq rfl rfl

end Requests

end Sys2Proof.Machine
end

section
/-! A command offered to any queue (R23), the heat tick and the relock timer (R32, R39). -/

namespace Sys2Proof.Machine
open Sys2Proof

/-! ### COMMAND_CANCELLED (R168) -/

/-- The detail lists `x`, with at most `j` newer entries behind it. -/
def ListedWithin (n : NoticeSet) (x : Byte × CmdKind) (j : Nat) : Prop :=
  ∃ c pre post, n.commandCancelled = some c ∧ c.latest = pre ++ x :: post ∧ post.length ≤ j

section Cancelling
variable {s : State} {n : NoticeSet} {e : Entry} {x : Byte × CmdKind} {p : Port} {j : Nat}

theorem ListedWithin.any (h : ListedWithin n x j) :
    n.commandCancelled.map (fun c => c.latest.any (· = x)) = some true := by
  obtain ⟨c, pre, post, hc, hlatest, -⟩ := h
  rw [hc, Option.map_some, hlatest]
  simp

theorem cancelledDetail_lists (n : NoticeSet) (e : Entry) : ListedWithin (State.cancelledDetail e n) (e.tag.getD 0, e.kind) 0 := by
  unfold State.cancelledDetail
  dsimp only
  obtain ⟨l, hl⟩ : ∃ l, l = (n.commandCancelled.getD ⟨[], 0⟩).latest := ⟨_, rfl⟩
  rw [← hl]
  refine ⟨_, l.drop (l.length - 7), [], rfl, ?_, Nat.le.refl⟩
  have hlen : (l ++ [(e.tag.getD 0, e.kind)]).length - 8 = l.length - 7 := by simp
  rw [hlen, List.drop_append_of_le_length (by omega)]

theorem ListedWithin.cancelledDetail (h : ListedWithin n x j) (hj : j < 7) (e : Entry) :
    ListedWithin (State.cancelledDetail e n) x (j + 1) := by
  obtain ⟨c, pre, post, hc, hlatest, hpost⟩ := h
  unfold State.cancelledDetail
  dsimp only
  rw [hc, Option.getD_some, hlatest]
  obtain ⟨k, hk⟩ : ∃ k, k = (pre ++ x :: post ++ [(e.tag.getD 0, e.kind)]).length - 8 := ⟨_, rfl⟩
  have hle : k ≤ pre.length := by
    rw [hk]
    simp only [List.length_append, List.length_cons, List.length_nil]
    omega
  refine ⟨_, pre.drop k, post ++ [(e.tag.getD 0, e.kind)], rfl, ?_, by simpa using hpost⟩
  rw [← hk, List.append_assoc, List.drop_append_of_le_length hle]
  rfl

theorem State.raiseCancelled_get (s : State) (e : Entry) (p : Port) : ((s.raiseCancelled e).notices.get p) =
    if e.port = some p then State.cancelledDetail e (s.notices.get p) else s.notices.get p := by
  cases p <;> rfl

theorem raiseCancelled_foldl_keeps (l : List Entry) (h : ListedWithin (s.notices.get p) x j) (hj : j + l.length ≤ 7) :
    ListedWithin ((l.foldl State.raiseCancelled s).notices.get p) x (j + l.length) := by
  induction l generalizing s j with
  | nil => exact h
  | cons e l ih =>
    rw [List.length_cons] at hj
    have hnext : ListedWithin ((s.raiseCancelled e).notices.get p) x (j + 1) := by
      rw [State.raiseCancelled_get]
      split
      · exact h.cancelledDetail (by omega) e
      · obtain ⟨c, pre, post, hc, hlatest, hpost⟩ := h
        exact ⟨c, pre, post, hc, hlatest, by omega⟩
    have hlength : j + (e :: l).length = (j + 1) + l.length := by
      rw [List.length_cons]
      omega
    rw [hlength]
    exact ih hnext (by omega)

/-- R168: each of at most 8 removed entries stands in the detail of its port. -/
theorem raiseCancelled_foldl_lists (l : List Entry) (hlen : l.length ≤ 8) (he : e ∈ l) (hp : e.port = some p) :
    ListedWithin ((l.foldl State.raiseCancelled s).notices.get p) (e.tag.getD 0, e.kind) 7 := by
  obtain ⟨before, after, rfl⟩ := List.append_of_mem he
  rw [List.foldl_append, List.foldl_cons]
  have hnew : ListedWithin (((before.foldl State.raiseCancelled s).raiseCancelled e).notices.get p)
      (e.tag.getD 0, e.kind) 0 := by
    rw [State.raiseCancelled_get, if_pos hp]
    exact cancelledDetail_lists _ e
  have hafter : after.length ≤ 7 := by
    simp only [List.length_append, List.length_cons] at hlen
    omega
  obtain ⟨c, pre, post, hc, hlatest, hpost⟩ := raiseCancelled_foldl_keeps after hnew (by omega)
  exact ⟨c, pre, post, hc, hlatest, by omega⟩

end Cancelling

/-! ### What the removal of identical neighbours keeps -/

section Dedupe
variable {e : Entry} {q : List Entry}

theorem mem_dedupe_of_running (he : e ∈ q) (hrun : e.running = true) : e ∈ dedupe q := by
  induction q with
  | nil => exact he
  | cons x rest ih =>
    rw [dedupe]
    rcases List.mem_cons.mp he with rfl | he
    · cases dedupe rest with
      | nil => exact List.mem_singleton_self e
      | cons f more => simp [hrun]
    · have hrest := ih he
      cases hd : dedupe rest with
      | nil => rw [hd] at hrest; cases hrest
      | cons f more =>
        rw [hd] at hrest
        dsimp only
        split
        next hsame =>
          rcases List.mem_cons.mp hrest with rfl | hmore
          · simp [hrun] at hsame
          · exact List.mem_cons_of_mem x hmore
        next => exact List.mem_cons_of_mem x hrest

theorem exists_kind_dedupe (he : e ∈ q) : ∃ f ∈ dedupe q, f.kind = e.kind := by
  induction q with
  | nil => cases he
  | cons x rest ih =>
    have hhead : ∃ more, dedupe (x :: rest) = x :: more := by
      rw [dedupe]
      cases dedupe rest with
      | nil => exact ⟨[], rfl⟩
      | cons f more =>
        dsimp only
        split <;> exact ⟨_, rfl⟩
    rcases List.mem_cons.mp he with rfl | he
    · obtain ⟨more, hmore⟩ := hhead
      exact ⟨e, by rw [hmore]; exact List.mem_cons_self, rfl⟩
    · obtain ⟨f, hf, hkind⟩ := ih he
      rw [dedupe]
      cases hd : dedupe rest with
      | nil => rw [hd] at hf; cases hf
      | cons g more =>
        rw [hd] at hf
        dsimp only
        split
        next hsame =>
          rcases List.mem_cons.mp hf with rfl | hmore
          · have hfx : x.kind = f.kind := by simpa using And.right (by simpa using hsame)
            exact ⟨x, List.mem_cons_self, hfx.trans hkind⟩
          · exact ⟨f, List.mem_cons_of_mem x hmore, hkind⟩
        next => exact ⟨f, List.mem_cons_of_mem x hf, hkind⟩

/-- R23: a queue whose neighbours already differ stays. -/
theorem dedupe_of_spaced (h : Spaced q) : dedupe q = q := by
  induction q with
  | nil => rfl
  | cons x rest ih =>
    rw [dedupe]
    cases rest with
    | nil => rfl
    | cons f more =>
      obtain ⟨hxf, hmore⟩ := spaced_cons_cons.mp h
      rw [ih hmore]
      refine if_neg fun hsame => ?_
      obtain ⟨⟨hx, hf⟩, hkind⟩ : (x.running = false ∧ f.running = false) ∧ x.kind = f.kind := by simpa using hsame
      exact hxf hx hf hkind

end Dedupe

/-! ### The outcomes of an offer (R23) -/

section Outcomes
variable {s : State} {c : Command}

theorem newestPending_iff {q : List Entry} {e : Entry} :
    newestPending q = some e ↔ q.getLast? = some e ∧ e.running = false := by
  unfold newestPending
  cases q.getLast? with
  | none => simp
  | some f =>
    dsimp only
    split
    next hf =>
      refine ⟨nofun, fun ⟨h, hrun⟩ => ?_⟩
      cases h
      rw [hf] at hrun
      cases hrun
    next hf => exact ⟨fun h => ⟨h, by cases h; simpa using hf⟩, And.left⟩

theorem newestPending_any {q : List Entry} {k : CmdKind} : q.getLast?.any (fun e => !e.running && e.kind = k) = true ↔
    ∃ e, newestPending q = some e ∧ e.kind = k := by
  simp only [newestPending_iff]
  cases q.getLast? with
  | none => exact ⟨nofun, fun ⟨_, ⟨h, _⟩, _⟩ => nomatch h⟩
  | some f =>
    constructor
    · intro h
      obtain ⟨hrun, hkind⟩ : f.running = false ∧ f.kind = k := by simpa using h
      exact ⟨f, ⟨rfl, hrun⟩, hkind⟩
    · rintro ⟨_, ⟨⟨⟩, hrun⟩, hkind⟩
      simp [hrun, hkind]

theorem cancelled_of_none {k : CmdKind} {q : List Entry} (h : q.any (cancels k) = false) :
    cancelled k q = q ∧ q.filter (cancels k) = [] := by
  rw [cancelled, h]
  exact ⟨rfl, by simpa [List.filter_eq_nil_iff] using h⟩

/-- R23, step 2: a command identical with the newest PENDING entry merges into it. -/
theorem State.offer_merged (h : s.acceptance c = none) (hclass : c.kind.lockClass = true)
    (hopposite : s.seq.queue.any (cancels c.kind) = false) {e : Entry} (hnewest : newestPending s.seq.queue = some e)
    (hkind : e.kind = c.kind) : s.offerCode c = .merged ∧ s.offer c = { s with seq := { s.seq with
      repeatRec := some { origin := c.source.origin, action := c.kind.repeatAction, time := s.now } } } := by
  obtain ⟨hkept, hnone⟩ := cancelled_of_none hopposite
  have hcode : s.offerCode c = .merged := by
    rw [State.offerCode, h, Option.getD_none, State.placement, hkept]
    simp only [hnewest, hkind, if_true]
  refine ⟨hcode, ?_⟩
  unfold State.offer
  simp only [hcode, hkept, hnone, List.foldl_nil, State.recordRepeat, hclass, if_true]
  rfl

/-- R23, step 3: a full queue refuses a command that no entry takes up. -/
theorem State.offer_full (h : s.acceptance c = none) (hopposite : s.seq.queue.any (cancels c.kind) = false)
    (hnewest : ∀ e, newestPending s.seq.queue = some e → e.kind ≠ c.kind) (hlen : 4 ≤ s.seq.queue.length) :
    s.offerCode c = .busy ∧ s.offer c = s := by
  obtain ⟨hkept, -⟩ := cancelled_of_none hopposite
  have hcode : s.offerCode c = .busy := by
    rw [State.offerCode, h, Option.getD_none, State.placement, hkept]
    cases hn : newestPending s.seq.queue with
    | none => exact if_pos hlen
    | some e => exact (if_neg (hnewest e hn)).trans (if_pos hlen)
  refine ⟨hcode, ?_⟩
  unfold State.offer
  simp only [hcode, Code.accepted]
  rfl

/-- R23: the opposites of LOCK_ALL and of UNLOCK_ALL are the PENDING entries of the other class. -/
theorem cancels_lockAll (e : Entry) : cancels .lockAll e = true ↔ e.running = false ∧ e.kind.cls = .unlock := by
  unfold cancels CmdKind.opposite
  cases e.kind <;> simp [CmdKind.cls]

theorem cancels_unlockAll (e : Entry) : cancels .unlockAll e = true ↔ e.running = false ∧ e.kind.cls = .lock := by
  unfold cancels CmdKind.opposite
  cases e.kind <;> simp [CmdKind.cls]

end Outcomes

/-! ### The heat tick and the relock timer (R32, R39) -/

/-- Settles O41: the tick is taken at its own time, and the expiry's LOCK_ALL passes R22 and R23 as any other does. -/
theorem heatAndRelock : Obligations.HeatAndRelock := by
  intro s hl
  refine ⟨congrArg Host.Outcome.next (State.live_of_not_held hl _), fun d hd => ?_⟩
  obtain ⟨u, hu⟩ : ∃ u, u = (s.reach d).setRelock none := ⟨_, rfl⟩
  have hexec : exec .relockTimerExpiry s = .next (u.offer (.internal .lockAll .relock)) := by
    refine congrArg Host.Outcome.next ((State.live_of_not_held hl _).trans ?_)
    rw [State.relockExpiry, hd, hu]
  have hleft : u = { s with now := max s.now d, seq := { s.seq with relock := none } } := hu
  have hcrash : u.crash = s.crash := by rw [hu]; rfl
  have hclosures : u.closures = s.closures := by rw [hu]; rfl
  have hqueue : u.seq.queue = s.seq.queue := by rw [hu]; rfl
  have hopposite : (∀ e ∈ s.seq.queue, e.running = false → e.kind.cls ≠ .unlock) →
      u.seq.queue.any (cancels (Command.internal .lockAll .relock).kind) = false := fun h => by
    rw [hqueue, List.any_eq_false]
    exact fun e he hcancels => h e he ((cancels_lockAll e).mp hcancels).1 ((cancels_lockAll e).mp hcancels).2
  have hnewest : (∀ e, s.seq.queue.getLast? = some e → e.running = true ∨ e.kind ≠ .lockAll) →
      ∀ e, newestPending u.seq.queue = some e → e.kind ≠ .lockAll := fun h e he => by
    rw [hqueue] at he
    obtain ⟨hlast, hrun⟩ := newestPending_iff.mp he
    exact (h e hlast).resolve_left (by simp [hrun])
  have hclear : s.crash.latch = false → s.closures.fd.latch ≠ .ajar →
      u.acceptance (.internal .lockAll .relock) = none := fun hlatch hajar =>
    State.acceptance_clear (fun _ => by rw [hcrash, hlatch]) (fun _ _ => by rw [hclosures]; exact hajar) nofun
  rw [hexec, ← hleft]
  refine ⟨fun hdropped => congrArg Host.Outcome.next ?_, fun hlatch hajar hlen hunlock hlast => congrArg Host.Outcome.next ?_⟩
  · by_cases hbarred : s.crash.latch = true ∨ s.closures.fd.latch = .ajar
    · exact State.offer_lock_barred rfl nofun (by rwa [hcrash, hclosures])
    · obtain ⟨hlatch, hajar⟩ := not_or.mp hbarred
      obtain ⟨hlen, hunlock, hlast⟩ := (hdropped.resolve_left hlatch).resolve_left hajar
      exact (State.offer_full (hclear (by simpa using hlatch) hajar) (hopposite hunlock) (hnewest hlast)
        (Nat.le_of_eq (hqueue ▸ hlen.symm))).2
  · rw [(State.offer_added (hclear hlatch hajar) rfl (hopposite hunlock) (hnewest hlast) (by rw [hqueue]; exact hlen)).2, hqueue,
      hleft]
    rfl

/-! ### A command of port B offered to any queue (R23) -/

section Placement
variable {s : State} {c : Command} {opposite : CmdClass}

/-- R23: the queue without the opposite PENDING entries. -/
def restOf (opposite : CmdClass) (q : List Entry) : List Entry :=
  q.filter (fun e => e.running || e.kind.cls ≠ opposite)

theorem mem_restOf {q : List Entry} {e : Entry} :
    e ∈ restOf opposite q ↔ e ∈ q ∧ (e.running = true ∨ e.kind.cls ≠ opposite) := by
  simp [restOf]

/-- R23, step 1: with an opposite entry the queue is the rest without its identical neighbours. -/
theorem cancelled_eq_restOf {k : CmdKind} {q : List Entry}
    (hcancels : ∀ e, cancels k e = true ↔ e.running = false ∧ e.kind.cls = opposite)
    (hany : ∃ e ∈ q, e.running = false ∧ e.kind.cls = opposite) : cancelled k q = dedupe (restOf opposite q) := by
  obtain ⟨e, he, hboth⟩ := hany
  have hrest : (fun e => !cancels k e) = fun e : Entry => e.running || decide (e.kind.cls ≠ opposite) := by
    funext e
    rw [Bool.eq_iff_iff, Bool.not_eq_true', ← Bool.not_eq_true, hcancels]
    cases e.running <;> simp
  rw [cancelled, if_pos (List.any_eq_true.mpr ⟨e, he, (hcancels e).mpr hboth⟩), hrest]
  rfl

/-- R23: the queue is shorter by the opposite entries. -/
theorem restOf_length_lt {q : List Entry} (hlen : q.length ≤ 4)
    (hany : ∃ e ∈ q, e.running = false ∧ e.kind.cls = opposite) : (dedupe (restOf opposite q)).length < 4 := by
  obtain ⟨e, he, hrun, hcls⟩ := hany
  have hshorter : (restOf opposite q).length < q.length := by
    refine List.length_filter_lt_length_iff_exists.mpr ⟨e, he, ?_⟩
    simp [hrun, hcls]
  have := (dedupe_sublist (restOf opposite q)).length_le
  omega

/-- R23: an offer that removes entries is accepted: with a place free it is merged or added. -/
theorem State.offer_cancelling (h : s.acceptance c = none) (hclass : c.kind.lockClass = true) {q : List Entry}
    (hq : cancelled c.kind s.seq.queue = q) (hlen : q.length < 4) :
    let same := q.getLast?.any (fun e => !e.running && e.kind = c.kind)
    s.offerCode c = (if same then .merged else .ok) ∧ Only [.seq, .notices] s (s.offer c) ∧
    (s.offer c).seq = { s.seq with
      queue := if same then q else q ++ [c.entry]
      repeatRec := some { origin := c.source.origin, action := c.kind.repeatAction, time := s.now } } ∧
    (s.offer c).notices = ((s.seq.queue.filter (cancels c.kind)).foldl State.raiseCancelled s).notices := by
  intro same
  have hcode : s.offerCode c = if same then .merged else .ok := by
    rw [State.offerCode, h, Option.getD_none, State.placement, hq]
    cases hn : newestPending q with
    | none =>
      have hsame : same = false := by
        rw [← Bool.not_eq_true]
        intro hs
        obtain ⟨e, he, -⟩ := newestPending_any.mp hs
        rw [hn] at he
        cases he
      rw [hsame]
      exact if_neg (by omega)
    | some e =>
      dsimp only
      split
      next hkind =>
        rw [show same = true from newestPending_any.mpr ⟨e, hn, hkind⟩]
        rfl
      next hkind =>
        have hsame : same = false := by
          rw [← Bool.not_eq_true]
          intro hs
          obtain ⟨f, hf, hfkind⟩ := newestPending_any.mp hs
          rw [hn] at hf
          cases hf
          exact hkind hfkind
        rw [hsame]
        exact if_neg (by omega)
  have hraised := raiseCancelled_foldl_only s (s.seq.queue.filter (cancels c.kind))
  have hoffer : s.offer c =
      (((s.seq.queue.filter (cancels c.kind)).foldl State.raiseCancelled s).setQueue
        (if same then q else q ++ [c.entry])).recordRepeat c := by
    unfold State.offer
    dsimp only
    rw [hcode, hq]
    cases same <;> rfl
  refine ⟨hcode, State.offer_only s c, ?_, ?_⟩
  · rw [hoffer, State.recordRepeat, if_pos hclass]
    generalize List.foldl State.raiseCancelled s _ = u at hraised
    have hseq : u.seq = s.seq := hraised.same .seq (by decide)
    have hnow : u.now = s.now := hraised.same .now (by decide)
    rw [← hseq, ← hnow]
    rfl
  · rw [hoffer, State.recordRepeat, if_pos hclass]
    rfl

/-- Settles O37: without an opposite entry the offer merges, is full or is added; with one there is a place free. -/
theorem queuePlacement : Obligations.QueuePlacement := by
  intro s tag hk hcrash hlaw row hrow
  obtain ⟨ho, hclass, haction, hrelease, hcls, hcancels⟩ : ownerOf .lock .b tag [row.1] s =
      s.offerReply (.ofPort row.2.1 .b .b tag) ∧ row.2.1.lockClass = true ∧ row.2.1.repeatAction = row.2.2.1 ∧
      row.2.1 ≠ .releaseTailgate ∧ row.2.1.cls ≠ row.2.2.2 ∧
      ∀ e, cancels row.2.1 e = true ↔ e.running = false ∧ e.kind.cls = row.2.2.2 := by
    simp only [List.mem_cons, List.not_mem_nil, or_false] at hrow
    rcases hrow with rfl | rfl
    · exact ⟨rfl, rfl, rfl, nofun, nofun, cancels_lockAll⟩
    · exact ⟨rfl, rfl, rfl, nofun, nofun, cancels_unlockAll⟩
  obtain ⟨x, kind, action, opposite⟩ := row
  dsimp only at ho hclass haction hrelease hcls hcancels ⊢
  obtain ⟨c, hc⟩ : ∃ c, c = Command.ofPort kind .b .b tag := ⟨_, rfl⟩
  have hkind : c.kind = kind := by rw [hc]; rfl
  have haccept : s.acceptance c = none := by
    rw [hc]
    exact State.acceptance_clear (fun _ => hcrash) (fun _ h => absurd rfl h) (fun h => absurd h hrelease)
  have hexec := exec_offered (k := .lock) hk rfl ho
  rw [← hc] at hexec
  replace hexec : exec (.lock .b tag [x]) s = _ := hexec
  rw [← hkind] at hclass haction hcls hcancels
  have hentry : portEntry kind .b .b tag false = c.entry := by rw [hc]; rfl
  have horigin : Origin.other = c.source.origin := by rw [hc]; rfl
  rw [hentry, ← hkind, ← haction, horigin, hexec]
  refine ⟨fun hnone => ?_, fun hany => ?_⟩
  · have hopposite : s.seq.queue.any (cancels c.kind) = false :=
      List.any_eq_false.mpr fun e he h => hnone e he ((hcancels e).mp h).1 ((hcancels e).mp h).2
    split
    next hsame =>
      obtain ⟨e, he, hek⟩ := newestPending_any.mp hsame
      obtain ⟨hcode, hoffer⟩ := State.offer_merged haccept hclass hopposite he hek
      rw [hcode, hoffer]
    next hsame =>
      have hnewest : ∀ e, newestPending s.seq.queue = some e → e.kind ≠ c.kind := fun e he hek =>
        hsame (newestPending_any.mpr ⟨e, he, hek⟩)
      split
      next hfull =>
        obtain ⟨hcode, hoffer⟩ := State.offer_full haccept hopposite hnewest (Nat.le_of_eq hfull.symm)
        rw [hcode, hoffer]
      next hfull =>
        have hlen : s.seq.queue.length < 4 := Nat.lt_of_le_of_ne hlaw.1.1 hfull
        obtain ⟨hcode, hoffer⟩ := State.offer_added haccept hclass hopposite hnewest hlen
        rw [hcode, hoffer]
  · have hq := cancelled_eq_restOf hcancels hany
    obtain ⟨hcode, hframe, hseq, hnotices⟩ := State.offer_cancelling haccept hclass hq (restOf_length_lt hlaw.1.1 hany)
    have hqueueLaw : QueueLaw (s.offer c).seq.queue := QueueLaw.offer hlaw.1
    have hports : (s.offer c).ports = s.ports := hframe.same .ports (by decide)
    obtain ⟨u, hu⟩ : ∃ u, u = s.offer c := ⟨_, rfl⟩
    rw [← hu] at hframe hseq hnotices hqueueLaw hports ⊢
    obtain ⟨d, hd⟩ : ∃ d, d = dedupe (restOf opposite s.seq.queue) := ⟨_, rfl⟩
    rw [← hd] at hcode hseq
    have hsub : ∀ e ∈ u.seq.queue, e ∈ d ∨ e = c.entry := fun e he => by
      rw [hseq] at he
      dsimp only at he
      split at he
      · exact .inl he
      · simpa using he
    have hsup : ∀ e ∈ d, e ∈ u.seq.queue := fun e he => by
      rw [hseq]
      dsimp only
      split
      · exact he
      · exact List.mem_append_left _ he
    refine ⟨_, rfl, Only.after (Only.ports u _) rfl (hframe.mono rfl), ?_, ?_, hqueueLaw, ?_, ?_, ?_, ?_⟩
    · rw [hseq]
    · intro e he hrun
      rcases hsub e he with he | rfl
      · rw [hd] at he
        exact (mem_restOf.mp ((dedupe_sublist _).subset he)).2.resolve_left (by simp [hrun])
      · exact hcls
    · intro e he hrun
      refine hsup e ?_
      rw [hd]
      exact mem_dedupe_of_running (mem_restOf.mpr ⟨he, .inl hrun⟩) hrun
    · intro e he hrun hother
      obtain ⟨f, hf, hfk⟩ := exists_kind_dedupe (mem_restOf.mpr ⟨he, .inr hother⟩)
      exact ⟨f, hsup f (hd ▸ hf), hfk⟩
    · intro e he hrun hopp p hp
      have hlen : (s.seq.queue.filter (cancels c.kind)).length ≤ 8 :=
        Nat.le_trans (List.length_filter_le _ _) (Nat.le_trans hlaw.1.1 (by decide))
      have hlisted := raiseCancelled_foldl_lists (s := s) _ hlen
        (List.mem_filter.mpr ⟨he, (hcancels e).mpr ⟨hrun, hopp⟩⟩) hp
      rw [← hnotices] at hlisted
      exact hlisted.any
    · intro hrest
      have hkept : d = s.seq.queue.filter (fun e => e.running || e.kind.cls ≠ opposite) := by
        rw [hd]
        exact dedupe_of_spaced ((queueLaw_iff _).mp hrest).2.2
      rw [← hkept]
      exact ⟨by rw [hseq], by rw [hcode, hports]⟩

end Placement

end Sys2Proof.Machine
end

section
/-! The ends of operations and of the commands that they belong to (R25, R29, R31, R48). -/

namespace Sys2Proof.Machine
open Sys2Proof

/-! ### What an operation's end writes -/

section Written
variable {s t u : State} {a : Actuator} {o : Op} {c : Closure}

theorem failClosure_eq (a : Actuator) : State.failClosure a = namedClosure a := by
  cases a with
  | l c => rfl
  | c r => cases r <;> rfl
  | t1 => rfl

theorem State.runningPort_eq (s : State) : s.runningPort = commandPort s := by
  unfold State.runningPort commandPort
  cases s.seq.queue with
  | nil => rfl
  | cons e rest => rfl

/-- R31: confirmed or child_confirmed has been written. -/
theorem State.confirmEnd_confirmed (s : State) (a : Actuator) (v : Bool) : confirmedIs s (s.confirmEnd a v) a v := by
  cases a with
  | l c =>
    refine ⟨State.writeClosure_closures s c _, ?_⟩
    exact (State.writeClosure_only s c _).same .childs (by decide)
  | c r =>
    refine ⟨?_, State.writeChild_childs s r _⟩
    exact (State.writeChild_only s r _).same .closures (by decide)
  | t1 => exact ⟨rfl, rfl⟩

theorem State.confirmEnd_lockNamed {v : Bool} (h : (s.closure c).confirmed ≠ v) :
    lockNamed (s.confirmEnd (.l c) v).notices c :=
  writeClosure_named (.inr (.inr (.inl h)))

theorem State.confirmEnd_childNamed {r : Rear} {v : Bool} (h : (s.childOf r).confirmed ≠ v) :
    childNamed (s.confirmEnd (.c r) v).notices r :=
  writeChild_named (.inr h)

/-- R4: the writes of the tables leave ACTUATION_FAILED. -/
theorem State.writeClosure_failed (s : State) (c : Closure) (r : ClosureRec) (p : Port) :
    ((s.writeClosure c r).notices.get p).actuationFailed = (s.notices.get p).actuationFailed := by
  unfold State.writeClosure
  split
  · cases p <;> rfl
  · rfl

theorem State.writeChild_failed (s : State) (r : Rear) (v : ChildRec) (p : Port) :
    ((s.writeChild r v).notices.get p).actuationFailed = (s.notices.get p).actuationFailed := by
  unfold State.writeChild
  split
  · cases p <;> rfl
  · rfl

theorem State.confirmEnd_failed (s : State) (a : Actuator) (v : Bool) (p : Port) :
    ((s.confirmEnd a v).notices.get p).actuationFailed = (s.notices.get p).actuationFailed := by
  cases a with
  | l c => exact State.writeClosure_failed s c _ p
  | c r => exact State.writeChild_failed s r _ p
  | t1 => rfl

/-- R31: ACTUATION_FAILED names the closure on port B and on the command's port. -/
theorem raiseActuationFailed_named (s : State) (c : Closure) (why : FailReason) (port : Option Port) :
    failNamed s.notices (s.raiseActuationFailed c why port).notices c why port := by
  intro p
  cases p with
  | b => simp [State.raiseActuationFailed, State.failedDetail, Ports.get]
  | k | d =>
    simp only [State.raiseActuationFailed, Ports.get, reduceCtorEq, false_or]
    split <;> rfl

theorem failNamed.seen {n n' m m' : Ports NoticeSet} {why : FailReason} {port : Option Port}
    (h : failNamed n m c why port) (hn : ∀ p, (n.get p).actuationFailed = (n'.get p).actuationFailed)
    (hm : ∀ p, (m'.get p).actuationFailed = (m.get p).actuationFailed) : failNamed n' m' c why port := by
  intro p
  rw [hm, h p, hn]

/-! ### The end of the command (R25) -/

theorem State.ordinaryOps_dropped (hops : u.seq.ops = s.seq.ops.set a none) :
    u.ordinaryOps = false ↔ ∀ b ∈ Actuator.list, b ≠ a → (s.opAt b).all (·.crash) = true := by
  have hop : ∀ b, u.opAt b = if b = a then none else s.opAt b := fun b => by
    rw [State.opAt, hops, Actuators.get_set]
    rfl
  unfold State.ordinaryOps
  rw [List.any_eq_false]
  refine forall₂_congr fun b _ => ?_
  rw [hop]
  by_cases hb : b = a
  · simp [hb]
  · rw [if_neg hb]
    cases s.opAt b <;> simp [hb]

/-- R25: with the operation gone, the RUNNING command leaves when no other ordinary operation is left. -/
theorem State.finishIfDone_dropped (hseq : u.seq = { s.seq with ops := s.seq.ops.set a none }) :
    u.finishIfDone = { u with seq := { s.seq with ops := s.seq.ops.set a none, queue := queueAfterEnd s a } } := by
  have hqueue : u.seq.queue = s.seq.queue := by rw [hseq]
  have hordinary := State.ordinaryOps_dropped (s := s) (u := u) (a := a) (by rw [hseq])
  have hset : u.setQueue (queueAfterEnd s a) =
      { u with seq := { s.seq with ops := s.seq.ops.set a none, queue := queueAfterEnd s a } } := by
    rw [State.setQueue, hseq]
  rw [← hset]
  unfold State.finishIfDone queueAfterEnd
  simp only [← hordinary]
  rw [← hqueue]
  cases hq : u.seq.queue with
  | nil =>
    have hsame : u.setQueue [] = u := by rw [State.setQueue, ← hq]
    simp [hsame]
  | cons e rest =>
    have hsame : u.setQueue (e :: rest) = u := by rw [State.setQueue, ← hq]
    cases he : e.running <;> cases ho : u.ordinaryOps <;> simp [hsame, he]

/-- An operation that does not drive is removed as it is. -/
theorem State.dropOp_still (ho : s.opAt a = some o) (hphase : o.phase ≠ .drive) : s.dropOp a = s.setOp a none := by
  unfold State.dropOp
  simp only [ho, if_neg hphase]

theorem State.dropOp_driving (ho : s.opAt a = some o) (hphase : o.phase = .drive) :
    s.dropOp a = (s.offChan (.act a)).setOp a none := by
  unfold State.dropOp
  simp only [ho, if_pos hphase]

/-- R29, R31: an operation that does not drive ends SUCCESS. -/
theorem State.endSuccess_ended (ho : s.opAt a = some o) (hphase : o.phase ≠ .drive) :
    Only [.closures, .childs, .seq, .notices] s (s.endSuccess a) ∧
    (s.endSuccess a).seq = { s.seq with ops := s.seq.ops.set a none, queue := queueAfterEnd s a } ∧
    confirmedIs s (s.endSuccess a) a true ∧
    (∀ c, a = .l c → (s.closure c).confirmed = false → lockNamed (s.endSuccess a).notices c) ∧
    (∀ r, a = .c r → (s.childOf r).confirmed = false → childNamed (s.endSuccess a).notices r) := by
  obtain ⟨m, hm⟩ : ∃ m, m = s.setOp a none := ⟨_, rfl⟩
  have hframe := State.confirmEnd_only m a true
  have hended : s.endSuccess a = (m.confirmEnd a true).finishIfDone := by
    rw [State.endSuccess, State.dropOp_still ho hphase, hm]
  have hseq : (m.confirmEnd a true).seq = { s.seq with ops := s.seq.ops.set a none } :=
    Eq.trans (hframe.same .seq (by decide)) (by rw [hm]; rfl)
  have hconfirmed := State.confirmEnd_confirmed m a true
  have hlock : ∀ c, a = .l c → (m.closure c).confirmed = false → lockNamed (m.confirmEnd a true).notices c :=
    fun c hc h => hc ▸ State.confirmEnd_lockNamed (by simp [h])
  have hchild : ∀ r, a = .c r → (m.childOf r).confirmed = false → childNamed (m.confirmEnd a true).notices r :=
    fun r hr h => hr ▸ State.confirmEnd_childNamed (by simp [h])
  have honly : Only [.closures, .childs, .seq, .notices] s (s.endSuccess a) := by
    rw [hended]
    refine Only.after (State.finishIfDone_only _) rfl (Only.after hframe rfl ?_)
    rw [hm]
    exact (State.setOp_only s a none).mono rfl
  rw [hended, State.finishIfDone_dropped hseq] at honly ⊢
  rw [hm] at honly hconfirmed hlock hchild ⊢
  exact ⟨honly, rfl, hconfirmed, hlock, hchild⟩

/-- R31: an operation that does not drive ends with a failure. -/
theorem State.endFailed_ended (ho : s.opAt a = some o) (hphase : o.phase ≠ .drive) (why : FailReason) :
    Only [.closures, .childs, .seq, .notices] s (s.endFailed a why) ∧
    (s.endFailed a why).seq = { s.seq with ops := s.seq.ops.set a none, queue := queueAfterEnd s a } ∧
    confirmedIs s (s.endFailed a why) a false ∧
    failNamed s.notices (s.endFailed a why).notices (namedClosure a) why (commandPort s) := by
  obtain ⟨m, hm⟩ : ∃ m, m = s.setOp a none := ⟨_, rfl⟩
  obtain ⟨k, hk⟩ : ∃ k, k = m.confirmEnd a false := ⟨_, rfl⟩
  have hframe : Only [.closures, .childs, .notices] m k := hk ▸ State.confirmEnd_only m a false
  have hkseq : k.seq = m.seq := hframe.same .seq (by decide)
  have hended : s.endFailed a why = (k.raiseActuationFailed (namedClosure a) why (commandPort s)).finishIfDone := by
    rw [← failClosure_eq, ← State.runningPort_eq, State.endFailed, State.dropOp_still ho hphase, hk, hm]
  have hseq : (k.raiseActuationFailed (namedClosure a) why (commandPort s)).seq =
      { s.seq with ops := s.seq.ops.set a none } := by
    rw [show (k.raiseActuationFailed (namedClosure a) why (commandPort s)).seq = k.seq from rfl, hkseq, hm]
    rfl
  have hconfirmed : confirmedIs m k a false := hk ▸ State.confirmEnd_confirmed m a false
  have hkept : ∀ p, (k.notices.get p).actuationFailed = (m.notices.get p).actuationFailed :=
    fun p => hk ▸ State.confirmEnd_failed m a false p
  have honly : Only [.closures, .childs, .seq, .notices] s (s.endFailed a why) := by
    rw [hended]
    refine Only.after (State.finishIfDone_only _) rfl (Only.after (State.raiseActuationFailed_only _ _ _ _) rfl
      (Only.after hframe rfl ?_))
    rw [hm]
    exact (State.setOp_only s a none).mono rfl
  rw [hended, State.finishIfDone_dropped hseq] at honly ⊢
  rw [hm] at hconfirmed hkept
  exact ⟨honly, rfl, hconfirmed, (raiseActuationFailed_named k _ why _).seen hkept fun _ => rfl⟩

end Written

/-! ### PULSE_END and SETTLE_END (R29, R41) -/

section Timers
variable {s : State} {a : Actuator} {o : Op} {d : Nat}

theorem State.opTimer_eq {ph : OpPhase} {crash : Bool} (ho : s.opAt a = some o) (hd : o.timer = some d)
    (hphase : o.phase = ph) (hcrash : o.crash = crash) : s.opTimer a ph crash = some (o, d) := by
  unfold State.opTimer
  simp only [ho, hd, hphase, hcrash, decide_true, Bool.and_self, if_true]

theorem State.senseEquals_eq (s : State) (ha : a ≠ .t1) (g : OpGoal) : s.senseEquals a g = sensedIs s a g := by
  cases a with
  | t1 => exact absurd rfl ha
  | l c => cases g <;> rfl
  | c r => cases g <;> rfl

/-- Settles O40: a pulse's end leads to SETTLE or ends T1; the end of SETTLE succeeds, retries or fails. -/
theorem pulseAndSettle : Obligations.PulseAndSettle := by
  intro s a hl o ho hcrash d hd
  obtain ⟨u, hu⟩ : ∃ u, u = s.reach d := ⟨_, rfl⟩
  have huo : u.opAt a = some o := by rw [hu]; exact ho
  refine ⟨fun hphase => ?_, fun hphase hne => ?_⟩
  · have hexec : exec (.pulseEnd a) s = .next (u.endPulse a o) := by
      refine congrArg Host.Outcome.next ((State.live_of_not_held hl _).trans ?_)
      rw [State.pulseExpiry, State.opTimer_eq ho hd hphase hcrash, hu]
    rw [hexec]
    refine ⟨fun hne => congrArg Host.Outcome.next ?_, fun ht => congrArg Host.Outcome.next ?_⟩
    · rw [hu]
      cases a with
      | t1 => exact absurd rfl hne
      | l c => rfl
      | c r => rfl
    · subst ht
      show u.endSuccess .t1 = _
      rw [State.endSuccess, State.dropOp_driving huo hphase]
      show State.finishIfDone ((u.offChan (.act .t1)).setOp .t1 none) = _
      rw [State.finishIfDone_dropped (s := s) (a := .t1) (by rw [hu]; rfl), hu]
      rfl
  · have hstill : o.phase ≠ .drive := by rw [hphase]; decide
    have hframe : Only [.now] s u := hu ▸ State.reach_only s d
    have hnow : u.now = max s.now d := by rw [hu]; rfl
    have hsensed : u.senseEquals a o.goal = sensedIs s a o.goal := by
      rw [State.senseEquals_eq u hne, hu]
      cases a <;> cases o.goal <;> rfl
    have hexec : exec (.settleEnd a) s = .next (u.endSettle a o) := by
      refine congrArg Host.Outcome.next ((State.live_of_not_held hl _).trans ?_)
      rw [State.settleExpiry, State.opTimer_eq ho hd hphase hcrash, hu]
    rw [hexec, State.endSettle, hsensed]
    refine ⟨fun hat => ?_, fun haway hleft => ?_, fun haway hleft => ?_⟩
    · rw [if_pos hat]
      obtain ⟨honly, hseq, hconfirmed, hlock, hchild⟩ := State.endSuccess_ended huo hstill
      refine ⟨_, rfl, Only.after honly rfl (hframe.mono rfl), Eq.trans (honly.same .now (by decide)) hnow, ?_, ?_, ?_, ?_⟩
      · rw [hseq, hu]
        rfl
      · rw [hu] at hconfirmed ⊢
        exact hconfirmed
      · rw [hu] at hlock ⊢
        exact hlock
      · rw [hu] at hchild ⊢
        exact hchild
    · rw [if_neg (by simp [haway]), if_neg hleft, hu]
      rfl
    · rw [if_neg (by simp [haway]), if_pos hleft]
      obtain ⟨honly, hseq, hconfirmed, hfailed⟩ := State.endFailed_ended huo hstill .noMove
      refine ⟨_, rfl, Only.after honly rfl (hframe.mono rfl), Eq.trans (honly.same .now (by decide)) hnow, ?_, ?_, ?_⟩
      · rw [hseq, hu]
        rfl
      · rw [hu] at hconfirmed ⊢
        exact hconfirmed
      · rw [hu] at hfailed ⊢
        exact hfailed

end Timers

end Sys2Proof.Machine
end

section
/-! Grants of drive slots (R26 to R28, R32), the crash line's detector and the crash operations (R44, R48). -/

namespace Sys2Proof.Machine
open Sys2Proof

theorem Actuators.set_twice {α : Type} (t : Actuators α) (a : Actuator) (x y : α) : (t.set a x).set a y = t.set a y := by
  cases a with
  | l c => simp [Actuators.set]
  | c r => simp [Actuators.set]
  | t1 => rfl

/-! ### SLOT_GRANT -/

section Grant
variable {s u : State} {a : Actuator} {o : Op}

theorem State.waits_eq (s : State) (a : Actuator) : s.waits a = (s.opAt a).any Op.waiting := by
  unfold State.waits
  cases s.opAt a <;> rfl

theorem Op.waiting_iff : o.waiting = true ↔ o.phase = .waitSlot ∧ o.slot = false ∧ o.crash = false := by
  simp [Op.waiting, and_assoc]

theorem State.nextGrant_eq (s : State) : s.nextGrant =
    if s.heldSlots < 3 then Actuator.list.find? (fun a => (s.opAt a).any Op.waiting) else none := by
  rw [State.nextGrant, funext s.waits_eq]

/-- R28: the withhold threshold in force is reached. -/
theorem State.tooHot_eq (s : State) (a : Actuator) : s.tooHot a = match a with
    | .l c => decide ((if s.mon.temp = .normal then 160 else 96) ≤ s.seq.heatL.get c)
    | .c r => decide ((if s.mon.temp = .normal then 160 else 96) ≤ s.seq.heatC.get r)
    | .t1 => false := by
  cases a <;> rfl

/-- R26: the direction of a pulse on the L channel of a side closure. -/
theorem lockDirection_side {c : Closure} (hc : c ≠ .tg) (p : LockPos) (x : Sensed) :
    State.lockDirection c p x = if p = .unlocked ∨ p = .locked ∧ x = .superlocked then .unlock else .lock := by
  cases c with
  | tg => exact absurd rfl hc
  | fd | fp | rd | rp => cases p <;> cases x <;> rfl

/-- R26: the direction of a pulse, by its channel and its goal. -/
theorem State.pulseDir_eq (s : State) (a : Actuator) (g : OpGoal) : s.pulseDir a g = match a, g with
    | .l .tg, .lock p => if p = .unlocked then ActDir.unlock else .lock
    | .l c, .lock p => if p = .unlocked ∨ p = .locked ∧ (s.closure c).lockSensed = .superlocked then .unlock else .lock
    | _, .child .engaged => .engage
    | _, _ => .release := by
  cases a with
  | l c =>
    cases g with
    | lock p =>
      cases c with
      | tg => rfl
      | fd => exact lockDirection_side (c := .fd) nofun p _
      | fp => exact lockDirection_side (c := .fp) nofun p _
      | rd => exact lockDirection_side (c := .rd) nofun p _
      | rp => exact lockDirection_side (c := .rp) nofun p _
    | child st => cases c <;> cases st <;> rfl
    | release => cases c <;> rfl
  | c r => cases g with
    | child st => cases st <;> rfl
    | lock _ | release => rfl
  | t1 => cases g with
    | child st => cases st <;> rfl
    | lock _ | release => rfl

/-- R26: the length of an ordinary pulse. -/
theorem State.pulseMs_eq (s : State) (a : Actuator) (g : OpGoal) : s.pulseMs a g = match a, g with
    | .l .tg, _ => 150
    | .l c, g => if g = .lock .superlocked ∨ (s.closure c).lockSensed = .superlocked then 250 else 150
    | .c _, _ => 150
    | .t1, _ => 400 := by
  cases a with
  | l c => cases c <;> simp [State.pulseMs]
  | c r => rfl
  | t1 => rfl

/-- R26: a pulse of T1 engages or releases, and every pulse drives its output in its direction. -/
theorem State.dirDrive_pulse (s : State) (a : Actuator) (g : OpGoal) :
    State.dirDrive a (s.pulseDir a g) = pulseDrive a (s.pulseDir a g) := by
  cases a with
  | l c => cases s.pulseDir (.l c) g <;> rfl
  | c r => cases s.pulseDir (.c r) g <;> rfl
  | t1 => cases g with
    | child st => cases st <;> rfl
    | lock _ | release => rfl

/-- R32: the heat counts of the L channels after a pulse start on a channel. -/
def heatedL (h : Closures Nat) : Actuator → Closures Nat
  | .l c => h.set c (heated (h.get c))
  | _ => h

/-- R32: the heat counts of the C channels after a pulse start on a channel. -/
def heatedC (h : Rears Nat) : Actuator → Rears Nat
  | .c r => h.set r (heated (h.get r))
  | _ => h

/-- R28: the pulse of a granted operation starts. -/
theorem State.startPulse_granted (s : State) (a : Actuator) (o : Op) {dir : ActDir} {len : Nat}
    (hdir : s.pulseDir a o.goal = dir) (hlen : s.pulseMs a o.goal = len) :
    (s.setOp a (some { o with slot := true })).startPulse a { o with slot := true } = { s with
      seq := { s.seq with
        ops := s.seq.ops.set a (some { o with
          phase := .drive, slot := true, direction := some dir, pulse := some len, timer := some (s.now + 10 * len) })
        heatL := heatedL s.seq.heatL a
        heatC := heatedC s.seq.heatC a }
      mon := { s.mon with chans := s.mon.chans.set (.act a) ((s.chan (.act a)).begun s.now (pulseDrive a dir)) } } := by
  obtain ⟨u, hu⟩ : ∃ u, u = s.setOp a (some { o with slot := true }) := ⟨_, rfl⟩
  have hudir : u.pulseDir a o.goal = dir := by rw [← hdir, hu]; rfl
  have hulen : u.pulseMs a o.goal = len := by rw [← hlen, hu]; rfl
  have hdrive : State.dirDrive a dir = pulseDrive a dir := by
    rw [← hdir]
    exact s.dirDrive_pulse a o.goal
  have hms : Config.ms len = 10 * len := rfl
  rw [← hu]
  unfold State.startPulse
  dsimp only
  rw [hudir, hulen, hdrive, hms, hu]
  cases a <;> simp [State.setOp, State.driveChan, State.addHeat, State.setChan, State.chan, ChannelRec.driven, ChannelRec.begun,
    heated, satAdd, heatedL, heatedC, Actuators.set_twice]

/-- Settles O39: the first waiting operation is checked, withheld, held back or driven. -/
theorem slotGrant : Obligations.SlotGrant := by
  intro s hl
  have hlive : exec .slotGrant s = .next s.grantSlot := congrArg Host.Outcome.next (State.live_of_not_held hl _)
  have hnext := s.nextGrant_eq
  rw [hlive]
  refine ⟨fun hnone => ?_, fun hfree a ha o ho hot hhot => ?_⟩
  · have hstill : s.nextGrant = none := by
      rw [hnext]
      rcases hnone with hfull | hnone
      · exact if_neg (by omega)
      · split
        · exact List.find?_eq_none.mpr fun a _ => by simp [hnone a]
        · rfl
    rw [State.grantSlot, hstill]
  · rw [if_pos hfree, ha] at hnext
    have hwaiting : o.waiting = true := by
      have hsome := List.find?_some ha
      rw [ho] at hsome
      exact hsome
    obtain ⟨hphase, -, -⟩ := Op.waiting_iff.mp hwaiting
    obtain ⟨u, hu⟩ : ∃ u, u = s.setOp a (some { o with slot := true }) := ⟨_, rfl⟩
    have huo : u.opAt a = some { o with slot := true } := by rw [hu, State.setOp_opAt_self]
    have hgrant : s.grantSlot = u.pulseCheck a := by
      rw [State.grantSlot, hnext]
      dsimp only
      rw [ho, hu]
    have hchan : u.chan (.act a) = s.chan (.act a) := by rw [hu]; rfl
    have htoo : u.tooHot a = hot := by
      rw [hu, hhot]
      exact State.tooHot_eq s a
    have hsupply : u.mon.supply = s.mon.supply := by rw [hu]; rfl
    have hchecked : u.pulseCheck a = if (s.chan (.act a)).withdrawn then u.endFailed a .withdrawn
        else if hot then u.endFailed a .hotWithheld
        else if s.mon.supply = .cut then u else u.startPulse a { o with slot := true } := by
      rw [State.pulseCheck]
      simp only [huo, hchan, htoo, hsupply]
    rw [hgrant, hchecked]
    refine ⟨fun hrefused => ?_, fun hin hcool hcut => ?_, fun hin hcool hcut dir hdir len hlen => ?_⟩
    · have hfailed : ∀ why, ∃ t, Host.Outcome.next (u.endFailed a why) = (Host.Outcome.next t : Host.Outcome State Fault Refusal) ∧
          Only [.closures, .childs, .seq, .notices] s t ∧
          t.seq = { s.seq with ops := s.seq.ops.set a none, queue := queueAfterEnd s a } ∧ confirmedIs s t a false ∧
          failNamed s.notices t.notices (namedClosure a) why (commandPort s) := fun why => by
        obtain ⟨honly, hseq, hconfirmed, hnamed⟩ := State.endFailed_ended huo (by rw [hphase]; decide) why
        have hframe : Only [.seq] s u := hu ▸ State.setOp_only s a _
        have hqueue : queueAfterEnd u a = queueAfterEnd s a := by
          have hother : ∀ b, b ≠ a → u.opAt b = s.opAt b := fun b hb => by rw [hu, State.setOp_opAt, if_neg hb]
          have huq : u.seq.queue = s.seq.queue := by rw [hu]; rfl
          unfold queueAfterEnd
          rw [huq]
          refine ite_congr (propext (and_congr_right' (forall₂_congr fun b _ => forall_congr' fun hb => ?_))) (fun _ => rfl) fun _ => rfl
          rw [hother b hb]
        refine ⟨_, rfl, Only.after honly rfl (hframe.mono rfl), ?_, ?_, ?_⟩
        · rw [hseq, hqueue, hu]
          simp [State.setOp, Actuators.set_twice]
        · rw [hu] at hconfirmed ⊢
          exact hconfirmed
        · rw [hu] at hnamed ⊢
          exact hnamed
      cases hw : (s.chan (.act a)).withdrawn with
      | true => exact hfailed .withdrawn
      | false =>
        rw [show hot = true from hrefused.resolve_left (by simp [hw])]
        exact hfailed .hotWithheld
    · rw [hin, hcool, if_neg Bool.false_ne_true, if_neg Bool.false_ne_true, if_pos hcut, hu]
      rfl
    · rw [hin, hcool, if_neg Bool.false_ne_true, if_neg Bool.false_ne_true, if_neg hcut, hu]
      exact congrArg Host.Outcome.next (State.startPulse_granted s a o ((s.pulseDir_eq a o.goal).trans hdir.symm)
        ((s.pulseMs_eq a o.goal).trans hlen.symm))

end Grant

/-! ### The crash line's detector and the course of a crash operation (R44, R48) -/

section Crash
variable {s u : State} {c : Closure} {o : Op} {d : Nat}

/-- R44: the line's table. -/
theorem State.crashLine_live (hl : s.resetLine = false) (b : Bool) : s.crashLine b = { s with crash := { s.crash with
    line := b
    detector := match s.crash.detector, b with
      | .released, true => .asserting
      | .asserting, false => .released
      | .asserted, false => .releasing
      | .releasing, true => .asserted
      | x, _ => x
    timer := match s.crash.detector, b with
      | .released, true | .asserted, false => some (s.now + 20)
      | .asserting, false | .releasing, true => none
      | _, _ => s.crash.timer } } := by
  unfold State.crashLine
  dsimp only
  rw [hl, if_neg Bool.false_ne_true]
  cases hd : s.crash.detector <;> cases b <;> simp [State.setDetector, Config.crashFilter, Config.ms]

/-- R48: a crash operation in SETTLE ends with its closure confirmed or not. -/
theorem State.dropCrash_confirmed (ho : s.opAt (.l c) = some o) (hphase : o.phase = .settle) (v : Bool) :
    Only [.closures, .seq, .notices] s ((s.dropOp (.l c)).writeConfirmed c v) ∧
    ((s.dropOp (.l c)).writeConfirmed c v).seq = { s.seq with ops := s.seq.ops.set (.l c) none } ∧
    confirmedIs s ((s.dropOp (.l c)).writeConfirmed c v) (.l c) v ∧
    ((s.closure c).confirmed ≠ v → lockNamed ((s.dropOp (.l c)).writeConfirmed c v).notices c) ∧
    ∀ p, (((s.dropOp (.l c)).writeConfirmed c v).notices.get p).actuationFailed = (s.notices.get p).actuationFailed := by
  obtain ⟨m, hm⟩ : ∃ m, m = s.setOp (.l c) none := ⟨_, rfl⟩
  rw [State.dropOp_still ho (by rw [hphase]; decide), ← hm]
  have hframe : Only [.closures, .notices] m (m.writeConfirmed c v) := State.writeConfirmed_only m c v
  have hconfirmed := State.confirmEnd_confirmed m (.l c) v
  have hlock : (m.closure c).confirmed ≠ v → lockNamed (m.confirmEnd (.l c) v).notices c := State.confirmEnd_lockNamed
  have hfailed := State.confirmEnd_failed m (.l c) v
  have hfirst : Only [.seq] s m := hm ▸ State.setOp_only s (.l c) none
  refine ⟨Only.after hframe rfl (hfirst.mono rfl), Eq.trans (hframe.same .seq (by decide)) (by rw [hm]; rfl), ?_, ?_, ?_⟩
  · rw [hm] at hconfirmed ⊢
    exact hconfirmed
  · rw [hm] at hlock ⊢
    exact hlock
  · rw [hm] at hfailed ⊢
    exact hfailed

/-- R48: a crash pulse starts. -/
theorem State.driveCrash_eq (s : State) (c : Closure) (n : Nat) : s.driveCrash c n = { s with
    seq := { s.seq with
      ops := s.seq.ops.set (.l c) (some (crashPulse n s.now))
      heatL := s.seq.heatL.set c (heated (s.seq.heatL.get c)) }
    mon := { s.mon with chans := s.mon.chans.set (.act (.l c)) ((s.chan (.act (.l c))).begun s.now .onSecond) } } := rfl

/-- Settles O42: the detector follows its table, and a crash operation its pulse and its SETTLE. -/
theorem crashDetectorAndOperations : Obligations.CrashDetectorAndOperations := by
  refine ⟨fun s b hl => congrArg Host.Outcome.next (State.crashLine_live hl b), fun s b hl => congrArg Host.Outcome.next ?_,
    fun s hl hreleasing d hd => congrArg Host.Outcome.next ((State.live_of_not_held hl _).trans ?_),
    fun s c hl o ho hcrash d hd => ?_⟩
  · unfold State.crashLine
    dsimp only
    rw [hl, if_pos rfl]
  · unfold State.crashTimer
    rw [hd, hreleasing]
    rfl
  · obtain ⟨u, hu⟩ : ∃ u, u = s.reach d := ⟨_, rfl⟩
    have huo : u.opAt (.l c) = some o := by rw [hu]; exact ho
    have hframe : Only [.now] s u := hu ▸ State.reach_only s d
    have hnow : u.now = max s.now d := by rw [hu]; rfl
    have hsensed : (u.closure c).lockSensed = (s.closure c).lockSensed := by rw [hu]; rfl
    have hsettle : o.phase = .settle → exec (.crashSettleEnd c) s = .next (u.endCrashSettle c o) := fun hphase => by
      refine congrArg Host.Outcome.next ((State.live_of_not_held hl _).trans ?_)
      rw [State.crashSettleExpiry, State.opTimer_eq ho hd hphase hcrash, hu]
    refine ⟨fun hphase => congrArg Host.Outcome.next ((State.live_of_not_held hl _).trans ?_), fun hphase hopen => ?_,
      fun hphase hopen hleft => ?_, fun hphase hopen hleft => ?_⟩
    · rw [State.crashPulseExpiry, State.opTimer_eq ho hd hphase hcrash]
      rfl
    · rw [hsettle hphase, State.endCrashSettle, hsensed, if_pos hopen]
      obtain ⟨honly, hseq, hconfirmed, hlock, -⟩ := State.dropCrash_confirmed huo hphase true
      refine ⟨_, rfl, Only.after honly rfl (hframe.mono rfl), Eq.trans (honly.same .now (by decide)) hnow, ?_, ?_, fun h => ?_⟩
      · rw [hseq, hu]
        rfl
      · rw [hu] at hconfirmed ⊢
        exact hconfirmed
      · refine hlock ?_
        rw [show (u.closure c).confirmed = (s.closure c).confirmed by rw [hu]; rfl, h]
        decide
    · rw [hsettle hphase, State.endCrashSettle, hsensed, if_neg hopen, if_neg hleft, State.driveCrash_eq, hu]
      rfl
    · rw [hsettle hphase, State.endCrashSettle, hsensed, if_neg hopen, if_pos hleft]
      obtain ⟨honly, hseq, hconfirmed, -, hfailed⟩ := State.dropCrash_confirmed huo hphase false
      obtain ⟨k, hk⟩ : ∃ k, k = (u.dropOp (.l c)).writeConfirmed c false := ⟨_, rfl⟩
      rw [State.failCrash, ← hk]
      rw [← hk] at honly hseq hconfirmed hfailed
      have hraised := State.raiseActuationFailed_only k c .noMove none
      refine ⟨_, rfl, Only.after hraised rfl (Only.after honly rfl (hframe.mono rfl)),
        Eq.trans (honly.same .now (by decide)) hnow, ?_, ?_, ?_⟩
      · rw [show (k.raiseActuationFailed c .noMove none).seq = k.seq from rfl, hseq, hu]
        rfl
      · rw [hu] at hconfirmed
        exact hconfirmed
      · refine (raiseActuationFailed_named k c .noMove none).seen (fun p => (hfailed p).trans ?_) fun _ => rfl
        rw [hu]
        rfl

end Crash

end Sys2Proof.Machine
end

section
/-! Operations on each closure in turn, and the start of commands (R20, R24, R36, R38 to R41). -/

namespace Sys2Proof.Machine
open Sys2Proof

/-! ### A fold over distinct places, each of which is acted on alone -/

/-- An operation on each place of a list in turn acts on a place as it does alone, on a state in which that place stands as
it stood (`R`), and in which what every step keeps (`P`) holds. -/
theorem foldl_at {ι : Type} {f : State → ι → State} {R : ι → State → State → Prop} {P : State → Prop}
    (hrefl : ∀ x s, R x s s) (htrans : ∀ x s t u, R x s t → R x t u → R x s u)
    (hone : ∀ t v x, x ≠ v → R x t (f t v)) (hkeeps : ∀ t v, P t → P (f t v)) {l : List ι} (hl : l.Nodup) {x : ι} (hx : x ∈ l)
    {s : State} (hs : P s) : ∃ t, R x s t ∧ P t ∧ R x (f t x) (l.foldl f s) := by
  have hother : ∀ (l : List ι) (s : State), x ∉ l → R x s (l.foldl f s) := by
    intro l
    induction l with
    | nil => exact fun s _ => hrefl x s
    | cons v l ih =>
      intro s hnot
      rw [List.mem_cons, not_or] at hnot
      exact htrans x _ _ _ (hone s v x hnot.1) (ih _ hnot.2)
  obtain ⟨before, after, rfl⟩ := List.append_of_mem hx
  rw [List.nodup_append, List.nodup_cons] at hl
  obtain ⟨-, ⟨hafter, -⟩, hboth⟩ := hl
  have hbefore : x ∉ before := fun h => hboth x h x List.mem_cons_self rfl
  refine ⟨before.foldl f s, hother before s hbefore, foldl_keeps hkeeps before hs, ?_⟩
  rw [List.foldl_append, List.foldl_cons]
  exact hother after _ hafter

/-- A closure, its L channel's operation, heat and output are the same in two states, and LOCK_CHANGED has not let go of it. -/
structure SameClosure (c : Closure) (s t : State) : Prop where
  record : t.closure c = s.closure c
  op : t.opAt (.l c) = s.opAt (.l c)
  heat : t.seq.heatL.get c = s.seq.heatL.get c
  chan : t.chan (.act (.l c)) = s.chan (.act (.l c))
  named : lockNamed s.notices c → lockNamed t.notices c

section Closures
variable {s t u : State} {c c' : Closure}

namespace SameClosure

theorem refl (c : Closure) (s : State) : SameClosure c s s := ⟨rfl, rfl, rfl, rfl, id⟩

theorem after (k : SameClosure c t u) (h : SameClosure c s t) : SameClosure c s u :=
  ⟨k.record.trans h.record, k.op.trans h.op, k.heat.trans h.heat, k.chan.trans h.chan, fun x => k.named (h.named x)⟩

theorem of_only {ps : List Part} (h : Only ps s t)
    (hd : [Part.closures, .seq, .mon, .notices].all (fun x => !ps.contains x) = true := by rfl) : SameClosure c s t := by
  have hmem : ∀ x ∈ [Part.closures, .seq, .mon, .notices], x ∉ ps := fun x hx => by
    simpa using List.all_eq_true.mp hd x hx
  have hclosures : t.closures = s.closures := h.same .closures (hmem _ (by decide))
  have hseq : t.seq = s.seq := h.same .seq (hmem _ (by decide))
  have hmon : t.mon = s.mon := h.same .mon (hmem _ (by decide))
  have hnotices : t.notices = s.notices := h.same .notices (hmem _ (by decide))
  exact ⟨by simp only [State.closure, hclosures], by simp only [State.opAt, hseq], by rw [hseq],
    by simp only [State.chan, hmon], fun hn => by rwa [hnotices]⟩

theorem raiseLockChanged (s : State) (c c' : Closure) : SameClosure c s (s.raiseLockChanged c') := by
  refine ⟨rfl, rfl, rfl, rfl, fun hn p => ?_⟩
  obtain ⟨d, hd, hc⟩ := hn p
  have hset : ((s.raiseLockChanged c').notices.get p).lockChanged = some (d.set c' true) := by
    have hraised : ((s.raiseLockChanged c').notices.get p).lockChanged =
        some ((((s.notices.get p).lockChanged).getD (.all false)).set c' true) := by cases p <;> rfl
    rw [hraised, hd]
    rfl
  refine ⟨_, hset, ?_⟩
  rw [Closures.get_set]
  split
  · rfl
  · exact hc

theorem setClosure (s : State) (h : c ≠ c') (r : ClosureRec) : SameClosure c s (s.setClosure c' r) :=
  ⟨by rw [State.setClosure_closure, if_neg h], rfl, rfl, rfl, id⟩

theorem writeClosure (s : State) (h : c ≠ c') (r : ClosureRec) : SameClosure c s (s.writeClosure c' r) := by
  unfold State.writeClosure
  split
  · exact (raiseLockChanged _ c c').after (setClosure s h r)
  · exact setClosure s h r

theorem setOp (s : State) {a : Actuator} (h : a ≠ .l c) (o : Option Op) : SameClosure c s (s.setOp a o) :=
  ⟨rfl, by rw [State.setOp_opAt, if_neg h.symm], rfl, rfl, id⟩

end SameClosure

/-- What has been done on every closure in turn, seen at one closure. -/
theorem foldl_closure {f : State → Closure → State} {P : State → Prop} (hone : ∀ t v x, x ≠ v → SameClosure x t (f t v))
    (hkeeps : ∀ t v, P t → P (f t v)) (hs : P s) (c : Closure) :
    ∃ t, SameClosure c s t ∧ P t ∧ SameClosure c (f t c) (Closure.list.foldl f s) :=
  foldl_at SameClosure.refl (fun _ _ _ _ h k => k.after h) hone hkeeps (by decide) (by cases c <;> decide) hs

end Closures

/-! ### The start of a command on its closures (R24) -/

section Start
variable {s t : State} {k : CmdKind} {src : CmdSource} {c : Closure} {g : LockPos}

/-- R2, R3: the record of a closure that a command's start writes. -/
def goalWritten (r : ClosureRec) (g : LockPos) (src : LastSource) : ClosureRec :=
  { r with lockGoal := g, lastSource := src, confirmed := r.confirmed && decide (r.lockGoal = g) }

theorem State.writeGoal_eq (s : State) (c : Closure) (g : LockPos) (src : LastSource) :
    s.writeGoal c g src = s.writeClosure c (goalWritten (s.closure c) g src) := by
  unfold State.writeGoal goalWritten
  by_cases h : (s.closure c).lockGoal = g <;> simp [h]

theorem State.writeGoal_closure (s : State) (c : Closure) (g : LockPos) (src : LastSource) :
    (s.writeGoal c g src).closure c = goalWritten (s.closure c) g src := by
  rw [State.writeGoal_eq, State.writeClosure_closure, if_pos rfl]

theorem State.writeGoal_named (src : LastSource) (h : (s.closure c).lockGoal ≠ g ∨ (s.closure c).lastSource ≠ src) :
    lockNamed (s.writeGoal c g src).notices c := by
  rw [State.writeGoal_eq]
  exact writeClosure_named (h.elim (fun h => .inr (.inl h)) (fun h => .inr (.inr (.inr h))))

theorem State.createLockOp_opAt (s : State) (c : Closure) (h : s.opAt (.l c) = none) :
    (s.createLockOp c).opAt (.l c) = if (s.closure c).confirmed = false ∨ (s.closure c).lockSensed ≠ (s.closure c).lockGoal.sensed
      then some (created (.lock (s.closure c).lockGoal) 2) else none := by
  unfold State.createLockOp
  dsimp only
  simp only [Bool.or_eq_true, Bool.not_eq_true', bne_iff_ne]
  split
  · rw [State.setOp_opAt_self]
    rfl
  · exact h

theorem SameClosure.createLockOp (s : State) {c c' : Closure} (h : c ≠ c') : SameClosure c s (s.createLockOp c') := by
  unfold State.createLockOp
  dsimp only
  split
  · exact .setOp s (by simpa using Ne.symm h) _
  · exact .refl c s

theorem SameClosure.startOn (k : CmdKind) (src : CmdSource) (s : State) (v : Closure) (x : Closure) (h : x ≠ v) :
    SameClosure x s (State.startOn k src s v) := by
  unfold State.startOn
  split
  · rw [State.writeGoal_eq]
    exact (SameClosure.createLockOp _ h).after (.writeClosure s h _)
  · exact .refl x s

/-- R24: what a command's start leaves on a closure. -/
structure StartedOn (k : CmdKind) (src : CmdSource) (s t : State) (c : Closure) : Prop where
  target : ∀ g, k.goal c = some g →
    t.closure c = goalWritten (s.closure c) g (src.last.getD (s.closure c).lastSource) ∧
    ((s.closure c).lockGoal ≠ g ∨ (s.closure c).lastSource ≠ src.last.getD (s.closure c).lastSource → lockNamed t.notices c) ∧
    t.opAt (.l c) = (if (t.closure c).confirmed = false ∨ (s.closure c).lockSensed ≠ g.sensed then
      some (created (.lock g) 2) else none)
  other : k.goal c = none → t.closure c = s.closure c ∧ t.opAt (.l c) = none

theorem StartedOn.of_startOn (h : s.opAt (.l c) = none) : StartedOn k src s (State.startOn k src s c) c := by
  constructor
  case target =>
    intro g hg
    obtain ⟨u, hu⟩ : ∃ u, u = s.writeGoal c g (src.last.getD (s.closure c).lastSource) := ⟨_, rfl⟩
    have hstart : State.startOn k src s c = u.createLockOp c := by
      rw [State.startOn, hg, hu]
    have hrec : u.closure c = goalWritten (s.closure c) g (src.last.getD (s.closure c).lastSource) := by
      rw [hu, State.writeGoal_closure]
    have hframe := State.createLockOp_only u c
    have hkept : (u.createLockOp c).closure c = u.closure c := by
      rw [State.closure, hframe.same .closures (by decide)]
      rfl
    have hop : u.opAt (.l c) = none := by
      rw [State.opAt, hu, (State.writeGoal_only s c g _).same .seq (by decide)]
      exact h
    rw [hstart, hkept, State.createLockOp_opAt u c hop, hrec]
    refine ⟨rfl, fun hchange => ?_, rfl⟩
    rw [show (u.createLockOp c).notices = u.notices from hframe.same .notices (by decide), hu]
    exact State.writeGoal_named _ hchange
  case other =>
    intro hg
    have hstart : State.startOn k src s c = s := by rw [State.startOn, hg]
    rw [hstart]
    exact ⟨rfl, h⟩

theorem StartedOn.seen {u t' : State} (h : StartedOn k src u t c) (hs : SameClosure c s u) (ht : SameClosure c t t') :
    StartedOn k src s t' c := by
  constructor
  case target =>
    intro g hg
    obtain ⟨hrec, hnamed, hop⟩ := h.target g hg
    rw [hs.record] at hrec hnamed hop
    rw [ht.record, ht.op]
    exact ⟨hrec, fun hchange => ht.named (hnamed hchange), hop⟩
  case other =>
    intro hg
    obtain ⟨hrec, hop⟩ := h.other hg
    rw [ht.record, ht.op, ← hs.record]
    exact ⟨hrec, hop⟩

/-- R24, steps 3 and 4, on the five closures. -/
theorem startedOn_foldl (h : ∀ a, s.opAt a = none) (c : Closure) :
    StartedOn k src s (Closure.list.foldl (State.startOn k src) s) c := by
  obtain ⟨u, hs, -, ht⟩ := foldl_closure (P := fun _ => True) (SameClosure.startOn k src) (fun _ _ _ => trivial) (s := s)
    trivial c
  exact (StartedOn.of_startOn (hs.op.trans (h _))).seen hs ht

end Start

end Sys2Proof.Machine
end

section
/-! COMMAND_START (R20, R24, R36, R38 to R41). -/

namespace Sys2Proof.Machine
open Sys2Proof

/-! ### What the start of a lock or unlock command leaves beside the closures -/

section Beside
variable {s t : State} {k : CmdKind} {src : CmdSource}

theorem Sequencer.eq_with_ops {q q' : Sequencer} (h : { q with ops := Actuators.all none } = { q' with ops := Actuators.all none }) :
    q = { q' with ops := q.ops } := by
  cases q
  cases q'
  simp only [Sequencer.mk.injEq, true_and] at h ⊢
  exact h

theorem State.createLockOp_beside (s : State) (c : Closure) :
    { (s.createLockOp c).seq with ops := Actuators.all none } = { s.seq with ops := Actuators.all none } ∧
    (s.createLockOp c).notices = s.notices ∧ ∀ a, (∀ c, a ≠ .l c) → (s.createLockOp c).opAt a = s.opAt a := by
  unfold State.createLockOp
  dsimp only
  split
  · exact ⟨rfl, rfl, fun a ha => by rw [State.setOp_opAt, if_neg (ha c)]⟩
  · exact ⟨rfl, rfl, fun _ _ => rfl⟩

theorem State.startOn_beside (k : CmdKind) (src : CmdSource) (s : State) (c : Closure) :
    { (State.startOn k src s c).seq with ops := Actuators.all none } = { s.seq with ops := Actuators.all none } ∧
    (∀ p, ((State.startOn k src s c).notices.get p).superlockRefused = (s.notices.get p).superlockRefused) ∧
    ∀ a, (∀ c, a ≠ .l c) → (State.startOn k src s c).opAt a = s.opAt a := by
  unfold State.startOn
  split
  next g _ =>
    obtain ⟨u, hu⟩ : ∃ u, u = s.writeGoal c g (src.last.getD (s.closure c).lastSource) := ⟨_, rfl⟩
    obtain ⟨hseq, hnotices, hops⟩ := u.createLockOp_beside c
    have huseq : u.seq = s.seq := by rw [hu, (State.writeGoal_only s c g _).same .seq (by decide)]
    have hunotices : ∀ p, (u.notices.get p).superlockRefused = (s.notices.get p).superlockRefused := fun p => by
      rw [hu, State.writeGoal_eq]
      unfold State.writeClosure
      split
      · cases p <;> rfl
      · rfl
    rw [← hu]
    refine ⟨by rw [hseq, huseq], fun p => by rw [hnotices, hunotices p], fun a ha => (hops a ha).trans ?_⟩
    rw [State.opAt, huseq]
    rfl
  · exact ⟨rfl, fun _ => rfl, fun _ _ => rfl⟩

theorem startOn_foldl_beside (k : CmdKind) (src : CmdSource) (l : List Closure) (s : State) :
    (l.foldl (State.startOn k src) s).seq = { s.seq with ops := (l.foldl (State.startOn k src) s).seq.ops } ∧
    (∀ p, ((l.foldl (State.startOn k src) s).notices.get p).superlockRefused = (s.notices.get p).superlockRefused) ∧
    ∀ a, (∀ c, a ≠ .l c) → (l.foldl (State.startOn k src) s).opAt a = s.opAt a :=
  ⟨Sequencer.eq_with_ops (foldl_read (g := fun t => { t.seq with ops := Actuators.all none })
      (fun t c => (State.startOn_beside k src t c).1) l s),
    fun p => foldl_read (g := fun t => (t.notices.get p).superlockRefused) (fun t c => (State.startOn_beside k src t c).2.1 p) l s,
    fun a ha => foldl_read (g := fun t => t.opAt a) (fun t c => (State.startOn_beside k src t c).2.2 a ha) l s⟩

/-- R38: the relock timer at a command's start. -/
theorem State.relockAtStart_eq (s : State) (k : CmdKind) (src : CmdSource) : s.relockAtStart k src = { s with seq := { s.seq with
    relock := if (k = .unlockAll ∨ k = .unlockDriver) ∧ (src = .b ∨ src.origin ≠ .key ∧ src.origin ≠ .other) ∧
        s.config.relockTime ≠ 0 then some (s.now + 10000 * s.config.relockTime) else none } } := by
  have harms : src.arms = true ↔ src = .b ∨ src.origin ≠ .key ∧ src.origin ≠ .other := by
    cases src <;> simp [CmdSource.arms, CmdSource.origin]
  unfold State.relockAtStart
  simp only [Bool.and_eq_true, Bool.or_eq_true, decide_eq_true_eq, bne_iff_ne, harms, and_assoc]
  rfl

/-- R36: the first superlock condition that fails. -/
theorem State.superlockFailure_eq (s : State) : s.superlockFailure =
    if ∃ c ∈ Closure.list, (s.closure c).latch ≠ .closed then some SuperlockReason.latch
    else if s.win.mode ≠ .parked then some .notParked
    else if ∃ a ∈ Side.list, (s.chan (.act (.l (sideClosure a)))).withdrawn = true then some .withdrawn else none := by
  unfold State.superlockFailure
  simp only [List.any_eq_true, bne_iff_ne]

theorem raiseSuperlockRefused_get (s : State) (why : SuperlockReason) (port : Option Port) (p : Port) :
    ((s.raiseSuperlockRefused why port).notices.get p).superlockRefused =
      if p = .b ∨ p = .k ∧ port = some .k then some why else (s.notices.get p).superlockRefused := by
  cases p with
  | b | d => rfl
  | k =>
    simp only [State.raiseSuperlockRefused, Ports.get, reduceCtorEq, false_or, true_and]
    split <;> rfl

end Beside

/-! ### The head starts -/

section Head
variable {s : State} {e : Entry}

theorem State.canStart_iff (s : State) : s.canStart = true ↔
    ∃ e, s.seq.queue.head? = some e ∧ e.running = false ∧ s.mon.temp ≠ .hot ∧ s.crashOps = false := by
  unfold State.canStart
  cases s.seq.queue with
  | nil => simp
  | cons e rest => simp [and_assoc]

theorem State.crashOps_iff (s : State) : s.crashOps = true ↔ ∃ c, (s.opAt (.l c)).any (·.crash) = true := by
  unfold State.crashOps
  rw [List.any_eq_true]
  have hop : ∀ c, s.seq.ops.l.get c = s.opAt (.l c) := fun _ => rfl
  constructor
  · rintro ⟨c, -, h⟩
    refine ⟨c, ?_⟩
    rw [hop] at h
    cases ho : s.opAt (.l c) <;> simp_all
  · rintro ⟨c, h⟩
    refine ⟨c, by cases c <;> decide, ?_⟩
    rw [hop]
    cases ho : s.opAt (.l c) <;> simp_all

/-- R24: a head that may not start stays. -/
theorem exec_commandStart_held (h : (∀ e, s.seq.queue.head? = some e → e.running = true) ∨ s.mon.temp = .hot ∨
    ∃ c, (s.opAt (.l c)).any (·.crash) = true) : exec .commandStart s = .next s := by
  have hcannot : s.canStart = false := by
    rw [← Bool.not_eq_true, State.canStart_iff]
    rintro ⟨e, he, hrun, hhot, hcrash⟩
    rcases h with h | h | h
    · rw [h e he] at hrun
      cases hrun
    · exact hhot h
    · rw [(State.crashOps_iff s).mpr h] at hcrash
      cases hcrash
  refine congrArg Host.Outcome.next ?_
  unfold State.live
  split
  · rfl
  · rw [State.tryHead, hcannot]
    rfl

/-- R24: the state in which the head's command writes its goals, for the kind `k` that it runs as. -/
def State.headed (s : State) (k : CmdKind) (e : Entry) (why : Option SuperlockReason) : State :=
  let s := s.setQueue ({ e with kind := k, running := true } :: s.seq.queue.tail)
  match why with
  | some why => s.raiseSuperlockRefused why e.port
  | none => s

/-- R24, R36: the head starts. -/
theorem exec_commandStart (hl : s.resetLine = false) (hhot : s.mon.temp ≠ .hot) (hops : ∀ a, s.opAt a = none)
    (he : s.seq.queue.head? = some e) (hrun : e.running = false) {why : Option SuperlockReason}
    (hwhy : why = if e.kind = .superlockAll then s.superlockFailure else none) {k : CmdKind}
    (hk : k = if why = none then e.kind else .lockAll) :
    exec .commandStart s = .next ((s.headed k e why).startKind k e).finishIfDone := by
  have hcan : s.canStart = true := by
    refine (State.canStart_iff s).mpr ⟨e, he, hrun, hhot, ?_⟩
    rw [← Bool.not_eq_true, State.crashOps_iff]
    rintro ⟨c, hc⟩
    rw [hops] at hc
    cases hc
  refine congrArg Host.Outcome.next ((State.live_of_not_held hl _).trans ?_)
  rw [State.tryHead, hcan, if_pos rfl]
  unfold State.startHead State.headed
  cases hq : s.seq.queue with
  | nil => rw [hq] at he; cases he
  | cons f rest =>
    rw [hq] at he
    cases he
    dsimp only [List.tail_cons]
    rw [← hwhy]
    rw [hk]
    cases why <;> rfl

end Head

/-! ### The three kinds of start -/

section Kinds
variable {s u : State} {e f : Entry} {k : CmdKind} {rest : List Entry}

/-- R25: a RUNNING head leaves when no ordinary operation is left. -/
theorem State.finishIfDone_running (hq : u.seq.queue = f :: rest) (hrun : f.running = true) :
    u.finishIfDone = { u with seq := { u.seq with queue := if u.ordinaryOps = true then f :: rest else rest } } := by
  unfold State.finishIfDone
  rw [hq]
  dsimp only
  cases ho : u.ordinaryOps
  · rw [hrun]
    rfl
  · rw [← hq]
    simp

theorem State.startKind_targets (s : State) (e : Entry) (hclass : k.lockClass = true) (hk : k ≠ .releaseTailgate) :
    s.startKind k e = (Closure.list.foldl (State.startOn k e.source) s).relockAtStart k e.source := by
  cases k with
  | releaseTailgate => exact absurd rfl hk
  | childSet r st => cases hclass
  | lockAll | superlockAll | unlockAll | unlockDriver | unlockOne _ | unlockTailgate => rfl

theorem CmdSource.last_some {x : CmdSource} (h : x ≠ .tgButton) : ∃ y, x.last = some y := by
  cases x with
  | tgButton => exact absurd rfl h
  | b | kFob _ | kPassive _ | dButton | key | innerHandle | relock => exact ⟨_, rfl⟩

theorem State.headed_seq (s : State) (k : CmdKind) (e : Entry) (why : Option SuperlockReason) :
    (s.headed k e why).seq = { s.seq with queue := { e with kind := k, running := true } :: s.seq.queue.tail } := by
  cases why <;> rfl

theorem State.headed_only (s : State) (k : CmdKind) (e : Entry) (why : Option SuperlockReason) :
    Only [.seq, .notices] s (s.headed k e why) := by
  cases why with
  | none => exact (State.setQueue_only s _).mono rfl
  | some why => exact Only.after (State.raiseSuperlockRefused_only _ why e.port) rfl ((State.setQueue_only s _).mono rfl)

theorem State.headed_refused (s : State) (k : CmdKind) (e : Entry) (why : Option SuperlockReason) (p : Port) :
    ((s.headed k e why).notices.get p).superlockRefused =
      if why ≠ none ∧ (p = .b ∨ p = .k ∧ e.port = some .k) then why else (s.notices.get p).superlockRefused := by
  cases why with
  | none => rw [if_neg (fun h => h.1 rfl)]; rfl
  | some why =>
    refine (raiseSuperlockRefused_get _ why e.port p).trans ?_
    simp only [ne_eq, reduceCtorEq, not_false_eq_true, true_and]
    rfl

theorem SameClosure.headed (s : State) (k : CmdKind) (e : Entry) (why : Option SuperlockReason) (c : Closure) :
    SameClosure c s (s.headed k e why) := by
  cases why with
  | none => exact ⟨rfl, rfl, rfl, rfl, id⟩
  | some why =>
    refine ⟨rfl, rfl, rfl, rfl, fun hn p => ?_⟩
    obtain ⟨d, hd, hc⟩ := hn p
    refine ⟨d, Eq.trans ?_ hd, hc⟩
    cases p with
    | b | d => rfl
    | k =>
      show (if e.port = some .k then _ else _ : NoticeSet).lockChanged = _
      split <;> rfl

/-- R24: the operations that a lock or unlock command's start has created are the only ones. -/
theorem ordinaryOps_started (hother : ∀ a, (∀ c, a ≠ .l c) → u.opAt a = none)
    (hcreated : ∀ c, u.opAt (.l c) = none ∨ ∃ g, u.opAt (.l c) = some (created (.lock g) 2)) :
    u.ordinaryOps = false ↔ ∀ c ∈ Closure.list, u.opAt (.l c) = none := by
  rw [State.ordinaryOps, List.any_eq_false]
  constructor
  · intro h c _
    rcases hcreated c with hnone | ⟨g, hg⟩
    · exact hnone
    · have := h (.l c) (by cases c <;> decide)
      rw [hg] at this
      simp [created] at this
  · intro h a _
    have hnone : u.opAt a = none := by
      cases a with
      | l c => exact h c (by cases c <;> decide)
      | c r => exact hother _ nofun
      | t1 => exact hother _ nofun
    rw [hnone]
    simp

/-- R24, R36, R38: a lock or unlock command starts. -/
theorem exec_commandStart_targets (hl : s.resetLine = false) (hhot : s.mon.temp ≠ .hot) (hops : ∀ a, s.opAt a = none)
    (he : s.seq.queue.head? = some e) (hrun : e.running = false) {why : Option SuperlockReason}
    (hwhy : why = if e.kind = .superlockAll then s.superlockFailure else none)
    (hk : k = if why = none then e.kind else .lockAll) (hclass : k.lockClass = true) (hkind : k ≠ .releaseTailgate) :
    ∃ t, exec .commandStart s = .next t ∧ Only [.closures, .seq, .notices] s t ∧ (∀ c, StartedOn k e.source s t c) ∧
      (∀ r, t.opAt (.c r) = none) ∧ t.opAt .t1 = none ∧
      t.seq = { s.seq with
        queue := if ∀ c ∈ Closure.list, t.opAt (.l c) = none then s.seq.queue.tail
          else { e with kind := k, running := true } :: s.seq.queue.tail
        ops := t.seq.ops
        relock := if (k = .unlockAll ∨ k = .unlockDriver) ∧ (e.source = .b ∨
            e.source.origin ≠ .key ∧ e.source.origin ≠ .other) ∧ s.config.relockTime ≠ 0
          then some (s.now + 10000 * s.config.relockTime) else none } ∧
      ∀ p, (t.notices.get p).superlockRefused =
        if why ≠ none ∧ (p = .b ∨ p = .k ∧ e.port = some .k) then why else (s.notices.get p).superlockRefused := by
  obtain ⟨m, hm⟩ : ∃ m, m = s.headed k e why := ⟨_, rfl⟩
  obtain ⟨v, hv⟩ : ∃ v, v = Closure.list.foldl (State.startOn k e.source) m := ⟨_, rfl⟩
  obtain ⟨w, hw⟩ : ∃ w, w = v.relockAtStart k e.source := ⟨_, rfl⟩
  have hmframe : Only [.seq, .notices] s m := hm ▸ State.headed_only s k e why
  have hvframe : Only [.closures, .seq, .notices] m v := hv ▸ Only.foldl (State.startOn_only k e.source) _ m
  have hmseq : m.seq = _ := (congrArg State.seq hm).trans (State.headed_seq s k e why)
  have hmops : ∀ a, m.opAt a = none := fun a => by rw [State.opAt, hmseq]; exact hops a
  obtain ⟨hvseq, hvrefused, hvops⟩ := startOn_foldl_beside k e.source Closure.list m
  rw [← hv] at hvseq hvrefused hvops
  have hstarted : ∀ c, StartedOn k e.source s v c := fun c =>
    (hv ▸ startedOn_foldl hmops c : StartedOn k e.source m v c).seen (hm ▸ SameClosure.headed s k e why c) (.refl c v)
  have hwseq : w.seq = { v.seq with relock := w.seq.relock } := by rw [hw]; rfl
  have hwrelock : w.seq.relock = _ := (congrArg (·.seq.relock) hw).trans
    (congrArg (·.seq.relock) (State.relockAtStart_eq v k e.source))
  have hwclosure : ∀ c, SameClosure c v w := fun c => by
    rw [hw]
    exact ⟨rfl, rfl, rfl, rfl, id⟩
  have hwframe : Only [.seq] v w := hw ▸ State.relockAtStart_only v k e.source
  have hwq : w.seq.queue = { e with kind := k, running := true } :: s.seq.queue.tail := by
    rw [hwseq, hvseq, hmseq]
  have hfinished := State.finishIfDone_running hwq rfl
  have hwop : ∀ a, w.opAt a = v.opAt a := fun a => by rw [State.opAt, hwseq]; rfl
  have hcreated : ∀ c, w.opAt (.l c) = none ∨ ∃ g, w.opAt (.l c) = some (created (.lock g) 2) := fun c => by
    rw [hwop]
    cases hg : k.goal c with
    | none => exact .inl ((hstarted c).other hg).2
    | some g =>
      rw [((hstarted c).target g hg).2.2]
      split
      · exact .inr ⟨g, rfl⟩
      · exact .inl rfl
  have hother : ∀ a, (∀ c, a ≠ .l c) → w.opAt a = none := fun a ha => by rw [hwop, hvops a ha, hmops]
  have hdone := ordinaryOps_started hother hcreated
  obtain ⟨t, ht⟩ : ∃ t, t = w.finishIfDone := ⟨_, rfl⟩
  have htclosure : ∀ c, SameClosure c w t := fun c => by
    rw [ht, hfinished]
    exact ⟨rfl, rfl, rfl, rfl, id⟩
  have htop : ∀ a, t.opAt a = w.opAt a := fun a => by rw [ht, hfinished]; rfl
  have hframe : Only [.closures, .seq, .notices] s t :=
    ht ▸ Only.after (State.finishIfDone_only w) rfl (Only.after hwframe rfl (Only.after hvframe rfl (hmframe.mono rfl)))
  have hvnow : v.now = s.now := Eq.trans (hvframe.same .now (by decide)) (hmframe.same .now (by decide))
  have hvconfig : v.config = s.config := Eq.trans (hvframe.same .config (by decide)) (hmframe.same .config (by decide))
  refine ⟨t, ?_, hframe, fun c => (hstarted c).seen (.refl c s) ((htclosure c).after (hwclosure c)), fun r => ?_, ?_, ?_,
    fun p => ?_⟩
  · rw [exec_commandStart hl hhot hops he hrun hwhy hk, State.startKind_targets _ _ hclass hkind, ← hm, ← hv, ← hw, ht]
  · exact (htop _).trans (hother _ nofun)
  · exact (htop _).trans (hother _ nofun)
  · simp only [htop, ← hdone]
    rw [ht, hfinished]
    dsimp only
    rw [hwseq, hwrelock, hvseq, hmseq, hvnow, hvconfig]
    cases w.ordinaryOps <;> rfl
  · rw [ht, hfinished]
    show (w.notices.get p).superlockRefused = _
    rw [show w.notices = v.notices from hwframe.same .notices (by decide), hvrefused p, hm, State.headed_refused]

theorem ordinaryOps_none (h : ∀ a, u.opAt a = none) : u.ordinaryOps = false := by
  rw [State.ordinaryOps, List.any_eq_false]
  intro a _
  rw [h a]
  simp

theorem ordinaryOps_some {a : Actuator} {o : Op} (h : u.opAt a = some o) (ho : o.crash = false) : u.ordinaryOps = true := by
  rw [State.ordinaryOps, List.any_eq_true]
  have hmem : a ∈ Actuator.list := by
    cases a with
    | l c => cases c <;> decide
    | c r => cases r <;> decide
    | t1 => decide
  exact ⟨a, hmem, by rw [h]; simp [ho]⟩

/-- R41: a RELEASE_TAILGATE that TG allows. -/
theorem exec_commandStart_release (hl : s.resetLine = false) (hhot : s.mon.temp ≠ .hot) (hops : ∀ a, s.opAt a = none)
    (he : s.seq.queue.head? = some e) (hrun : e.running = false) (hkind : e.kind = .releaseTailgate)
    (hallowed : s.closures.tg.lockGoal = .unlocked ∧ s.closures.tg.lockSensed = .unlocked ∧ s.closures.tg.latch ≠ .ajar) :
    exec .commandStart s = .next { s with seq := { s.seq with
      queue := { e with running := true } :: s.seq.queue.tail
      ops := s.seq.ops.set .t1 (some (created .release 0))
      relock := none } } := by
  have hexec := exec_commandStart (why := none) (k := .releaseTailgate) hl hhot hops he hrun (by rw [hkind]; rfl)
    (by rw [hkind]; rfl)
  rw [hexec]
  refine congrArg Host.Outcome.next ?_
  have hrunning : ({ e with kind := .releaseTailgate, running := true } : Entry) = { e with running := true } := by
    rw [← hkind]
  obtain ⟨m, hm⟩ : ∃ m, m = s.headed .releaseTailgate e none := ⟨_, rfl⟩
  have hmeq : m = s.setQueue ({ e with running := true } :: s.seq.queue.tail) := by
    rw [hm, ← hrunning]
    rfl
  have hcan : m.releaseAllowed = true := by
    rw [hmeq]
    simp [State.releaseAllowed, State.setQueue, hallowed.1, hallowed.2.1, hallowed.2.2]
  obtain ⟨w, hw⟩ : ∃ w, w = (m.setOp .t1 (some (.fresh .release 0))).setRelock none := ⟨_, rfl⟩
  have hstart : m.startKind .releaseTailgate e = w := by
    show (m.startRelease e.port).relockAtStart .releaseTailgate e.source = w
    rw [State.startRelease, if_pos hcan, hw]
    rfl
  have hordinary : w.ordinaryOps = true :=
    ordinaryOps_some (a := .t1) (o := .fresh .release 0) (by rw [hw]; rfl) rfl
  rw [← hm, hstart, State.finishIfDone_running (f := { e with running := true }) (rest := s.seq.queue.tail)
    (by rw [hw, hmeq]; rfl) rfl, hordinary, hw, hmeq]
  rfl

/-- R41: a RELEASE_TAILGATE that TG refuses. -/
theorem exec_commandStart_refused (hl : s.resetLine = false) (hhot : s.mon.temp ≠ .hot) (hops : ∀ a, s.opAt a = none)
    (he : s.seq.queue.head? = some e) (hrun : e.running = false) (hkind : e.kind = .releaseTailgate)
    (hrefused : s.closures.tg.lockGoal ≠ .unlocked ∨ s.closures.tg.lockSensed ≠ .unlocked ∨ s.closures.tg.latch = .ajar) :
    ∃ t, exec .commandStart s = .next t ∧ Only [.seq, .notices] s t ∧
      t.seq = { s.seq with queue := s.seq.queue.tail, relock := none } ∧
      failNamed s.notices t.notices .tg .releaseRefused e.port := by
  have hexec := exec_commandStart (why := none) (k := .releaseTailgate) hl hhot hops he hrun (by rw [hkind]; rfl)
    (by rw [hkind]; rfl)
  obtain ⟨m, hm⟩ : ∃ m, m = s.headed .releaseTailgate e none := ⟨_, rfl⟩
  have hframe : Only [.seq, .notices] s m := hm ▸ State.headed_only s _ e none
  have hmseq : m.seq = _ := (congrArg State.seq hm).trans (State.headed_seq s .releaseTailgate e none)
  have hmnotices : m.notices = s.notices := by rw [hm]; rfl
  have hcannot : m.releaseAllowed = false := by
    have htg : m.closures = s.closures := hframe.same .closures (by decide)
    rw [← Bool.not_eq_true]
    simp only [State.releaseAllowed, htg, Bool.and_eq_true, decide_eq_true_eq, bne_iff_ne]
    rintro ⟨⟨hgoal, hsensed⟩, hlatch⟩
    rcases hrefused with h | h | h
    · exact h hgoal
    · exact h hsensed
    · exact hlatch h
  obtain ⟨w, hw⟩ : ∃ w, w = (m.raiseActuationFailed .tg .releaseRefused e.port).setRelock none := ⟨_, rfl⟩
  have hstart : m.startKind .releaseTailgate e = w := by
    show (m.startRelease e.port).relockAtStart .releaseTailgate e.source = w
    rw [State.startRelease, hcannot, hw]
    rfl
  have hwseq : w.seq = { m.seq with relock := none } := by rw [hw]; rfl
  have hordinary : w.ordinaryOps = false := ordinaryOps_none fun a => by
    rw [State.opAt, hwseq, hmseq]
    exact hops a
  have hfinished := State.finishIfDone_running (u := w) (f := { e with kind := .releaseTailgate, running := true })
    (rest := s.seq.queue.tail) (by rw [hwseq, hmseq]) rfl
  rw [hordinary] at hfinished
  rw [hexec, ← hm, hstart, hfinished]
  refine ⟨_, rfl, ?_, ?_, ?_⟩
  · rw [← hfinished]
    refine Only.after (State.finishIfDone_only w) rfl ?_
    rw [hw]
    exact Only.after (State.setRelock_only _ none) rfl (Only.after (State.raiseActuationFailed_only m _ _ _) rfl hframe)
  · dsimp only
    rw [hwseq, hmseq]
    rfl
  · refine (raiseActuationFailed_named m .tg .releaseRefused e.port).seen (fun p => by rw [hmnotices]) fun p => ?_
    rw [hw]
    rfl

theorem State.writeChildGoal_eq (s : State) (r : Rear) (st : ChildState) : s.writeChildGoal r st = s.writeChild r { s.childOf r with
    goal := st, confirmed := (s.childOf r).confirmed && decide ((s.childOf r).goal = st) } := by
  unfold State.writeChildGoal
  by_cases h : (s.childOf r).goal = st <;> simp [h]

/-- R40, R92: a CHILD_SET starts. -/
theorem exec_commandStart_child (hl : s.resetLine = false) (hhot : s.mon.temp ≠ .hot) (hops : ∀ a, s.opAt a = none)
    (he : s.seq.queue.head? = some e) (hrun : e.running = false) {r : Rear} {st : ChildState} (hkind : e.kind = .childSet r st) :
    ∃ t, exec .commandStart s = .next t ∧ Only [.childs, .seq, .win, .refs, .trace, .mon, .notices] s t ∧
      t.childs = s.childs.set r { s.childOf r with
        goal := st, confirmed := (s.childOf r).confirmed && decide ((s.childOf r).goal = st) } ∧
      ((s.childOf r).goal ≠ st → childNamed t.notices r) ∧
      t.seq = { s.seq with
        queue := if (t.childOf r).confirmed = true ∧ (s.childOf r).sensed = st then s.seq.queue.tail
          else { e with running := true } :: s.seq.queue.tail
        ops := if (t.childOf r).confirmed = true ∧ (s.childOf r).sensed = st then s.seq.ops
          else s.seq.ops.set (.c r) (some (created (.child st) 2)) } ∧
      (if st = .engaged ∧ s.config.childLockout = true ∧
          (s.winRec (rearWindow r)).motion.heldRun.any (·.holder = .localSw) = true then
        (t.winRec (rearWindow r)).motion = .idle else t.win = s.win ∧ t.mon = s.mon) ∧
      ∀ w, w ≠ rearWindow r → t.winRec w = s.winRec w := by
  have hexec := exec_commandStart (why := none) (k := .childSet r st) hl hhot hops he hrun (by rw [hkind]; rfl)
    (by rw [hkind]; rfl)
  have hrunning : ({ e with kind := .childSet r st, running := true } : Entry) = { e with running := true } := by
    rw [← hkind]
  obtain ⟨m, hm⟩ : ∃ m, m = s.setQueue ({ e with running := true } :: s.seq.queue.tail) := ⟨_, rfl⟩
  have hheaded : s.headed (.childSet r st) e none = m := by
    rw [hm, ← hrunning]
    rfl
  obtain ⟨v, hv⟩ : ∃ v : ChildRec, v = { s.childOf r with
      goal := st, confirmed := (s.childOf r).confirmed && decide ((s.childOf r).goal = st) } := ⟨_, rfl⟩
  obtain ⟨g, hg⟩ : ∃ g, g = m.writeChild r v := ⟨_, rfl⟩
  obtain ⟨b, hb⟩ : ∃ b, b = if st = .engaged && s.config.childLockout then g.beginLockout (rearWindow r) else g := ⟨_, rfl⟩
  have hmframe : Only [.seq] s m := hm ▸ State.setQueue_only s _
  have hgframe : Only [.childs, .notices] m g := hg ▸ State.writeChild_only m r v
  have hbframe : Only [.win, .refs, .trace, .mon, .notices] g b := by
    rw [hb]
    split
    · exact State.beginLockout_only g _
    · exact Only.refl _ g
  have hbchilds : b.childs = s.childs.set r v := by
    rw [Eq.trans (hbframe.same .childs (by decide)) ((congrArg State.childs hg).trans (State.writeChild_childs m r v)), hm]
    rfl
  have hbchild : b.childOf r = v := by rw [State.childOf, hbchilds, Rears.get_set_self]
  have hbseq : b.seq = { s.seq with queue := { e with running := true } :: s.seq.queue.tail } := by
    rw [Eq.trans (hbframe.same .seq (by decide)) (hgframe.same .seq (by decide)), hm]
    rfl
  obtain ⟨w, hw⟩ : ∃ w, w = if v.confirmed = true ∧ (s.childOf r).sensed = st then b
      else b.setOp (.c r) (some (created (.child st) 2)) := ⟨_, rfl⟩
  have hwframe : Only [.seq] b w := by
    rw [hw]
    split
    · exact Only.refl _ b
    · exact State.setOp_only b _ _
  have hstart : m.startKind (.childSet r st) e = w := by
    have hwritten : m.writeChildGoal r st = g := by
      rw [State.writeChildGoal_eq, hg, hv, hm]
      rfl
    have hconfig : g.config = s.config := Eq.trans (hgframe.same .config (by decide)) (hmframe.same .config (by decide))
    show m.startChild r st = w
    unfold State.startChild
    dsimp only
    rw [hwritten, hconfig, ← hb, hbchild, hw]
    have hgoal : v.goal = st := by rw [hv]
    have hsensed : v.sensed = (s.childOf r).sensed := by rw [hv]
    rw [hgoal, hsensed]
    by_cases hdone : v.confirmed = true ∧ (s.childOf r).sensed = st
    · rw [if_pos hdone, if_neg (by simp [hdone.1, hdone.2])]
    · rw [if_neg hdone, if_pos (by simpa [Decidable.imp_iff_not_or] using hdone)]
      rfl
  have hwq : w.seq.queue = { e with running := true } :: s.seq.queue.tail := by
    rw [hw]
    split
    · rw [hbseq]
    · show b.seq.queue = _
      rw [hbseq]
  have hfinished := State.finishIfDone_running hwq rfl
  have hordinary : w.ordinaryOps = true ↔ ¬ (v.confirmed = true ∧ (s.childOf r).sensed = st) := by
    rw [hw]
    split
    next hdone =>
      rw [ordinaryOps_none fun a => by rw [State.opAt, hbseq]; exact hops a]
      simp [hdone.1, hdone.2]
    next hdone =>
      rw [ordinaryOps_some (a := .c r) (o := created (.child st) 2) (State.setOp_opAt_self b _ _) rfl]
      simp only [true_iff]
      exact hdone
  obtain ⟨t, ht⟩ : ∃ t, t = w.finishIfDone := ⟨_, rfl⟩
  have htframe : Only [.seq] w t := ht ▸ State.finishIfDone_only w
  have hbt : Only [.seq] b t := Only.after htframe rfl hwframe
  have htchilds : t.childs = s.childs.set r v := Eq.trans (hbt.same .childs (by decide)) hbchilds
  have htchild : t.childOf r = v := by rw [State.childOf, htchilds, Rears.get_set_self]
  have hmrec : ∀ x, g.winRec x = s.winRec x := fun x => by
    simp only [State.winRec, show g.win = s.win from Eq.trans (hgframe.same .win (by decide)) (hmframe.same .win (by decide))]
  have htrec : ∀ x, t.winRec x = b.winRec x := fun x => by
    simp only [State.winRec, show t.win = b.win from hbt.same .win (by decide)]
  refine ⟨t, ?_, ?_, by rw [htchilds, hv], fun hchange => ?_, ?_, ?_, fun x hx => ?_⟩
  · rw [hexec, hheaded, hstart, ht]
  · exact Only.after hbt rfl (Only.after hbframe rfl (Only.after hgframe rfl (hmframe.mono rfl)))
  · have hnamed : childNamed g.notices r := by
      rw [hg]
      refine writeChild_named (.inl ?_)
      rw [hm, hv]
      exact hchange
    have hbnamed : childNamed b.notices r := by
      have hready : ReadyAlone g b := by
        rw [hb]
        split
        · exact .endHeld g _ _
        · exact .of_eq rfl
      obtain ⟨x, -, hnotices⟩ := hready
      intro p hp
      obtain ⟨d, hd, hr⟩ := hnamed p hp
      refine ⟨d, Eq.trans ?_ hd, hr⟩
      rw [hnotices]
      cases p <;> rfl
    rwa [show t.notices = b.notices from hbt.same .notices (by decide)]
  · rw [htchild, ht, hfinished]
    simp only [hordinary, ite_not]
    rw [hw]
    split
    · rw [hbseq]
    · show ({ (b.setOp (.c r) (some (created (.child st) 2))).seq with queue := _ } : Sequencer) = _
      rw [State.setOp, hbseq]
  · by_cases hpolicy : st = .engaged ∧ s.config.childLockout = true
    · have hbegun : b = g.endHeld (fun h => h = .localSw) (rearWindow r) := by
        rw [hb, if_pos (by simp [hpolicy.1, hpolicy.2])]
        rfl
      have hheld : State.heldBy (g.winRec (rearWindow r)) (fun h => h = .localSw) =
          (s.winRec (rearWindow r)).motion.heldRun.any (·.holder = .localSw) := by
        rw [hmrec]
        exact heldBy_eq_any _ _
      split
      next hends =>
        rw [htrec, hbegun]
        exact (State.endHeld_ends (by rw [hheld]; exact hends.2.2)).1
      next hends =>
        have hstill : b = g := by
          rw [hbegun]
          refine State.endHeld_not ?_
          rw [hheld, ← Bool.not_eq_true]
          exact fun h => hends ⟨hpolicy.1, hpolicy.2, h⟩
        have hgt : Only [.childs, .seq, .notices] s t :=
          Only.after (hstill ▸ hbt) rfl (Only.after hgframe rfl (hmframe.mono rfl))
        exact ⟨hgt.same .win (by decide), hgt.same .mon (by decide)⟩
    · have hstill : b = g := by rw [hb, if_neg (by simpa using hpolicy)]
      have hgt : Only [.childs, .seq, .notices] s t :=
        Only.after (hstill ▸ hbt) rfl (Only.after hgframe rfl (hmframe.mono rfl))
      rw [if_neg fun h => hpolicy ⟨h.1, h.2.1⟩]
      exact ⟨hgt.same .win (by decide), hgt.same .mon (by decide)⟩
  · rw [htrec, hb]
    split
    · exact ((OnlyWindow.endHeld g (rearWindow r) _).recs x hx).trans (hmrec x)
    · exact hmrec x

end Kinds

/-- Settles O38: a head that may not start stays; one that may runs as its kind, and finishes at once when it has created no
operation. -/
theorem commandStart : Obligations.CommandStart := by
  refine ⟨fun row hrow => ?_, fun s => exec_commandStart_held, fun s hl hhot hops e he hrun => ⟨?_, ?_, ?_⟩⟩
  · simp only [List.mem_cons, List.not_mem_nil, or_false] at hrow
    rcases hrow with rfl | rfl | rfl | rfl | rfl | rfl | rfl | rfl <;> decide
  · intro hclass hrelease hsource why hwhy k hk
    have hwhy' : why = if e.kind = .superlockAll then s.superlockFailure else none := by
      rw [hwhy, State.superlockFailure_eq]
    have hkclass : k.lockClass = true ∧ k ≠ .releaseTailgate := by
      rw [hk]
      split
      · exact ⟨hclass, hrelease⟩
      · exact ⟨rfl, nofun⟩
    obtain ⟨t, hexec, hframe, hstarted, hchild, ht1, hseq, hrefused⟩ :=
      exec_commandStart_targets hl hhot hops he hrun hwhy' hk hkclass.1 hkclass.2
    obtain ⟨src, hsrc⟩ := CmdSource.last_some hsource
    refine ⟨t, hexec, hframe, fun c => ?_, fun c g hg => ?_, fun c hg => (hstarted c).other hg, hchild, ht1, hseq, hrefused⟩
    · cases hg : k.goal c with
      | none =>
        rw [((hstarted c).other hg).1]
        exact ⟨rfl, rfl⟩
      | some g =>
        rw [((hstarted c).target g hg).1]
        exact ⟨rfl, rfl⟩
    · obtain ⟨hrec, hnamed, hop⟩ := (hstarted c).target g hg
      rw [hsrc, Option.getD_some] at hrec hnamed
      rw [hsrc]
      refine ⟨by rw [hrec]; rfl, by rw [hrec]; rfl, by rw [hrec]; rfl, fun hchange => hnamed ?_, hop⟩
      exact hchange.imp_right fun h heq => h (congrArg some heq)
  · exact fun hkind => ⟨exec_commandStart_release hl hhot hops he hrun hkind,
      exec_commandStart_refused hl hhot hops he hrun hkind⟩
  · exact fun r st hkind => exec_commandStart_child hl hhot hops he hrun hkind

end Sys2Proof.Machine
end

section
/-! The crash events on a queue that no run of the part reaches (R46, R50). -/

namespace Sys2Proof.Machine
open Sys2Proof

/-- A RUNNING CHILD_SET behind a PENDING LOCK_ALL, in a part whose crash line has been asserted for 2 ms. R23 has a RUNNING
entry at the head alone, but neither the slot law nor the window law asks for it. -/
def crashBehindPending : State :=
  { State.reset with
    crash := { State.reset.crash with detector := .asserting, timer := some 200 }
    seq := { State.reset.seq with queue :=
      [{ kind := .lockAll, source := .b, port := some .b, tag := none, paired := false, running := false },
        { kind := .childSet .rd .engaged, source := .b, port := some .b, tag := none, paired := false, running := true }] } }

theorem crashBehindPending_slotLaw : SlotLaw crashBehindPending := by
  obtain ⟨-, hreset, -⟩ := resetHoldsLaws
  refine SlotLaw.requeue hreset rfl rfl fun hordinary => ?_
  have hnone : ∀ a, State.reset.opAt a = none := fun a => by
    cases a with
    | l c => cases c <;> rfl
    | c r => cases r <;> rfl
    | t1 => rfl
  rw [ordinaryOps_none hnone] at hordinary
  cases hordinary

theorem crashBehindPending_windowLaw : WindowLaw crashBehindPending := by
  obtain ⟨-, -, hreset, -⟩ := resetHoldsLaws
  exact hreset.frame ⟨rfl, fun _ => rfl, fun _ => rfl, rfl, rfl, rfl⟩

/-- R46: the PENDING LOCK_ALL is removed first, so the CHILD_SET stands at the head when its child_op is aborted, and the
confirmed of the child lock is judged. -/
theorem crashBehindPending_confirmed : ((crashBehindPending.live State.crashTimer).childOf .rd).confirmed = true := by
  decide

/-- Refutes O43: the child lock that a RUNNING CHILD_SET leaves is read from the head of the queue as it stood, and the first
event judges the head that is left when the PENDING lock-class entries are gone. On a queue with a RUNNING entry behind a
PENDING one, which the statement's premises allow, the two are not the same entry. -/
theorem not_crashEvents : ¬ Obligations.CrashEvents := by
  rintro ⟨h, -⟩
  obtain ⟨t, hexec, -, -, -, -, -, hchild, -⟩ :=
    h crashBehindPending rfl rfl crashBehindPending_slotLaw crashBehindPending_windowLaw 200 rfl
  have ht : crashBehindPending.live State.crashTimer = t := by
    injection hexec
  have hkept : (childAborted crashBehindPending .rd).confirmed = false := by decide
  rw [← hchild .rd, ← ht, crashBehindPending_confirmed] at hkept
  cases hkept

end Sys2Proof.Machine
end

section
/-! The 20 ms point of a drive under a crash operation that no run of the part creates (R48, R154). -/

namespace Sys2Proof.Machine
open Sys2Proof

/-- A crash operation on the child lock of RD, whose channel is driven with overcurrent at FAULT. R48 creates crash operations on
L channels alone, but the statement's second part does not ask for the law of the operations. -/
def crashOpOnChild : State :=
  let reset := State.reset.setOp (.c .rd) (some (crashPulse 4 0))
  reset.setChan (.act (.c .rd))
    { reset.chan (.act (.c .rd)) with drive := .onFirst, driveStart := some 0, overcurrent := .fault }

/-- R154: the model asks whether a crash operation stands on the channel, whichever channel it is, and lifts the FAULT. -/
theorem crashOpOnChild_overcurrent :
    ((crashOpOnChild.live (fun s => s.drivePoint (.act (.c .rd)))).chan (.act (.c .rd))).overcurrent = .normal := by
  decide

/-- Refutes O54: the statement lifts an overcurrent FAULT at the 20 ms point for a crash operation on an L channel alone, and the
model does so for one on any actuator channel, such as the child lock's here. -/
theorem not_diagnostics : ¬ Obligations.Diagnostics := by
  rintro ⟨-, h, -, -⟩
  obtain ⟨-, hpoint⟩ := h crashOpOnChild (.act (.c .rd)) rfl
  obtain ⟨t, hexec, -, -, -, hchan, -⟩ := hpoint 0 rfl rfl (.inl rfl)
  have ht : crashOpOnChild.live (fun s => s.drivePoint (.act (.c .rd))) = t := by
    injection hexec
  have hlifted : (t.chan (.act (.c .rd))).overcurrent = .normal := ht ▸ crashOpOnChild_overcurrent
  rw [hchan] at hlifted
  have hkept : ¬ (ocEnabled crashOpOnChild (.act (.c .rd)) = true ∧
      ((crashOpOnChild.chan (.act (.c .rd))).overcurrent ≠ .fault ∨ crashOn crashOpOnChild (.act (.c .rd)) = true)) := by
    decide
  have hfault : (crashOpOnChild.chan (.act (.c .rd))).overcurrent = .fault := rfl
  dsimp only at hlifted
  rw [if_neg hkept, hfault] at hlifted
  cases hlifted

end Sys2Proof.Machine
end

section
/-! The thermal abort of an operation whose output stands in BRAKE (R42). -/

namespace Sys2Proof.Machine
open Sys2Proof

/-- A RUNNING LOCK_ALL whose operation on FD waits for a slot, with FD's output in BRAKE. No run of the part brakes an actuator
channel, but the slot law asks of an operation outside DRIVE that its output is not ON, and BRAKE is not. -/
def brakedActuator : State :=
  let waiting := (State.reset.setOp (.l .fd) (some (created (.lock .locked) 2))).setQueue
    [{ kind := .lockAll, source := .b, port := some .b, tag := none, paired := false, running := true }]
  waiting.setChan (.act (.l .fd)) { waiting.chan (.act (.l .fd)) with drive := .brake }

theorem brakedActuator_opAt (a : Actuator) :
    brakedActuator.opAt a = if a = .l .fd then some (created (.lock .locked) 2) else none := by
  cases a with
  | l c => cases c <;> rfl
  | c r => cases r <;> rfl
  | t1 => rfl

theorem brakedActuator_off (a : Actuator) : (brakedActuator.chan (.act a)).drive.on = false := by
  cases a with
  | l c => cases c <;> rfl
  | c r => cases r <;> rfl
  | t1 => rfl

theorem brakedActuator_slotLaw : SlotLaw brakedActuator := by
  refine ⟨by decide, fun a => ?_, fun a o ho _ => ⟨_, _, rfl, rfl, ?_⟩⟩
  · by_cases ha : a = .l .fd
    · refine opLaw_of_ordinary (o := created (.lock .locked) 2) (by rw [brakedActuator_opAt, if_pos ha]) rfl ?_ nofun nofun
      rw [brakedActuator_off]
      exact ⟨nofun, nofun⟩
    · exact opLaw_of_none (by rw [brakedActuator_opAt, if_neg ha]) (brakedActuator_off a)
  · rw [brakedActuator_opAt] at ho
    split at ho
    next ha =>
      rw [ha]
      rfl
    next => cases ho

theorem brakedActuator_windowLaw : WindowLaw brakedActuator := by
  obtain ⟨-, -, hreset, -⟩ := resetHoldsLaws
  exact hreset.frame ⟨rfl, fun w => by cases w <;> rfl, fun w => by cases w <;> rfl, rfl, rfl, rfl⟩

/-- R42: the abort switches an output off only for an operation in DRIVE. -/
theorem brakedActuator_drive : ((brakedActuator.live (fun s => s.measureTemp 150)).chan (.act (.l .fd))).drive = .brake := by
  decide

/-- Refutes O55: the statement has every aborted operation's output OFF, and the model leaves the output of one that does not
drive as it stood, which the slot law lets be BRAKE. -/
theorem not_temperatureAndSupply : ¬ Obligations.TemperatureAndSupply := by
  rintro ⟨h, -⟩
  obtain ⟨t, hexec, -, -, -, -, -, -, -, hhot, -⟩ := h brakedActuator 150 rfl brakedActuator_windowLaw .hot rfl
  obtain ⟨-, haborted⟩ := hhot rfl (by decide)
  obtain ⟨-, hended, -⟩ := haborted brakedActuator_slotLaw
  obtain ⟨-, hoff, -⟩ := hended (.l .fd) rfl
  have ht : brakedActuator.live (fun s => s.measureTemp 150) = t := by
    injection hexec
  rw [← ht, brakedActuator_drive] at hoff
  cases hoff

end Sys2Proof.Machine
end

section
/-! The soft reset of a part with an actuator output in BRAKE (R43, R172). -/

namespace Sys2Proof.Machine
open Sys2Proof

/-- A part that sends the answer to a SOFT_RESET, with the output of RD's child lock in BRAKE and no operation on it. No run of
the part brakes an actuator channel, but the law of the operations asks of a channel without one that it is not ON, and BRAKE
is not. -/
def brakedChildLock : State :=
  let reset := { State.reset with
    softResetDue := true, ports := State.reset.ports.set .b { State.reset.ports.get .b with engine := .answering } }
  reset.setChan (.act (.c .rd)) { reset.chan (.act (.c .rd)) with drive := .brake }

theorem brakedChildLock_opLaw (a : Actuator) : OpLaw brakedChildLock a := by
  cases a with
  | l c => exact opLaw_of_none (by cases c <;> rfl) (by cases c <;> rfl)
  | c r => exact opLaw_of_none (by cases r <;> rfl) (by cases r <;> rfl)
  | t1 => exact opLaw_of_none rfl rfl

theorem brakedChildLock_windowLaw : WindowLaw brakedChildLock := by
  obtain ⟨-, -, hreset, -⟩ := resetHoldsLaws
  exact hreset.frame ⟨rfl, fun w => by cases w <;> rfl, fun w => by cases w <;> rfl, rfl, rfl, rfl⟩

theorem brakedChildLock_traceLaw : TraceLaw brakedChildLock := by
  obtain ⟨-, -, -, hreset, -⟩ := resetHoldsLaws
  exact hreset

/-- R43: the soft reset switches off what an operation drives, and no operation drives this channel. -/
theorem brakedChildLock_drive : ((brakedChildLock.live (fun s => s.responseSent .b)).chan (.act (.c .rd))).drive = .brake := by
  decide

/-- Refutes O7: the statement has every child lock's output OFF after a soft reset, and the model leaves an output in BRAKE, which
the law of the operations lets stand on a channel without an operation. -/
theorem not_softReset : ¬ Obligations.SoftReset := by
  intro h
  obtain ⟨t, hexec, -, -, -, -, -, -, -, -, -, -, -, -, -, -, -, -, -, -, -, -, -, -, -, -, -, -, -, -, -, -, -,
      hchild, -⟩ :=
    h brakedChildLock rfl rfl rfl brakedChildLock_opLaw brakedChildLock_windowLaw brakedChildLock_traceLaw
  have ht : brakedChildLock.live (fun s => s.responseSent .b) = t := by
    injection hexec
  have hoff := hchild .rd
  rw [← ht, brakedChildLock_drive] at hoff
  cases hoff

end Sys2Proof.Machine
end

section
/-! WINDOW_RESTORE and WINDOW_FORGET (R133, R134, R166). -/

namespace Sys2Proof.Machine
open Sys2Proof

/-! ### The fields of a restore (R133, R165) -/

/-- R165: a zone field as the decoder reads it: its marker byte and its reference. -/
def zoneField (o : Option ZoneRef) : Byte × Option ZoneRef := (if o.isSome then 1 else 0, o)

/-- The zone fields that are shown are read back. -/
theorem zoneFields_shown (l : List (Option ZoneRef)) (hl : ∀ x, some x ∈ l → ZoneLaw x) :
    State.zoneFields l.length (l.flatMap (optional fun x => u16 x.effort ++ u8 x.interval)) = some (l.map zoneField) := by
  induction l with
  | nil => rfl
  | cons o l ih =>
    have hrest := ih fun x hx => hl x (List.mem_cons_of_mem o hx)
    rw [List.flatMap_cons, List.length_cons, List.map_cons]
    cases o with
    | none =>
      exact congrArg (Option.map (((0 : Byte), (none : Option ZoneRef)) :: ·)) hrest
    | some x =>
      obtain ⟨heffort, -, hinterval⟩ := hl x List.mem_cons_self
      have hread : ofBytes (u16 x.effort) = x.effort := by
        simp only [ofBytes, u16, List.foldl_cons, List.foldl_nil, Nat.mul_zero, Nat.zero_add]
        exact ofBytes_pair (by omega)
      have hinterval' : (BitVec.ofNat 8 x.interval).toNat = x.interval := by
        rw [BitVec.toNat_ofNat]
        exact Nat.mod_eq_of_lt (by omega)
      have hjoined : State.zoneFields (l.length + 1) (optional (fun x => u16 x.effort ++ u8 x.interval) (some x) ++
          l.flatMap (optional fun x => u16 x.effort ++ u8 x.interval)) =
          some (((1 : Byte), some ⟨ofBytes (u16 x.effort), (BitVec.ofNat 8 x.interval).toNat⟩) :: l.map zoneField) :=
        congrArg (Option.map _) hrest
      rw [hjoined, hread, hinterval']
      rfl

theorem zoneFields_zonesShown {zones : Vector (Option ZoneRef) 32} (hz : ∀ (z : Fin 32) x, zones[z] = some x → ZoneLaw x) :
    State.zoneFields 32 (zonesShown zones) = some (zones.toList.map zoneField) := by
  have hlaw : ∀ x, some x ∈ zones.toList → ZoneLaw x := fun x hx => by
    rw [vector_toList_eq, List.mem_map] at hx
    obtain ⟨z, -, hzone⟩ := hx
    exact hz z x hzone
  have hread := zoneFields_shown zones.toList hlaw
  rwa [Vector.length_toList, vector_toList_eq, List.flatMap_map, ← vector_toList_eq] at hread

/-- R133, R165: the fields before the zones. -/
def restoreHeader (w : Window) (p : Nat) (n : Byte) : List Byte :=
  [BitVec.ofNat 8 (Window.list.idxOf w)] ++ i16 ((p : Int) - 64) ++ [n]

section Header
variable {w : Window} {p : Nat} {n : Byte} {q : List Byte}

theorem restoreHeader_length : (restoreHeader w p n).length = 4 := rfl

theorem drop_restoreHeader : (restoreHeader w p n ++ q).drop 4 = q := rfl

theorem signed16_i16 (hp : p < 4160) : signed16 (ofBytes (i16 ((p : Int) - 64))) = (p : Int) - 64 := by
  have hread : ofBytes (i16 ((p : Int) - 64)) = (((p : Int) - 64) % 65536).toNat := by
    simp only [ofBytes, i16, u16, List.foldl_cons, List.foldl_nil, Nat.mul_zero, Nat.zero_add]
    exact ofBytes_pair (by omega)
  rw [hread, signed16]
  split <;> omega

/-- R133: a restore whose zone fields lie in their ranges is read. -/
theorem restoreOf_shown (hp : p < 4160) {l : List (Byte × Option ZoneRef)} (hl : l.all State.zoneInRange = true) :
    State.restoreOf (restoreHeader w p n ++ q) l = some ⟨w, (p : Int) - 64, n.toNat,
      Vector.ofFn (fun z : Fin 32 => (l[z.val]?).bind Prod.snd)⟩ := by
  have hw : pick Window.list (restoreHeader w p n ++ q) 0 = some w := by cases w <;> rfl
  have hposition : signed16 (fieldAt (restoreHeader w p n ++ q) 1 2) = (p : Int) - 64 := signed16_i16 hp
  unfold State.restoreOf
  dsimp only
  rw [hw, hposition]
  dsimp only
  rw [if_pos (by rw [hl]; simp; omega)]
  rfl

theorem restoreOf_range {l : List (Byte × Option ZoneRef)} (hl : l.all State.zoneInRange = false) :
    State.restoreOf (restoreHeader w p n ++ q) l = none := by
  unfold State.restoreOf
  dsimp only
  simp only [hl, Bool.and_false, Bool.false_eq_true, if_false]
  split <;> rfl

end Header

/-! ### The judgement of the assembled content (R133, R166) -/

section Judged
variable {s : State} {w : Window} {p : Nat} {n : Byte}

/-- R133: the window is IDLE and unnormalised. -/
theorem mayRestore_iff (r : WindowRec) : State.mayRestore r = true ↔ r.motion = .idle ∧ r.normalised = false := by
  simp [State.mayRestore]

/-- R133: content as the statement shows it is restored, or answered STATE. -/
theorem judgeRestore_shown (hp : p < 4160) {zones : Vector (Option ZoneRef) 32}
    (hz : ∀ (z : Fin 32) x, zones[z] = some x → ZoneLaw x) :
    s.judgeRestore (restoreHeader w p n ++ zonesShown zones) =
      if (s.winRec w).motion = .idle ∧ (s.winRec w).normalised = false then
        (s.restore ⟨w, (p : Int) - 64, n.toNat, zones⟩).accept
      else s.refuse .state := by
  have hrange : (zones.toList.map zoneField).all State.zoneInRange = true := by
    rw [List.all_eq_true]
    intro f hf
    obtain ⟨o, ho, rfl⟩ := List.mem_map.mp hf
    cases o with
    | none => rfl
    | some x =>
      rw [vector_toList_eq, List.mem_map] at ho
      obtain ⟨z, -, hzone⟩ := ho
      obtain ⟨heffort, hinterval, -⟩ := hz z x hzone
      simp [State.zoneInRange, zoneField, heffort, hinterval]
  have hzones : Vector.ofFn (fun z : Fin 32 => ((zones.toList.map zoneField)[z.val]?).bind Prod.snd) = zones := by
    ext i hi : 1
    simp [zoneField]
  unfold State.judgeRestore
  rw [drop_restoreHeader, zoneFields_zonesShown hz]
  dsimp only
  rw [restoreOf_shown hp hrange, hzones]
  simp only [mayRestore_iff]

theorem judgeRestore_format {q : List Byte} (hq : State.zoneFields 32 q = none) :
    s.judgeRestore (restoreHeader w p n ++ q) = s.refuse .format := by
  unfold State.judgeRestore
  rw [drop_restoreHeader, hq]

theorem judgeRestore_range {q : List Byte} {l : List (Byte × Option ZoneRef)} (hq : State.zoneFields 32 q = some l)
    (hl : l.all State.zoneInRange = false) : s.judgeRestore (restoreHeader w p n ++ q) = s.refuse .range := by
  unfold State.judgeRestore
  rw [drop_restoreHeader, hq]
  dsimp only
  rw [restoreOf_range hl]

end Judged

/-! ### Segments (R166) -/

section Segments
variable {s : State} {q : List Byte}

theorem State.ownWindowRestore_range {index total : Byte} (h : total.toNat = 0 ∨ 3 < total.toNat ∨ total.toNat ≤ index.toNat) :
    State.ownWindowRestore (index :: total :: q) s = s.refuse .range := by
  unfold State.ownWindowRestore
  dsimp only
  have hrefused : (decide (byteAt (index :: total :: q) 1 = 0) || decide (3 < byteAt (index :: total :: q) 1) ||
      decide (byteAt (index :: total :: q) 1 ≤ byteAt (index :: total :: q) 0)) = true := by
    simpa [byteAt, or_assoc] using h
  rw [if_pos hrefused]

/-- R166: a first segment empties the staging record, whatever it held. -/
theorem State.ownWindowRestore_first {total : Nat} (h1 : 1 ≤ total) (h3 : total ≤ 3) :
    State.ownWindowRestore (0 :: BitVec.ofNat 8 total :: q) s = s.addSegment { total, next := 1, content := q } := by
  obtain rfl | rfl | rfl : total = 1 ∨ total = 2 ∨ total = 3 := by omega
  all_goals rfl

/-- R166: the segment that is expected joins the record. -/
theorem State.ownWindowRestore_next {index total : Nat} {x : Staging} (h1 : 1 ≤ index) (hi : index < total) (h3 : total ≤ 3)
    (hx : s.staging = some x) (htotal : x.total = total) (hnext : x.next = index) :
    State.ownWindowRestore (BitVec.ofNat 8 index :: BitVec.ofNat 8 total :: q) s =
      s.addSegment { x with next := index + 1, content := x.content ++ q } := by
  have hjoined : (decide (x.total = total) && decide (x.next = index)) = true := by simp [htotal, hnext]
  obtain ⟨rfl, rfl⟩ | ⟨rfl, rfl⟩ | ⟨rfl, rfl⟩ : index = 1 ∧ total = 2 ∨ index = 1 ∧ total = 3 ∨ index = 2 ∧ total = 3 := by
    omega
  all_goals
    unfold State.ownWindowRestore
    dsimp only
    rw [if_neg (by simp [byteAt]), if_neg (by simp [byteAt]), hx]
    exact if_pos hjoined

end Segments

/-! ### The statement -/

section Exec
variable {s : State} {tag n : Byte} {w : Window} {p : Nat} {q : List Byte}

theorem exec_windowRestore (hk : s.canTake .b) (h1 : 1 ≤ q.length) (h44 : q.length ≤ 44) {index total : Byte} {r : Reply}
    (ho : State.ownWindowRestore (index :: total :: q) s = r) : exec (.windowRestore .b tag (index :: total :: q)) s =
      .next { r.state with ports := r.state.ports.set .b (answered tag r.code r.payload) } :=
  exec_owned (k := .windowRestore) hk
    (State.decoderRefusal_none (show 3 ≤ q.length + 2 by omega) (show q.length + 2 ≤ 46 by omega) rfl rfl) ho

/-- R166: the last segment hands the content over, and the staging record is empty. -/
theorem State.addSegment_last {x : Staging} (h : x.total ≤ x.next) :
    s.addSegment x = (s.setStaging none).judgeRestore x.content := if_pos h

theorem State.addSegment_staged {x : Staging} (h : x.next < x.total) : s.addSegment x = (s.setStaging (some x)).accept :=
  if_neg (by omega)

theorem State.setStaging_same {x : Option Staging} (h : s.staging = x) : s.setStaging x = s := by
  subst h
  rfl

/-- R133: content that the last segment completes is restored, or answered STATE. -/
theorem exec_windowRestore_judged (hk : s.canTake .b) (hp : p < 4160) {zones : Vector (Option ZoneRef) 32}
    (hz : ∀ (z : Fin 32) x, zones[z] = some x → ZoneLaw x) (h1 : 1 ≤ q.length) (h44 : q.length ≤ 44) {index total : Byte}
    (ho : State.ownWindowRestore (index :: total :: q) s =
      (s.setStaging none).judgeRestore (restoreHeader w p n ++ zonesShown zones)) :
    exec (.windowRestore .b tag (index :: total :: q)) s = .next
      (if (s.winRec w).motion = .idle ∧ (s.winRec w).normalised = false then
        { s with
          staging := none
          refs := s.refs.set w { s.refsOf w with zones := zones, learned := n.toNat, pendingForget := none }
          win := { s.win with recs := s.win.recs.set w { s.winRec w with position := some ((p : Int) - 64), normalised := true } }
          ports := s.ports.set .b (answered tag .ok []) }
      else { s with staging := none, ports := s.ports.set .b (answered tag .state []) }) := by
  have hrecord : (s.setStaging none).winRec w = s.winRec w := rfl
  rw [exec_windowRestore hk h1 h44 ho, judgeRestore_shown hp hz, hrecord]
  by_cases hmay : (s.winRec w).motion = .idle ∧ (s.winRec w).normalised = false
  · rw [if_pos hmay, if_pos hmay]
    rfl
  · rw [if_neg hmay, if_neg hmay]
    rfl

/-- R133, R165: the content in one segment: no learned zone, a byte too many, and a reference out of its range. -/
theorem exec_windowRestore_single (hk : s.canTake .b) (hp : p < 4160) :
    exec (.windowRestore .b tag ([0, 1] ++ restoreHeader w p n ++ List.replicate 32 0)) s = .next
      (if (s.winRec w).motion = .idle ∧ (s.winRec w).normalised = false then
        { s with
          staging := none
          refs := s.refs.set w { s.refsOf w with zones := Vector.replicate 32 none, learned := n.toNat, pendingForget := none }
          win := { s.win with recs := s.win.recs.set w { s.winRec w with position := some ((p : Int) - 64), normalised := true } }
          ports := s.ports.set .b (answered tag .ok []) }
      else { s with staging := none, ports := s.ports.set .b (answered tag .state []) }) ∧
    exec (.windowRestore .b tag ([0, 1] ++ restoreHeader w p n ++ List.replicate 33 0)) s =
      .next { s with staging := none, ports := s.ports.set .b (answered tag .format []) } ∧
    exec (.windowRestore .b tag ([0, 1] ++ restoreHeader w p n ++ [1, 0x08, 0x00, 1] ++ List.replicate 31 0)) s =
      .next { s with staging := none, ports := s.ports.set .b (answered tag .range []) } := by
  have hfirst : ∀ q, State.ownWindowRestore (0 :: 1 :: q) s = (s.setStaging none).judgeRestore q := fun q =>
    (State.ownWindowRestore_first (total := 1) (by omega) (by omega)).trans (State.addSegment_last (Nat.le_refl 1))
  refine ⟨?_, ?_, ?_⟩
  · have hzones : zonesShown (Vector.replicate 32 none) = List.replicate 32 0 := by decide
    refine exec_windowRestore_judged (q := restoreHeader w p n ++ List.replicate 32 0) hk hp
      (zones := Vector.replicate 32 none) (fun z x hx => ?_) (by simp [restoreHeader_length]) (by simp [restoreHeader_length])
      ((hfirst _).trans (by rw [hzones]))
    simp at hx
  · exact exec_windowRestore (q := restoreHeader w p n ++ List.replicate 33 0) hk (by simp [restoreHeader_length])
      (by simp [restoreHeader_length]) ((hfirst _).trans (judgeRestore_format (by decide)))
  · have hfields : State.zoneFields 32 ([1, 0x08, 0x00, 1] ++ List.replicate 31 0) =
        some ((1, some ⟨2048, 1⟩) :: List.replicate 31 (0, none)) := by decide
    have hrange : ((1, some ⟨2048, 1⟩) :: List.replicate 31 ((0 : Byte), (none : Option ZoneRef))).all State.zoneInRange = false := by
      decide
    rw [List.append_assoc, List.append_assoc]
    exact exec_windowRestore (q := restoreHeader w p n ++ ([1, 0x08, 0x00, 1] ++ List.replicate 31 0)) hk
      (by simp [restoreHeader_length]) (by simp [restoreHeader_length]) ((hfirst _).trans (judgeRestore_range hfields hrange))

/-- R166: segments of a restore in 2 or 3 of them, and those outside their total. -/
theorem exec_windowRestore_segments (hk : s.canTake .b) (h1 : 1 ≤ q.length) (h44 : q.length ≤ 44) :
    exec (.windowRestore .b tag ([0, 2] ++ q)) s = .next { s with
      staging := some { total := 2, next := 1, content := q }, ports := s.ports.set .b (answered tag .ok []) } ∧
    (∀ row ∈ [[(0 : Byte), 0], [0, 4], [2, 2], [3, 3]],
      exec (.windowRestore .b tag (row ++ q)) s = .next { s with ports := s.ports.set .b (answered tag .range []) }) ∧
    (s.staging = none ∨ (∃ x, s.staging = some x ∧ (x.total ≠ 3 ∨ x.next ≠ 1)) →
      exec (.windowRestore .b tag ([1, 3] ++ q)) s =
        .next { s with staging := none, ports := s.ports.set .b (answered tag .format []) }) ∧
    ∀ x, s.staging = some x → x.total = 3 → x.next = 1 →
      exec (.windowRestore .b tag ([1, 3] ++ q)) s = .next { s with
        staging := some { x with next := 2, content := x.content ++ q }
        ports := s.ports.set .b (answered tag .ok []) } := by
  refine ⟨?_, fun row hrow => ?_, fun hunexpected => ?_, fun x hx htotal hnext => ?_⟩
  · exact exec_windowRestore hk h1 h44 ((State.ownWindowRestore_first (total := 2) (by omega) (by omega)).trans
      (State.addSegment_staged (Nat.lt_succ_self 1)))
  · simp only [List.mem_cons, List.not_mem_nil, or_false] at hrow
    rcases hrow with rfl | rfl | rfl | rfl
    all_goals exact exec_windowRestore hk h1 h44 (State.ownWindowRestore_range (by decide))
  · refine exec_windowRestore (r := (s.setStaging none).refuse .format) hk h1 h44 ?_
    unfold State.ownWindowRestore
    dsimp only
    rw [if_neg (by simp [byteAt]), if_neg (by simp [byteAt])]
    rcases hunexpected with hnone | ⟨x, hx, hother⟩
    · rw [hnone, State.setStaging_same hnone]
    · rw [hx]
      exact if_neg (by simpa [byteAt, Decidable.imp_iff_not_or] using hother)
  · exact exec_windowRestore hk h1 h44
      ((State.ownWindowRestore_next (index := 1) (total := 3) (by omega) (by omega) (by omega) hx htotal hnext).trans
        (State.addSegment_staged (by simp [htotal])))

/-- R134: what a WINDOW_FORGET forgets, by the byte that names it. -/
theorem State.ownWindowForget_eq (w : Window) {b : Byte} {what : ForgetWhat} (hb : forgetWhats[b.toNat]? = some what) :
    State.ownWindowForget [BitVec.ofNat 8 (Window.list.idxOf w), b] s =
      if (s.winRec w).motion.running then s.refuse .state else (s.forget w what).accept := by
  have hw : pick Window.list [BitVec.ofNat 8 (Window.list.idxOf w), b] 0 = some w := by cases w <;> rfl
  have hwhat : pick forgetWhats [BitVec.ofNat 8 (Window.list.idxOf w), b] 1 = some what := hb
  unfold State.ownWindowForget
  rw [hw, hwhat]

theorem exec_windowForget (hk : s.canTake .b) (w : Window) {b : Byte} {what : ForgetWhat} (hb : forgetWhats[b.toNat]? = some what) :
    exec (.windowForget .b tag [BitVec.ofNat 8 (Window.list.idxOf w), b]) s = .next
      (if (s.winRec w).motion.running = true then { s with ports := s.ports.set .b (answered tag .state []) }
      else { s.forget w what with ports := (s.forget w what).ports.set .b (answered tag .ok []) }) := by
  refine (exec_owned (k := .windowForget) hk rfl (State.ownWindowForget_eq w hb)).trans ?_
  split <;> rfl

end Exec

/-- Settles O52: the content of a restore is read back field by field, and a forget writes what it names. -/
theorem windowRestoreAndForget : Obligations.WindowRestoreAndForget := by
  refine ⟨fun s tag n w p zones a q hk hp hz h1 h44 hcontent total htotal hfirst hstaged => ?_,
    fun s tag n w p hk hp q hq => ?_, fun s tag q hk h1 h44 => exec_windowRestore_segments hk h1 h44,
    fun s tag w hk row hrow => ?_⟩
  · have hbounds : 1 ≤ total ∧ total ≤ 3 := by
      simp only [List.mem_cons, List.not_mem_nil, or_false] at htotal
      omega
    refine exec_windowRestore_judged hk hp hz h1 h44 ?_
    rw [← show a ++ q = restoreHeader w p n ++ zonesShown zones from hcontent]
    by_cases hone : total = 1
    · subst hone
      rw [hfirst rfl]
      exact (State.ownWindowRestore_first (total := 1) (by omega) (by omega)).trans (State.addSegment_last (Nat.le_refl 1))
    · exact (State.ownWindowRestore_next (index := total - 1) (by omega) (by omega) hbounds.2 (hstaged (by omega)) rfl rfl).trans
        (State.addSegment_last (show total ≤ total - 1 + 1 by omega))
  · subst hq
    exact exec_windowRestore_single hk hp
  · simp only [List.mem_cons, List.not_mem_nil, or_false] at hrow
    rcases hrow with rfl | rfl | rfl
    · exact exec_windowForget hk w (what := .references) rfl
    · exact exec_windowForget hk w (what := .normalisation) rfl
    · exact exec_windowForget hk w (what := .both) rfl

end Sys2Proof.Machine
end

section
/-! The requests of the trace store (R138 to R147). -/

namespace Sys2Proof.Machine
open Sys2Proof

/-! ### Triggers (R138, R139) -/

section Trigger
variable {s : State} {w : Window} {i : Fin 8} {k : TriggerKind}

theorem eight_eq : eight = List.finRange 8 := by decide

theorem State.fillsFor_eq (s : State) (w : Window) (i : Fin 8) :
    s.fillsFor w i = (match s.bufferAt i with | .filling r => decide (r.window = w) | _ => false) := by
  unfold State.fillsFor
  cases s.bufferAt i <;> rfl

theorem State.fillingBuffer_isSome (s : State) (w : Window) :
    (s.fillingBuffer w).isSome = (List.finRange 8).any (s.fillsFor w) := by
  rw [State.fillingBuffer, eight_eq, Bool.eq_iff_iff, List.find?_isSome, List.any_eq_true]

theorem State.isFree_eq (s : State) : s.isFree = fun i => decide (s.bufferAt i = .free) := by
  funext i
  rw [Bool.eq_iff_iff, State.isFree_iff, decide_eq_true_iff]

theorem State.headerTeff_eq (s : State) (w : Window) :
    s.headerTeff w = (s.pinchOf w).lastTeff.getD (thresholdOf (keptCal s w).t (s.winRec w).limited) := by
  unfold State.headerTeff keptCal
  cases (s.pinchOf w).lastTeff with
  | some t => rfl
  | none => cases (s.pinchOf w).cal <;> rfl

/-- R139, step 4: the record that buffer `i` opens in a state. -/
def openedRecord (s : State) (w : Window) (k : TriggerKind) (sequence : Nat) : TraceRec :=
  { sequence, kind := k, window := w, timeTag := s.timeTag, position := (s.winRec w).position
    teff := (s.pinchOf w).lastTeff.getD (thresholdOf (keptCal s w).t (s.winRec w).limited)
    pre := s.trace.rings.get w, post := [] }

/-- R139, step 4: on a running window the record stays FILLING. -/
theorem State.openRecord_running (hrun : (s.winRec w).motion.running = true) (i : Fin 8) (k : TriggerKind) (n : Nat) :
    s.openRecord i w k n = { s with trace := { s.trace with
      buffers := s.trace.buffers.set i.val (.filling (openedRecord s w k n)) i.isLt
      captures := s.trace.captures ++ [i] } } := by
  unfold State.openRecord
  rw [State.headerTeff_eq]
  exact if_pos hrun

theorem State.trigger_refused {why : LostReason} (h : s.triggerRefusal w = some why) (k : TriggerKind) :
    s.trigger w k = s.advanceSequence.raiseTraceLost s.trace.sequence why := by
  unfold State.trigger
  rw [h]

/-- R139: a trigger that is not refused completes the window's FILLING record and opens one in the first FREE buffer; here the
window runs. -/
theorem State.trigger_opened (h : s.triggerRefusal w = none) (hfree : s.firstFree = some i)
    (hrun : (s.winRec w).motion.running = true) (k : TriggerKind) :
    (s.trigger w k).trace.captures = s.trace.captures ++ [i] ∧ (s.trigger w k).trace.cursor = s.trace.cursor ∧
    (s.trigger w k).trace.tagBase = s.trace.tagBase ∧
    (s.trigger w k).bufferAt i = .filling (openedRecord s w k s.trace.sequence) ∧
    ∀ j, j ≠ i → (s.trigger w k).bufferAt j = (s.advanceSequence.completeFilling w .overlap).bufferAt j := by
  obtain ⟨c, hc⟩ : ∃ c, c = s.advanceSequence.completeFilling w .overlap := ⟨_, rfl⟩
  have htrigger : s.trigger w k = c.openRecord i w k s.trace.sequence := by
    unfold State.trigger
    rw [h, hfree, hc]
  have hframe : Only [.trace, .notices] s.advanceSequence c := hc ▸ State.completeFilling_only _ w .overlap
  have htrace : c.trace = { s.advanceSequence.trace with buffers := c.trace.buffers } := hc ▸ State.completeFilling_trace _ w .overlap
  have hwin : c.win = s.win := hframe.same .win (by decide)
  have hpinch : c.pinch = s.pinch := hframe.same .pinch (by decide)
  have hconfig : c.config = s.config := hframe.same .config (by decide)
  have hnow : c.now = s.now := hframe.same .now (by decide)
  have hrec : openedRecord c w k s.trace.sequence = openedRecord s w k s.trace.sequence := by
    unfold openedRecord keptCal State.timeTag State.pinchOf State.winRec State.calOf
    rw [hwin, hpinch, hconfig, hnow, htrace]
    rfl
  rw [htrigger, State.openRecord_running (by rw [State.winRec, hwin]; exact hrun), hrec, ← hc]
  refine ⟨?_, ?_, ?_, ?_, fun j hj => ?_⟩
  · show c.trace.captures ++ [i] = _
    rw [htrace]
    rfl
  · show c.trace.cursor = _
    rw [htrace]
    rfl
  · show c.trace.tagBase = _
    rw [htrace]
    rfl
  · exact (State.setBuffer_bufferAt c i _ i).trans (if_pos rfl)
  · exact (State.setBuffer_bufferAt c i _ j).trans (if_neg hj)

/-- R139, steps 1 and 2. -/
theorem State.triggerRefusal_eq (s : State) (w : Window) : s.triggerRefusal w =
    if (List.finRange 8).any (s.fillsFor w) = true ∧ s.config.overlapAccept = false then some .overlap
    else if s.firstFree = none then some .full else none := by
  unfold State.triggerRefusal
  rw [State.fillingBuffer_isSome]
  simp only [Bool.and_eq_true, Bool.not_eq_true', Option.isNone_iff_eq_none]

end Trigger

/-! ### Parts of a record (R144) -/

section Parts

theorem sampleShown_eq (n : Nat) (x : Sample) : sampleShown n x = State.sampleBytes (x, n) := by
  unfold sampleShown State.sampleBytes
  rw [positionShown_eq, yesNo_eq]
  rfl

theorem headerShown_eq (r : TraceRec) (x : Completion) : headerShown r x = State.headerBytes r x := by
  unfold headerShown State.headerBytes
  rw [positionShown_eq]
  rfl

/-- Places `n` to `n + m - 1` of a list, with their numbers. -/
theorem flatMap_zipIdx_piece {α β : Type} (f : α × Nat → List β) (l : List α) (n m : Nat) :
    ((l.zipIdx.drop n).take m).flatMap f = (List.range m).flatMap (fun j => (l[n + j]?).elim [] (fun x => f (x, n + j))) := by
  induction m with
  | zero => rfl
  | succ m ih =>
    rw [List.take_add_one, List.range_succ, List.flatMap_append, List.flatMap_append, ih, List.getElem?_drop,
      List.getElem?_zipIdx]
    cases hl : l[n + m]? <;> simp [hl]

theorem partBytes_eq (r : TraceRec) (x : Completion) (part : Nat) :
    State.partBytes r x part = u16 r.sequence ++ u8 part ++ u8 (1 + (r.pre.length + r.post.length + 3) / 4) ++
      (if part = 0 then headerShown r x
      else (List.range 4).flatMap (fun j => ((r.pre ++ r.post)[4 * (part - 1) + j]?).elim []
        (sampleShown (4 * (part - 1) + j)))) := by
  unfold State.partBytes
  rw [headerShown_eq, flatMap_zipIdx_piece]
  simp only [funext (sampleShown_eq _)]
  rfl

end Parts

/-! ### The requests -/

section Requests
variable {s : State} {tag : Byte} {w : Window}

theorem Motion.running_of_driven {m : Motion} (h : m.drivenDir ≠ none) : m.running = true := by
  cases m with
  | run _ | reverse _ => rfl
  | idle | dwell _ | inhibited => exact absurd rfl h

theorem State.ownTraceTrigger_eq (s : State) (w : Window) : State.ownTraceTrigger [BitVec.ofNat 8 (Window.list.idxOf w)] s =
    if (s.winRec w).motion.drivenDir.isSome then s.requestTrigger w else s.refuse .state := by
  have hw : pick Window.list [BitVec.ofNat 8 (Window.list.idxOf w)] 0 = some w := by cases w <;> rfl
  unfold State.ownTraceTrigger
  rw [hw]

theorem exec_traceTrigger_state (hk : s.canTake .b) (h : (s.winRec w).motion.drivenDir = none) :
    exec (.traceTrigger .b tag [BitVec.ofNat 8 (Window.list.idxOf w)]) s =
      .next { s with ports := s.ports.set .b (answered tag .state []) } :=
  exec_owner_refused (k := .traceTrigger) hk rfl ((State.ownTraceTrigger_eq s w).trans (by rw [h]; rfl))

/-- R142: a TRACE_TRIGGER on a driven window is answered with the sequence number that it took. -/
theorem exec_traceTrigger (hk : s.canTake .b) (h : (s.winRec w).motion.drivenDir ≠ none) :
    exec (.traceTrigger .b tag [BitVec.ofNat 8 (Window.list.idxOf w)]) s = .next { s.trigger w .requested with
      ports := s.ports.set .b (answered tag (if (s.triggerRefusal w).isSome then .busy else .ok) (u16 s.trace.sequence)) } := by
  have howner : State.ownTraceTrigger [BitVec.ofNat 8 (Window.list.idxOf w)] s = s.requestTrigger w :=
    (State.ownTraceTrigger_eq s w).trans (if_pos (Option.isSome_iff_ne_none.mpr h))
  refine (exec_owned (k := .traceTrigger) hk rfl howner).trans ?_
  have hports : (s.trigger w .requested).ports = s.ports := (State.trigger_only s w .requested).same .ports (by decide)
  rw [show (s.requestTrigger w).state.ports = s.ports from hports]
  rfl

/-- R139: what a refused trigger leaves. -/
theorem State.trigger_lost {why : LostReason} (h : s.triggerRefusal w = some why) (k : TriggerKind) :
    (s.trigger w k).trace = { s.trace with sequence := (s.trigger w k).trace.sequence } ∧
    (s.trigger w k).notices.b.traceLost = some
      { count := min 255 ((s.notices.b.traceLost.map (·.count)).getD 0 + 1), sequence := s.trace.sequence, reason := why } := by
  rw [State.trigger_refused h]
  exact ⟨rfl, rfl⟩

theorem State.readPart_complete {c : Cursor} {r : TraceRec} {x : Completion} (h : s.bufferAt c.buffer = .complete r x) :
    s.readPart c = ⟨s.advanceCursor c.buffer c.part r.parts, .ok, State.partBytes r x c.part⟩ := by
  unfold State.readPart
  rw [h]

/-- R138, R139: a trigger leaves the read cursor and the time tag, here on a running window. -/
theorem State.trigger_kept (hrun : (s.winRec w).motion.running = true) (k : TriggerKind) :
    (s.trigger w k).trace.cursor = s.trace.cursor ∧ (s.trigger w k).trace.tagBase = s.trace.tagBase := by
  cases h : s.triggerRefusal w with
  | some why =>
    rw [State.trigger_refused h]
    exact ⟨rfl, rfl⟩
  | none =>
    obtain ⟨i, hfree⟩ := Option.ne_none_iff_exists'.mp (State.triggerRefusal_none h)
    obtain ⟨-, hcursor, htag, -⟩ := State.trigger_opened h hfree hrun k
    exact ⟨hcursor, htag⟩

/-- R139, R142: what a TRACE_TRIGGER on a driven window leaves, by the buffers. -/
theorem traceTrigger_driven (hk : s.canTake .b) (hdriven : (s.winRec w).motion.drivenDir ≠ none) (htrace : TraceLaw s) :
    ∃ t, exec (.traceTrigger .b tag [BitVec.ofNat 8 (Window.list.idxOf w)]) s = .next t ∧
      Only [.trace, .notices, .ports] s t ∧ t.trace.sequence = (s.trace.sequence + 1) % 65536 ∧
      t.trace.rings = s.trace.rings ∧ t.trace.cursor = s.trace.cursor ∧ t.timeTag = s.timeTag ∧
      (∀ why, s.triggerRefusal w = some why →
        t.ports = s.ports.set .b (answered tag .busy (u16 s.trace.sequence)) ∧
        t.trace = { s.trace with sequence := t.trace.sequence } ∧
        t.notices.b.traceLost = some
          { count := min 255 ((s.notices.b.traceLost.map (·.count)).getD 0 + 1), sequence := s.trace.sequence, reason := why }) ∧
      (s.triggerRefusal w = none → ∀ i, s.firstFree = some i →
        t.ports = s.ports.set .b (answered tag .ok (u16 s.trace.sequence)) ∧
        t.trace.captures = s.trace.captures ++ [i] ∧
        t.bufferAt i = .filling (openedRecord s w .requested s.trace.sequence) ∧
        ∀ j, j ≠ i → t.bufferAt j = (s.bufferAt j).completed (fun v => v = w) .overlap) := by
  have hrun := Motion.running_of_driven hdriven
  have hframe := State.trigger_only s w .requested
  obtain ⟨hcursor, htag⟩ := State.trigger_kept hrun .requested
  refine ⟨_, exec_traceTrigger hk hdriven, ?_, State.trigger_sequence s w _, State.trigger_rings s w _, hcursor, ?_,
    fun why hwhy => ?_, fun hnone i hfree => ?_⟩
  · exact Only.after (Only.ports _ _) rfl (hframe.mono rfl)
  · show (s.trigger w .requested).timeTag = s.timeTag
    rw [State.timeTag, show (s.trigger w .requested).now = s.now from hframe.same .now (by decide), htag]
    rfl
  · obtain ⟨hstore, hlost⟩ := State.trigger_lost hwhy .requested
    refine ⟨?_, hstore, hlost⟩
    rw [hwhy]
    rfl
  · obtain ⟨hcaptures, -, -, hself, hother⟩ := State.trigger_opened hnone hfree hrun .requested
    refine ⟨?_, hcaptures, hself, fun j hj => (hother j hj).trans ?_⟩
    · rw [hnone]
      rfl
    · exact (Completes.completeFilling s.advanceSequence w .overlap).buffers htrace.recordsAlone j

/-- R144: the part that a TRACE_READ returns. -/
def readPoint (s : State) : Option Cursor :=
  match s.trace.cursor with
  | some c => some c
  | none => s.oldestComplete.map (fun i => ⟨i, 0⟩)

theorem State.ownTraceRead_eq (s : State) : State.ownTraceRead [] s = match readPoint s with
    | some c => s.readPart c
    | none => s.refuse .noRecord := by
  unfold State.ownTraceRead readPoint
  cases s.trace.cursor with
  | some c => rfl
  | none => cases s.oldestComplete <;> rfl

theorem State.advanceCursor_trace (s : State) (i : Fin 8) (part parts : Nat) :
    Only [.trace] s (s.advanceCursor i part parts) ∧
    if parts ≤ part + 1 then (s.advanceCursor i part parts).trace = { s.trace with
        buffers := s.trace.buffers.set i.val .free i.isLt, captures := s.trace.captures.filter (· ≠ i), cursor := none }
      else (s.advanceCursor i part parts).trace = { s.trace with cursor := some ⟨i, part + 1⟩ } := by
  refine ⟨State.advanceCursor_only s i part parts, ?_⟩
  unfold State.advanceCursor
  split <;> rfl

end Requests

/-- Settles O53: a trigger is refused or opens a record; a read returns the part that the cursor, or the oldest COMPLETE record,
gives. -/
theorem traceRequests : Obligations.TraceRequests := by
  refine ⟨fun s tag w hk => ⟨exec_traceTrigger_state hk, fun hdriven htrace fills hfills free hfree => ?_⟩,
    fun s tag hk htrace at_ hat => ?_, fun s tag hk => ⟨?_, ?_, ?_⟩⟩
  · have hfills' : fills = (List.finRange 8).any (s.fillsFor w) := by
      rw [hfills]
      exact congrArg (List.any _) (funext fun i => (s.fillsFor_eq w i).symm)
    have hfree' : free = s.firstFree := by rw [hfree, State.firstFree, eight_eq, State.isFree_eq]
    obtain ⟨t, hexec, hframe, hsequence, hrings, hcursor, htag, hrefused, hopened⟩ := traceTrigger_driven hk hdriven htrace
    have hrefusal := s.triggerRefusal_eq w
    rw [← hfills', ← hfree'] at hrefusal
    refine ⟨t, hexec, hframe, hsequence, hrings, hcursor, htag, fun hcause => hrefused _ ?_, fun hfills i hi => ?_⟩
    · rw [hrefusal]
      split
      · rfl
      next hno => rw [if_pos (hcause.resolve_left hno)]
    · have hnone : s.triggerRefusal w = none := by
        rw [hrefusal, if_neg, if_neg (by simp [hi])]
        rintro ⟨hyes, hoverlap⟩
        simp [hyes, hoverlap] at hfills
      obtain ⟨hports, hcaptures, hself, hother⟩ := hopened hnone i (hfree'.symm.trans hi)
      refine ⟨hports, hcaptures, hself, fun j hj => (hother j hj).trans ?_⟩
      cases s.bufferAt j with
      | filling r => by_cases hw : r.window = w <;> simp [Buffer.completed, hw]
      | free | complete _ _ => rfl
  · have hpoint : at_ = (readPoint s).map (fun c => (c.buffer, c.part)) := by
      rw [hat, readPoint]
      cases s.trace.cursor with
      | some c => rfl
      | none =>
        dsimp only
        refine Eq.trans (congrArg (fun f => (s.trace.captures.find? f).map (·, 0)) (?_ : _ = s.isComplete))
          (Option.map_map (fun c : Cursor => (c.buffer, c.part)) (fun i => ⟨i, 0⟩) s.oldestComplete).symm
        funext i
        unfold State.isComplete
        cases s.bufferAt i <;> rfl
    refine ⟨fun hnone => ?_, fun y hy r x hr parts hparts => ?_⟩
    · have hno : readPoint s = none := Option.map_eq_none_iff.mp (hpoint.symm.trans hnone)
      exact exec_owner_refused (k := .traceRead) hk rfl ((State.ownTraceRead_eq s).trans (by rw [hno]))
    · obtain ⟨c, hc, hcy⟩ := Option.map_eq_some_iff.mp (hpoint.symm.trans hy)
      subst hcy
      have howner : State.ownTraceRead [] s =
          ⟨s.advanceCursor c.buffer c.part parts, .ok, State.partBytes r x c.part⟩ := by
        rw [State.ownTraceRead_eq, hc, hparts]
        exact State.readPart_complete hr
      obtain ⟨hframe, hstore⟩ := State.advanceCursor_trace s c.buffer c.part parts
      have hports : (s.advanceCursor c.buffer c.part parts).ports = s.ports := hframe.same .ports (by decide)
      refine ⟨_, exec_owned (k := .traceRead) hk rfl howner, ?_, ?_, ?_, hstore⟩
      · exact Only.after (Only.ports _ _) rfl (hframe.mono rfl)
      · rw [payloadAt_answered]
        exact congrArg (fun p : Ports PortEngine => p.set .b _) hports
      · rw [payloadAt_answered, hparts, partBytes_eq]
  · exact exec_owned (k := .traceRewind) hk rfl rfl
  · exact exec_owned (k := .traceClear) hk rfl rfl
  · refine ⟨_, exec_owned (k := .timeTagReset) hk rfl rfl, ?_, ?_, rfl, rfl⟩
    · exact Only.after (Only.ports _ _) rfl ((Only.trace s _).mono rfl)
    · show ((s.now - s.now) / 10) % 4294967296 = 0
      rw [Nat.sub_self]

end Sys2Proof.Machine
end

section
/-! The stages of a sample (R111 to R123, R127, R137, R154). -/

namespace Sys2Proof.Machine
open Sys2Proof

/-! ### Arithmetic of the stages (R113 to R119) -/

theorem compensate_eq (i gain : Nat) : compensate i gain = compensated i gain := by
  unfold compensate compensated
  omega

/-- R115: half a step added before the division rounds to the nearest, a half upwards. -/
theorem roundedShift_eq {s : Nat} (h1 : 1 ≤ s) (d : Int) : roundedShift d s = (d + 2 ^ (s - 1)) / 2 ^ s := by
  obtain ⟨n, rfl⟩ : ∃ n, s = n + 1 := ⟨s - 1, by omega⟩
  have hpos : (0 : Int) < 2 ^ n := Int.pow_pos (by decide)
  have hhalf : ∀ x : Int, x / 2 ^ (n + 1) = x / 2 ^ n / 2 := fun x => by
    rw [Int.pow_succ, Int.ediv_ediv_of_nonneg (Int.le_of_lt hpos)]
  have hstep : (d + 2 ^ n) / 2 ^ n = d / 2 ^ n + 1 := by
    simpa using Int.add_mul_ediv_right d 1 (Int.ne_of_gt hpos)
  unfold roundedShift
  rw [Nat.add_sub_cancel]
  push_cast
  rw [hhalf, hhalf, hstep]
  omega

theorem filterStep_eq {s : Nat} (h1 : 1 ≤ s) (f : Option Nat) (ic : Nat) : filterStep f ic s = filtered f ic s := by
  unfold filterStep filtered
  cases f with
  | none => exact Nat.mul_comm ic 16
  | some f =>
    dsimp only
    rw [roundedShift_eq h1, Int.mul_comm (ic : Int) 16]

theorem zoneEffort_eq (zones : Vector (Option ZoneRef) 32) (zs cold : Nat) (p : Option Int) :
    zoneEffort zones (zoneOf zs p) cold = referenceAt zones zs cold p := by
  unfold zoneEffort referenceAt
  cases zoneOf zs p with
  | none => rfl
  | some z =>
    dsimp only [Option.bind_some]
    cases zones[z] <;> rfl

theorem accumulate_eq (a e r d : Nat) : accumulate a ((e : Int) - r) d = (max 0 (min 65535 ((a : Int) + e - r - d))).toNat := by
  unfold accumulate clamp
  rw [← Int.add_sub_assoc]

theorem speedIndicator_eq (zones : Vector (Option ZoneRef) 32) (zs last since : Nat) (p : Option Int) (temp : TempState) :
    speedIndicator zones (zoneOf zs p) last since temp = slowAt zones zs p (max last since) temp := by
  unfold speedIndicator slowAt
  rw [Bool.or_comm]
  congr 1
  cases zoneOf zs p with
  | none => rfl
  | some z =>
    dsimp only [Option.bind_some]
    cases zones[z] with
    | none => rfl
    | some r =>
      exact decide_eq_decide.mpr (by omega)

/-! ### The record of a sample (R123) -/

section Record
variable {s : State} {w : Window} {i v : Nat}

theorem sampleOf_phase : (sampleOf s w i v).phase = if (s.winRec w).startWindow.isSome then .start
    else if (s.winRec w).motion.heldRun.isSome then .run else .reverse := rfl

theorem sampleOf_position : (sampleOf s w i v).position = (s.winRec w).position := rfl

theorem sampleOf_ic : (sampleOf s w i v).ic = s.sampleIc i v := (compensate_eq _ _).symm

theorem sampleOf_phase_start : (sampleOf s w i v).phase = .start ↔ (s.winRec w).startWindow.isSome = true := by
  rw [sampleOf_phase]
  by_cases h : (s.winRec w).startWindow.isSome = true
  · simp only [h, if_true]
  · rw [if_neg h, iff_false_intro h, iff_false]
    split <;> nofun

/-- R111: in START a sample's effort is its current, and the accumulator stands. -/
theorem sampleOf_start (h : (sampleOf s w i v).phase = .start) :
    (sampleOf s w i v).effort = (sampleOf s w i v).ic ∧ (sampleOf s w i v).acc = (s.pinchOf w).acc := by
  rw [sampleOf_phase_start] at h
  exact ⟨if_pos h, if_pos h⟩

/-- R115 to R117: in RUN and REVERSE the effort is the filter's, and the accumulator moves by it against the reference. -/
theorem sampleOf_driven (h : (sampleOf s w i v).phase ≠ .start) :
    (sampleOf s w i v).effort = filtered (s.pinchOf w).filter (sampleOf s w i v).ic (keptCal s w).s / 16 ∧
    (sampleOf s w i v).acc = accumulate (s.pinchOf w).acc
      ((sampleOf s w i v).effort - (referenceAt (s.refsOf w).zones (keptCal s w).zs (keptCal s w).c (s.winRec w).position : Int))
      (keptCal s w).d := by
  rw [ne_eq, sampleOf_phase_start] at h
  exact ⟨if_neg h, (if_neg h).trans (accumulate_eq _ _ _ _).symm⟩

/-- R108: the phase of a sample of a driven window. -/
theorem State.samplePhase_driven (h : (s.winRec w).motion.drivenDir ≠ none) :
    s.samplePhase w = some (sampleOf s w i v).phase := by
  rw [sampleOf_phase]
  unfold State.samplePhase
  dsimp only
  generalize (s.winRec w).motion = m at h ⊢
  cases m with
  | run _ | reverse _ => rfl
  | idle | dwell _ | inhibited => exact absurd rfl h

theorem State.samplePhase_still (h : (s.winRec w).motion.drivenDir = none) : s.samplePhase w = none := by
  unfold State.samplePhase
  dsimp only
  generalize (s.winRec w).motion = m at h ⊢
  cases m with
  | run _ | reverse _ => cases h
  | idle | dwell _ | inhibited => rfl

/-- R114 to R117, R140: the pinch state that a sample `x` leaves. -/
def pinchAfter (s : State) (w : Window) (x : Sample) : PinchState :=
  { s.pinchOf w with
    filter := if x.phase = .start then (s.pinchOf w).filter
      else some (filtered (s.pinchOf w).filter x.ic (keptCal s w).s)
    acc := x.acc, lastTeff := some (thresholdOf (keptCal s w).t (s.winRec w).limited) }

theorem RangeLaw.shift_pos (hs : RangeLaw s) (w : Window) : 1 ≤ (keptCal s w).s := by
  obtain ⟨-, -, -, -, -, h, -⟩ := hs.runCal w
  exact h

/-- R113 to R117: the pinch state after the stages of a sample. -/
theorem State.samplePinch_eq (hs : RangeLaw s) (w : Window) (i v : Nat) :
    s.samplePinch w (sampleOf s w i v).phase (s.sampleIc i v) = pinchAfter s w (sampleOf s w i v) := by
  rw [← sampleOf_ic (w := w)]
  by_cases hstart : (sampleOf s w i v).phase = .start
  · obtain ⟨-, hacc⟩ := sampleOf_start hstart
    unfold pinchAfter State.samplePinch
    rw [hacc, if_pos hstart, hstart]
    rfl
  · obtain ⟨heffort, hacc⟩ := sampleOf_driven hstart
    have hfilter := filterStep_eq (hs.shift_pos w) (s.pinchOf w).filter (sampleOf s w i v).ic
    have hpinch : s.samplePinch w .run (sampleOf s w i v).ic = pinchAfter s w (sampleOf s w i v) := by
      unfold pinchAfter State.samplePinch
      dsimp only
      rw [if_neg hstart, hacc, heffort, ← hfilter, zoneEffort_eq]
      rfl
    cases hphase : (sampleOf s w i v).phase with
    | start => exact absurd hphase hstart
    | run | reverse => exact hpinch

/-- R111 to R119, R123: the record of a sample. -/
theorem State.sampleRecord_eq (hs : RangeLaw s) (w : Window) (i v : Nat) :
    s.sampleRecord w (sampleOf s w i v).phase (s.sampleIc i v) = sampleOf s w i v := by
  have hspeed : s.sampleSpeed w = (sampleOf s w i v).speed := speedIndicator_eq _ _ _ _ _ _
  have heffort : State.sampleEffort (sampleOf s w i v).phase (s.sampleIc i v) (pinchAfter s w (sampleOf s w i v)) =
      (sampleOf s w i v).effort := by
    by_cases hstart : (sampleOf s w i v).phase = .start
    · rw [(sampleOf_start hstart).1, hstart, sampleOf_ic]
      rfl
    · rw [(sampleOf_driven hstart).1]
      have hfilter : (pinchAfter s w (sampleOf s w i v)).filter =
          some (filtered (s.pinchOf w).filter (sampleOf s w i v).ic (keptCal s w).s) := if_neg hstart
      cases hphase : (sampleOf s w i v).phase with
      | start => exact absurd hphase hstart
      | run | reverse =>
        unfold State.sampleEffort
        rw [hfilter]
        rfl
  unfold State.sampleRecord
  dsimp only
  rw [State.samplePinch_eq hs, heffort, hspeed, ← sampleOf_ic (w := w)]
  rfl

end Record

/-! ### What a sample declares and feeds (R120, R127, R154) -/

section Declared
variable {s : State} {w : Window} {i v : Nat}

theorem upRun_driven {m : Motion} (h : m.heldRun.isSome = true) (hd : m.drivenDir ≠ none) :
    upRun m = decide (m.drivenDir = some .up) := by
  cases m with
  | run k => cases h' : k.dir <;> simp [upRun, Motion.drivenDir, h']
  | reverse _ => cases h
  | idle | dwell _ | inhibited => exact absurd rfl hd

theorem sampleOf_run (h : (sampleOf s w i v).phase = .run) : (s.winRec w).motion.heldRun.isSome = true := by
  rw [sampleOf_phase] at h
  split at h
  · cases h
  · split at h
    next hheld => exact hheld
    next => cases h

/-- R120: stage 6 declares what the statement says. -/
theorem State.declares_eq (hd : (s.winRec w).motion.drivenDir ≠ none) :
    s.declares w (sampleOf s w i v) = pinchDeclared s w (sampleOf s w i v) := by
  unfold State.declares pinchDeclared
  dsimp only
  by_cases hrun : (sampleOf s w i v).phase = .run
  · have hzone : ∀ (p : Option Int) (pz : Nat), inPinchZone p pz = p.any (fun p => decide (4 ≤ p) && decide (p ≤ (pz : Int))) :=
      fun p _ => by cases p <;> rfl
    rw [upRun_driven (sampleOf_run hrun) hd, hzone]
    rfl
  · simp [hrun]

/-- R127: the stroke after a sample. -/
def strokeAfter (s : State) (w : Window) (x : Sample) : Option Stroke :=
  (s.refsOf w).stroke.map (fun k =>
    match zoneOf (keptCal s w).zs x.position with
    | some z =>
      if x.phase = .run ∧ (s.winRec w).motion.drivenDir = some .up then
        { k with samples := k.samples.set z.val (some ⟨x.effort, max 1 (s.pinchOf w).lastInterval⟩) z.isLt }
      else k
    | none => k)

end Declared

end Sys2Proof.Machine
end

section
/-! The state that the stages of a sample leave (R111 to R127, R137, R141, R154). -/

namespace Sys2Proof.Machine
open Sys2Proof

/-! ### The stages one by one -/

section Stages
variable {s : State} {w : Window} {x : Sample} {i v : Nat}

theorem State.feedStroke_refs (hd : (s.winRec w).motion.drivenDir ≠ none)
    (hrun : x.phase = .run → (s.winRec w).motion.heldRun.isSome = true) :
    (s.feedStroke w x).refsOf w = { s.refsOf w with stroke := strokeAfter s w x } := by
  have hkept : ∀ r : RefState, { r with stroke := r.stroke.map (fun k => k) } = r := fun r => by
    rw [Option.map_id']
  have hcal : s.runCal w = keptCal s w := rfl
  unfold State.feedStroke strokeAfter
  rw [hcal]
  cases zoneOf (keptCal s w).zs x.position with
  | none => exact (hkept _).symm
  | some z =>
    dsimp only
    by_cases hfeeds : x.phase = .run ∧ (s.winRec w).motion.drivenDir = some .up
    · obtain ⟨hphase, hup⟩ := hfeeds
      rw [if_pos (by rw [upRun_driven (hrun hphase) hd]; simp [hphase, hup]), State.writeZoneSample, State.setRefs_self]
      simp only [hphase, hup, and_self, if_true]
    · have hnot : (decide (x.phase = .run) && upRun (s.winRec w).motion) = false := by
        by_cases hphase : x.phase = .run
        · rw [upRun_driven (hrun hphase) hd]
          simpa [hphase] using hfeeds
        · simp [hphase]
      rw [hnot, if_neg Bool.false_ne_true]
      simp only [if_neg hfeeds]
      exact (hkept _).symm

/-- R154: the overcurrent count of a window after a measurement of `i`. -/
def countNow (s : State) (w : Window) (i : Nat) : Nat :=
  if ocEnabled s (.w w) then countAfter (s.chan (.w w)).ocCount (1023 ≤ i) else (s.chan (.w w)).ocCount

theorem State.nextCount_window (s : State) (w : Window) (i : Nat) :
    s.nextCount (.w w) (min 1023 i) = countAfter (s.chan (.w w)).ocCount (1023 ≤ i) := by
  have hover : overLimit (.w w) (min 1023 i) = decide (1023 ≤ i) := decide_eq_decide.mpr (by omega)
  rw [State.nextCount, hover]
  rfl

theorem State.countCurrent_window (s : State) (w : Window) (i : Nat) :
    s.countCurrent (.w w) (min 1023 i) =
      s.setChan (.w w) { s.chan (.w w) with current := some (min 1023 i), ocCount := countNow s w i } := by
  have henabled : s.enabled (.w w) .overcurrent = ocEnabled s (.w w) := rfl
  unfold State.countCurrent countNow
  rw [← State.nextCount_window, henabled]

/-- R154: the measurement completes the overcurrent count of a window. -/
theorem State.completesCount_window (s : State) (w : Window) (i : Nat) :
    s.completesCount (.w w) (min 1023 i) = (ocEnabled s (.w w) && decide (5 ≤ countNow s w i)) := by
  have henabled : s.enabled (.w w) .overcurrent = ocEnabled s (.w w) := rfl
  unfold State.completesCount countNow
  rw [State.nextCount_window, henabled]
  cases ocEnabled s (.w w) <;> rfl

/-- R137, R141: a record buffer after a sample of window `w`. -/
def Buffer.fed (w : Window) (x : Sample) : Buffer → Buffer
  | .filling r =>
    if r.window = w then
      if 7 ≤ r.post.length then .complete { r with post := r.post ++ [x] } .eight else .filling { r with post := r.post ++ [x] }
    else .filling r
  | .free => .free
  | .complete r y => .complete r y

theorem State.setBuffer_twice (s : State) (i : Fin 8) (b b' : Buffer) : (s.setBuffer i b).setBuffer i b' = s.setBuffer i b' := by
  simp only [State.setBuffer, Vector.set_set]

/-- R137: with no FILLING record a sample joins its ring alone. -/
theorem State.addSample_none (h : s.fillingBuffer w = none) (x : Sample) :
    s.addSample w x = s.setRing w (State.ringAdd (s.trace.rings.get w) x) := by
  have hfill : (s.setRing w (State.ringAdd (s.trace.rings.get w) x)).fillingBuffer w = none := h
  unfold State.addSample
  dsimp only
  rw [hfill]

/-- R137, R141: a sample joins the FILLING record of its window, which its eighth completes. -/
theorem State.addSample_filling {j : Fin 8} {r : TraceRec} (h : s.fillingBuffer w = some j) (hr : s.bufferAt j = .filling r)
    (hw : r.window = w) (x : Sample) : (s.addSample w x).trace =
      ((s.setRing w (State.ringAdd (s.trace.rings.get w) x)).setBuffer j ((Buffer.filling r).fed w x)).trace := by
  obtain ⟨m, hm⟩ : ∃ m, m = s.setRing w (State.ringAdd (s.trace.rings.get w) x) := ⟨_, rfl⟩
  have hfill : m.fillingBuffer w = some j := by rw [hm]; exact h
  have hbuffer : m.bufferAt j = .filling r := by rw [hm]; exact hr
  have hself : (m.setBuffer j (.filling { r with post := r.post ++ [x] })).bufferAt j = .filling { r with post := r.post ++ [x] } :=
    (State.setBuffer_bufferAt ..).trans (if_pos rfl)
  unfold State.addSample
  dsimp only
  rw [← hm, hfill]
  dsimp only
  rw [hbuffer]
  dsimp only
  unfold Buffer.fed
  dsimp only
  rw [if_pos hw]
  by_cases height : 7 ≤ r.post.length
  · rw [if_pos height, if_pos (by omega), State.completeBuffer_filling hself, State.setBuffer_twice]
    rfl
  · rw [if_neg height, if_neg (by omega)]

theorem State.addSample_store (s : State) (w : Window) (x : Sample) :
    (s.addSample w x).trace.sequence = s.trace.sequence ∧
    (s.addSample w x).trace.rings.get w = State.ringAdd (s.trace.rings.get w) x ∧
    (Alone s → ∀ i, (s.addSample w x).bufferAt i = (s.bufferAt i).fed w x) := by
  have hring : (s.trace.rings.set w (State.ringAdd (s.trace.rings.get w) x)).get w = State.ringAdd (s.trace.rings.get w) x :=
    Windows.get_set_self _ _ _
  cases hfill : s.fillingBuffer w with
  | none =>
    rw [State.addSample_none hfill]
    refine ⟨rfl, hring, fun _ i => ?_⟩
    show s.bufferAt i = _
    cases hb : s.bufferAt i with
    | filling r =>
      have hother := State.fillingBuffer_none hfill hb
      exact (if_neg hother).symm
    | free | complete _ _ => rfl
  | some j =>
    obtain ⟨r, hr, hw⟩ := State.fillingBuffer_some hfill
    have htrace := State.addSample_filling hfill hr hw x
    refine ⟨by rw [htrace]; rfl, by rw [htrace]; exact hring, fun halone i => ?_⟩
    have hset : (s.addSample w x).bufferAt i = if i = j then (Buffer.filling r).fed w x else s.bufferAt i := by
      have hat := State.setBuffer_bufferAt (s.setRing w (State.ringAdd (s.trace.rings.get w) x)) j ((Buffer.filling r).fed w x) i
      rw [State.bufferAt, htrace]
      exact hat
    rw [hset]
    split
    next hij => rw [hij, hr]
    next hij =>
      cases hb : s.bufferAt i with
      | filling r' =>
        have hother : r'.window ≠ w := fun hw' => hij (halone i j r' r hb hr (hw'.trans hw.symm))
        exact (if_neg hother).symm
      | free | complete _ _ => rfl

end Stages

/-! ### All of them -/

section Staged
variable {s : State} {w : Window} {x : Sample} {i v : Nat}

/-- R111: the state that the stages of a sample with record `x` leave. -/
def State.staged (s : State) (w : Window) (i : Nat) (x : Sample) : State :=
  (((s.setPinch w (pinchAfter s w x)).feedStroke w x).countCurrent (.w w) (min 1023 i)).addSample w x

theorem State.sample_eq (hs : RangeLaw s) (hd : (s.winRec w).motion.drivenDir ≠ none) (i v : Nat) :
    s.sample w i v = (s.staged w i (sampleOf s w i v)).sampleOutcome w (sampleOf s w i v).position
      (pinchDeclared s w (sampleOf s w i v)) (ocEnabled s (.w w) && decide (5 ≤ countNow s w i)) := by
  unfold State.sample
  rw [State.samplePhase_driven (i := i) (v := v) hd]
  dsimp only
  rw [State.sampleRecord_eq hs, State.samplePinch_eq hs, State.declares_eq hd, State.completesCount_window]
  rfl

/-- R154: a window's channel after a measurement of `i`. -/
def measuredChan (s : State) (w : Window) (i : Nat) : ChannelRec :=
  { s.chan (.w w) with current := some (min 1023 i), ocCount := countNow s w i }

/-- What the stages of a sample leave. -/
structure Staged (s v : State) (w : Window) (i : Nat) (x : Sample) : Prop where
  frame : Only [.pinch, .refs, .mon, .trace, .notices] s v
  pinch : v.pinchOf w = pinchAfter s w x
  refs : v.refsOf w = { s.refsOf w with stroke := strokeAfter s w x }
  mon : v.mon = { s.mon with chans := s.mon.chans.set (.w w) (measuredChan s w i) }
  ring : v.trace.rings.get w = State.ringAdd (s.trace.rings.get w) x
  sequence : v.trace.sequence = s.trace.sequence
  buffers : Alone s → ∀ j, v.bufferAt j = (s.bufferAt j).fed w x

theorem Staged.of_staged (hd : (s.winRec w).motion.drivenDir ≠ none)
    (hrun : x.phase = .run → (s.winRec w).motion.heldRun.isSome = true) (i : Nat) : Staged s (s.staged w i x) w i x := by
  obtain ⟨a, ha⟩ : ∃ a, a = s.setPinch w (pinchAfter s w x) := ⟨_, rfl⟩
  obtain ⟨b, hb⟩ : ∃ b, b = a.feedStroke w x := ⟨_, rfl⟩
  obtain ⟨c, hc⟩ : ∃ c, c = b.setChan (.w w) { b.chan (.w w) with current := some (min 1023 i), ocCount := countNow b w i } :=
    ⟨_, rfl⟩
  have hstaged : s.staged w i x = c.addSample w x := by
    rw [State.staged, State.countCurrent_window, ← ha, ← hb, ← hc]
  have haframe : Only [.pinch] s a := ha ▸ State.setPinch_only s w _
  have hbframe : Only [.refs] a b := hb ▸ State.feedStroke_only a w x
  have hcframe : Only [.mon] b c := hc ▸ State.setChan_only b _ _
  have hadded : Only [.trace, .notices] c (c.addSample w x) := State.addSample_only c w x
  have hsb : Only [.pinch, .refs] s b := Only.after hbframe rfl (haframe.mono rfl)
  have hsc : Only [.pinch, .refs, .mon] s c := Only.after hcframe rfl (hsb.mono rfl)
  have hctrace : c.trace = s.trace := hsc.same .trace (by decide)
  have hbmon : b.mon = s.mon := hsb.same .mon (by decide)
  have hbconfig : b.config = s.config := hsb.same .config (by decide)
  have hbchan : b.chan (.w w) = s.chan (.w w) := by rw [State.chan, hbmon]; rfl
  have hcount : countNow b w i = countNow s w i := by
    unfold countNow ocEnabled
    rw [hbchan, hbconfig]
  have hapinch : a.pinchOf w = pinchAfter s w x := by rw [ha, State.setPinch_self]
  have hstroke : strokeAfter a w x = strokeAfter s w x := by
    have hcal : keptCal a w = keptCal s w := by
      rw [keptCal, hapinch, ha]
      rfl
    unfold strokeAfter
    rw [hcal, hapinch, ha]
    rfl
  have harec : a.winRec w = s.winRec w := by rw [ha]; rfl
  have hbrefs : b.refsOf w = { s.refsOf w with stroke := strokeAfter s w x } := by
    rw [hb, State.feedStroke_refs (by rw [harec]; exact hd) (by rw [harec]; exact hrun), hstroke, ha]
    rfl
  obtain ⟨hsequence, hring, hbuffers⟩ := c.addSample_store w x
  have hbuffer : ∀ j, c.bufferAt j = s.bufferAt j := fun j => by rw [State.bufferAt, hctrace]; rfl
  rw [hstaged]
  refine ⟨Only.after hadded rfl (hsc.mono rfl), ?_, ?_, ?_, ?_, ?_, fun halone j => ?_⟩
  · rw [State.pinchOf, Eq.trans (hadded.same .pinch (by decide))
      (Eq.trans (hcframe.same .pinch (by decide)) (hbframe.same .pinch (by decide)))]
    exact hapinch
  · rw [State.refsOf, Eq.trans (hadded.same .refs (by decide)) (hcframe.same .refs (by decide))]
    exact hbrefs
  · rw [Eq.trans (hadded.same .mon (by decide)) (congrArg State.mon hc), hbchan, hcount, State.setChan, hbmon]
    rfl
  · rw [hring, hctrace]
  · rw [hsequence, hctrace]
  · rw [hbuffers (fun k l r r' hk hl h => halone k l r r' (hbuffer k ▸ hk) (hbuffer l ▸ hl) h) j, hbuffer]

end Staged

end Sys2Proof.Machine
end

section
/-! What a sample gives: a pinch, an overcurrent, both or neither (R102, R120 to R122, R154, R155). -/

namespace Sys2Proof.Machine
open Sys2Proof

/-! ### An overcurrent of a window (R104, R155) -/

section Overcurrent
variable {s t u : State} {w : Window}

theorem State.faultFound_mon (s : State) (ch : Channel) (k : DetectKind) : (s.faultFound ch k).mon = { s.mon with
    chans := s.mon.chans.set ch ((s.chan ch).setResult k .fault), flags := s.mon.flags.put k } := by
  unfold State.faultFound
  dsimp only
  split <;> rfl

theorem State.faultFound_event (ch : Channel) (k : DetectKind) {f : WindowEvents → Bool} (h : eventNamed s.notices w f) :
    eventNamed (s.faultFound ch k).notices w f := by
  unfold State.faultFound
  dsimp only
  split
  · exact h
  · intro p hp
    have hnamed := h p hp
    cases p with
    | b | d => exact hnamed
    | k => exact absurd rfl hp

theorem State.stopMotion_flags (s : State) (w : Window) (m : Motion) (braked : Bool) (x : Completion) :
    (s.stopMotion w m braked x).mon.flags = s.mon.flags := by
  unfold State.stopMotion
  dsimp only
  rw [(State.completeFilling_only _ w x).same .mon (by decide)]
  cases braked <;> rfl

theorem State.stopMotion_sequence (s : State) (w : Window) (m : Motion) (braked : Bool) (x : Completion) :
    (s.stopMotion w m braked x).trace.sequence = s.trace.sequence := by
  unfold State.stopMotion
  dsimp only
  rw [State.completeFilling_trace]
  cases braked <;> rfl

/-- R104: the first cause of a window stops it. -/
theorem State.addCause_stops (hm : (s.winRec w).motion ≠ .inhibited) (k : Cause) : s.addCause w k =
    (s.setWin w { s.winRec w with causes := (s.winRec w).causes.put k true }).stopMotion w .inhibited false .stopped :=
  if_neg hm

/-- R104, R154, R155: what an overcurrent of a window leaves. -/
structure OvercurrentTaken (s t : State) (w : Window) : Prop where
  withdrawn : WindowWithdrawn s t w
  pinchCount : (t.winRec w).pinchCount = (s.winRec w).pinchCount
  sequence : t.trace.sequence = (s.trace.sequence + 1) % 65536
  event : ∀ f, eventNamed s.notices w f → eventNamed t.notices w f

/-- R155: a newly withdrawn window has its bridge switched off and gets the cause FAULT. -/
theorem State.withdraw_fresh (h : (s.chan (.w w)).withdrawn = false) : ∃ m, s.withdraw (.w w) = m.addCause w .fault ∧
    Only [.mon] s m ∧ m.mon.flags = s.mon.flags ∧
    m.chan (.w w) = { (s.chan (.w w)).finished .off with withdrawn := true } := by
  refine ⟨(s.offChan (.w w)).setChan (.w w) { (s.offChan (.w w)).chan (.w w) with withdrawn := true }, ?_, ?_, rfl, ?_⟩
  · unfold State.withdraw
    rw [h]
    rfl
  · exact Only.after (State.setChan_only _ _ _) rfl (State.setChan_only s _ _)
  · rw [State.setChan_self, State.offChan, State.setChan_self]
    rfl

theorem OvercurrentTaken.of_detect (hfresh : (s.chan (.w w)).withdrawn = false) (hm : (s.winRec w).motion ≠ .inhibited) :
    OvercurrentTaken s (s.detectOvercurrent (.w w)) w := by
  obtain ⟨u, hu⟩ : ∃ u, u = s.faultFound (.w w) .overcurrent := ⟨_, rfl⟩
  obtain ⟨a, ha⟩ : ∃ a, a = u.offChan (.w w) := ⟨_, rfl⟩
  have huframe : Only [.mon, .notices] s u := hu ▸ State.faultFound_only s _ _
  have humon := State.faultFound_mon s (.w w) .overcurrent
  rw [← hu] at humon
  have huchan : u.chan (.w w) = (s.chan (.w w)).setResult .overcurrent .fault := by
    simp only [State.chan, humon]
    exact Windows.get_set_self _ _ _
  have hachan : a.chan (.w w) = ((s.chan (.w w)).setResult .overcurrent .fault).finished .off := by
    rw [ha, State.offChan, State.setChan_self, huchan]
    rfl
  have haframe : Only [.mon] u a := ha ▸ State.setChan_only u _ _
  have haflags : a.mon.flags = { s.mon.flags with overcurrent := true } := by
    rw [show a.mon.flags = u.mon.flags by rw [ha]; rfl, humon]
    rfl
  obtain ⟨m, hwithdraw, hmframe, hmflags, hmchan⟩ := State.withdraw_fresh (s := a) (w := w) (by rw [hachan]; exact hfresh)
  have hsm : Only [.mon, .notices] s m := Only.after (Only.after hmframe rfl haframe) rfl huframe
  have hmrec : m.winRec w = s.winRec w := by rw [State.winRec, hsm.same .win (by decide)]; rfl
  obtain ⟨n, hn⟩ : ∃ n, n = m.setWin w { s.winRec w with causes := (s.winRec w).causes.put .fault true } := ⟨_, rfl⟩
  obtain ⟨y, hy⟩ : ∃ y, y = n.stopMotion w .inhibited false .stopped := ⟨_, rfl⟩
  have hdetect : s.detectOvercurrent (.w w) = y.trigger w .overcurrent := by
    have hstop : m.addCause w .fault = y := by
      rw [State.addCause_stops (by rw [hmrec]; exact hm), hmrec, hy, hn]
    unfold State.detectOvercurrent
    dsimp only
    rw [← hu, ← ha, hwithdraw, hstop, hfresh]
    rfl
  have hnframe : Only [.win] m n := hn ▸ State.setWin_only m w _
  have hsn : Only [.win, .mon, .notices] s n := Only.after hnframe rfl (hsm.mono rfl)
  have hsame := SameAt.trigger y w .overcurrent
  have htrigger := State.trigger_only y w .overcurrent
  have hrec : (y.trigger w .overcurrent).winRec w = { s.winRec w with
      causes := (s.winRec w).causes.put .fault true, motion := .inhibited, startWindow := none, stall := none
      stallReached := false, dwell := none, brake := none } := by
    rw [hsame.record, hy, State.stopMotion_winRec, hn, State.setWin_self]
    rfl
  have hchan : (y.trigger w .overcurrent).chan (.w w) = (n.chan (.w w)).finished .off := by
    rw [hsame.chan, hy, State.stopMotion_chan]
    rfl
  have hnchan : n.chan (.w w) = m.chan (.w w) := by rw [hn]; rfl
  have hrefs : (y.trigger w .overcurrent).refsOf w = { s.refsOf w with stroke := none } := by
    rw [hsame.refs, hy, State.stopMotion_refsOf, State.refsOf, hsn.same .refs (by decide)]
    rfl
  have hsequence : (y.trigger w .overcurrent).trace.sequence = (s.trace.sequence + 1) % 65536 := by
    rw [State.trigger_sequence, hy, State.stopMotion_sequence, hsn.same .trace (by decide)]
  have hflags : (y.trigger w .overcurrent).mon.flags = { s.mon.flags with overcurrent := true } := by
    rw [htrigger.same .mon (by decide), hy, State.stopMotion_flags, hnframe.same .mon (by decide), hmflags, haflags]
  have hnotices : n.notices = u.notices :=
    Eq.trans (hnframe.same .notices (by decide)) (Eq.trans (hmframe.same .notices (by decide)) (haframe.same .notices (by decide)))
  rw [hdetect]
  refine ⟨⟨?_, ?_, hflags, ?_⟩, ?_, hsequence, fun f hf => ?_⟩
  · rw [hrec]
    exact ⟨rfl, rfl, rfl, rfl⟩
  · rw [hchan, hnchan, hmchan, hachan]
    exact ⟨rfl, rfl, rfl, rfl⟩
  · rw [hrefs]
  · rw [hrec]
  · have hufound : eventNamed n.notices w f := by
      rw [hnotices, hu]
      exact State.faultFound_event _ _ hf
    refine (TraceNotices.trigger y w .overcurrent).event ?_
    rw [hy]
    exact (TraceNotices.of_readyAlone (ReadyAlone.stopMotion n w .inhibited false .stopped)).event hufound

theorem WindowWithdrawn.seen (h : WindowWithdrawn t u w) (hcauses : (t.winRec w).causes = (s.winRec w).causes)
    (hposition : (t.winRec w).position = (s.winRec w).position) (hnormalised : (t.winRec w).normalised = (s.winRec w).normalised)
    (hflags : t.mon.flags = s.mon.flags) : WindowWithdrawn s u w := by
  obtain ⟨⟨hmotion, hc, hp, hn⟩, hchan, hf, hstroke⟩ := h
  exact ⟨⟨hmotion, hcauses ▸ hc, hp.trans hposition, hn.trans hnormalised⟩, hchan, hflags ▸ hf, hstroke⟩

theorem State.detectOvercurrent_window (s : State) (w : Window) :
    Only [.win, .refs, .trace, .mon, .notices] s (s.detectOvercurrent (.w w)) := by
  have hwithdrawn : Only [.win, .refs, .trace, .mon, .notices] s (((s.faultFound (.w w) .overcurrent).offChan (.w w)).withdraw (.w w)) :=
    Only.after (State.withdraw_only _ _) rfl (Only.after (State.offChan_only _ _) rfl ((State.faultFound_only s _ _).mono rfl))
  unfold State.detectOvercurrent
  dsimp only
  split
  · exact Only.after (State.trigger_only _ w _) rfl hwithdrawn
  · exact hwithdrawn

end Overcurrent

/-! ### What every outcome keeps -/

/-- The ring and the learned zones of a window stand, and no other block than those of an outcome has changed. -/
structure RecordKept (s t : State) (w : Window) : Prop where
  frame : Only [.freeCount, .win, .refs, .trace, .mon, .notices] s t
  ring : t.trace.rings.get w = s.trace.rings.get w
  zones : (t.refsOf w).zones = (s.refsOf w).zones

section Kept
variable {s t u : State} {w : Window}

namespace RecordKept

theorem refl (s : State) (w : Window) : RecordKept s s w := ⟨Only.refl _ s, rfl, rfl⟩

theorem after (k : RecordKept t u w) (h : RecordKept s t w) : RecordKept s u w :=
  ⟨Only.after k.frame rfl h.frame, k.ring.trans h.ring, k.zones.trans h.zones⟩

theorem of_only {ps : List Part} (h : Only ps s t) (hp : ∀ x ∈ ps, x ∈ [Part.freeCount, .win, .mon, .notices] := by decide) :
    RecordKept s t w := by
  have hout : ∀ x, x ∉ [Part.freeCount, .win, .mon, .notices] → x ∉ ps := fun x hx hmem => hx (hp x hmem)
  have hrefs : t.refs = s.refs := h.same .refs (hout _ (by decide))
  have htrace : t.trace = s.trace := h.same .trace (hout _ (by decide))
  have hwide : ∀ x ∈ [Part.freeCount, .win, .mon, .notices],
      x ∈ [Part.freeCount, .win, .refs, .trace, .mon, .notices] := by decide
  refine ⟨⟨fun x hx => h.same x fun hmem => hx (hwide x (hp x hmem))⟩, by rw [htrace], by simp only [State.refsOf, hrefs]⟩

theorem stopMotion (s : State) (w : Window) (m : Motion) (braked : Bool) (x : Completion) :
    RecordKept s (s.stopMotion w m braked x) w :=
  ⟨(State.stopMotion_only s w m braked x).mono rfl, by rw [(Completes.stopMotion s w m braked x).rings],
    by rw [State.stopMotion_refsOf]⟩

theorem trigger (s : State) (w : Window) (k : TriggerKind) : RecordKept s (s.trigger w k) w :=
  ⟨(State.trigger_only s w k).mono rfl, (SameAt.trigger s w k).ring, by rw [(SameAt.trigger s w k).refs]⟩

theorem addCause (s : State) (w : Window) (k : Cause) : RecordKept s (s.addCause w k) w := by
  unfold State.addCause
  dsimp only
  split
  · exact of_only (State.setWin_only s w _)
  · exact (stopMotion _ w _ _ _).after (of_only (State.setWin_only s w _))

theorem detectOvercurrent (s : State) (w : Window) : RecordKept s (s.detectOvercurrent (.w w)) w := by
  have hfound : RecordKept s ((s.faultFound (.w w) .overcurrent).offChan (.w w)) w :=
    (of_only (State.offChan_only _ _)).after (of_only (State.faultFound_only s _ _))
  have hwithdrawn : RecordKept s (((s.faultFound (.w w) .overcurrent).offChan (.w w)).withdraw (.w w)) w := by
    refine RecordKept.after ?_ hfound
    generalize (s.faultFound (.w w) .overcurrent).offChan (.w w) = v
    unfold State.withdraw
    split
    · exact refl v w
    · exact (addCause _ w .fault).after ((of_only (State.setChan_only _ _ _)).after (of_only (State.offChan_only v _)))
  unfold State.detectOvercurrent
  dsimp only
  split
  · exact (trigger _ w _).after hwithdrawn
  · exact hwithdrawn

theorem takeDeclared (s : State) (w : Window) (p : Option Int) : RecordKept s (s.takeDeclared w p) w := by
  unfold State.takeDeclared
  split
  next p =>
    split
    · obtain ⟨⟨-, -, hrefs, hring⟩, -, -⟩ := PinchTaken.of_pinch (SameFor.refl w s) rfl .effort p
      exact ⟨(State.takePinch_only s w _ _).mono rfl, hring, by rw [hrefs]⟩
    · exact refl s w
  · exact refl s w

theorem sampleOutcome (s : State) (w : Window) (p : Option Int) (pinch jam : Bool) :
    RecordKept s (s.sampleOutcome w p pinch jam) w := by
  have hcount : RecordKept s { s with freeCount := s.freeCount + 1 } w := of_only (Only.freeCount s _)
  unfold State.sampleOutcome
  split
  · exact refl s w
  · exact takeDeclared s w p
  · exact detectOvercurrent s w
  · dsimp only
    split
    · exact (detectOvercurrent _ w).after ((takeDeclared _ w p).after hcount)
    · exact (takeDeclared _ w p).after ((detectOvercurrent _ w).after hcount)

end RecordKept

end Kept

end Sys2Proof.Machine
end

section
/-! A 2 ms sample of a window (R111 to R123, R127, R137, R141, R154). -/

namespace Sys2Proof.Machine
open Sys2Proof

section Sampled
variable {s v : State} {w : Window} {i : Nat} {x : Sample}

/-! ### The window after the stages -/

namespace Staged

theorem record (h : Staged s v w i x) : v.winRec w = s.winRec w := by
  rw [State.winRec, h.frame.same .win (by decide)]
  rfl

theorem chan (h : Staged s v w i x) : v.chan (.w w) = measuredChan s w i := by
  rw [State.chan, h.mon]
  exact Windows.get_set_self _ _ _

theorem keptCal (h : Staged s v w i x) : Sys2Proof.Machine.keptCal v w = Sys2Proof.Machine.keptCal s w := by
  have hconfig : v.config = s.config := h.frame.same .config (by decide)
  rw [Sys2Proof.Machine.keptCal, h.pinch, State.calOf, hconfig]
  rfl

theorem freeCount (h : Staged s v w i x) : v.freeCount = s.freeCount := h.frame.same .freeCount (by decide)

theorem now (h : Staged s v w i x) : v.now = s.now := h.frame.same .now (by decide)

end Staged

/-! ### The outcomes (R121, R122) -/

/-- R120: a declared pinch has a position, in an up-run. -/
theorem pinchDeclared_up (h : pinchDeclared s w x = true) (hrun : x.phase = .run → (s.winRec w).motion.heldRun.isSome = true) :
    (∃ p, x.position = some p) ∧ upRun (s.winRec w).motion = true := by
  unfold pinchDeclared at h
  simp only [Bool.and_eq_true, decide_eq_true_eq] at h
  obtain ⟨⟨⟨⟨⟨hphase, hup⟩, -⟩, hposition⟩, -⟩, -⟩ := h
  refine ⟨?_, ?_⟩
  · cases hx : x.position with
    | none =>
      rw [hx] at hposition
      cases hposition
    | some p => exact ⟨p, rfl⟩
  · rw [upRun_driven (hrun hphase) (by rw [hup]; nofun), hup]
    rfl

theorem State.takeDeclared_up (h : upRun (s.winRec w).motion = true) (p : Int) :
    s.takeDeclared w (some p) = s.takePinch w .effort p := if_pos h

theorem State.takeDeclared_not (h : upRun (s.winRec w).motion = false) (p : Option Int) : s.takeDeclared w p = s := by
  cases p with
  | none => rfl
  | some p => exact if_neg (by simp [h])

theorem State.takePinch_flags (s : State) (w : Window) (c : PinchCause) (p : Int) : (s.takePinch w c p).mon.flags = s.mon.flags := by
  unfold State.takePinch
  dsimp only
  rw [(State.trigger_only _ w _).same .mon (by decide)]
  rfl

/-- R121: a pinch that a sample declares is taken. -/
theorem sample_pinched (h : Staged s v w i x) (hup : upRun (s.winRec w).motion = true) {p : Int} (hp : x.position = some p)
    {t : State} (ht : t = v.takeDeclared w x.position) : t.freeCount = s.freeCount ∧
      t.winRec w = { s.winRec w with
        motion := .dwell (.reverse (min (p + (keptCal s w).reversal) (keptCal s w).l)), startWindow := none
        stall := none, stallReached := false, dwell := some (s.now + 500), brake := none
        pinchCount := min 3 ((s.winRec w).pinchCount + 1)
        limited := (s.winRec w).limited || decide (2 ≤ (s.winRec w).pinchCount) } ∧
      (t.chan (.w w)).drive = .brake ∧ (t.refsOf w).stroke = none ∧
      eventNamed t.notices w (fun e => decide (e.pinch = some .effort)) ∧
      t.trace.sequence = (s.trace.sequence + 1) % 65536 := by
  have htaken : t = v.takePinch w .effort p := by
    rw [ht, hp]
    exact State.takeDeclared_up (by rw [h.record]; exact hup) p
  have hframe : Only [.win, .refs, .trace, .mon, .notices] v t := htaken ▸ State.takePinch_only v w _ p
  obtain ⟨⟨hrecord, hbridge, hrefs, -⟩, hevent, hsequence⟩ := PinchTaken.of_pinch (SameFor.refl w v) rfl .effort p
  rw [← htaken] at hrecord hbridge hrefs hevent hsequence
  refine ⟨Eq.trans (hframe.same .freeCount (by decide)) h.freeCount, ?_, ?_, ?_, hevent, ?_⟩
  · rw [hrecord, h.record, h.keptCal, show t.now = s.now from Eq.trans (hframe.same .now (by decide)) h.now]
  · rw [hbridge]
    rfl
  · rw [hrefs]
  · rw [hsequence, h.sequence]

/-- R122, R155: an overcurrent with no pinch withdraws the channel. -/
theorem sample_overcurrent (h : Staged s v w i x) (hfresh : (s.chan (.w w)).withdrawn = false)
    (hm : (s.winRec w).motion ≠ .inhibited) {t : State} (ht : t = v.detectOvercurrent (.w w)) :
    WindowWithdrawn s t w ∧ t.freeCount = s.freeCount ∧ (t.winRec w).pinchCount = (s.winRec w).pinchCount ∧
      t.trace.sequence = (s.trace.sequence + 1) % 65536 := by
  have htaken := OvercurrentTaken.of_detect (s := v) (w := w) (by rw [h.chan]; exact hfresh) (by rw [h.record]; exact hm)
  have hframe := v.detectOvercurrent_window w
  rw [← ht] at htaken hframe
  refine ⟨htaken.withdrawn.seen ?_ ?_ ?_ ?_, Eq.trans (hframe.same .freeCount (by decide)) h.freeCount, ?_, ?_⟩
  · rw [h.record]
  · rw [h.record]
  · rw [h.record]
  · rw [h.mon]
  · rw [htaken.pinchCount, h.record]
  · rw [htaken.sequence, h.sequence]

/-- R122: a sample that does both draws the free value, which decides whether the pinch is taken before the channel is
withdrawn, or not at all. -/
theorem sample_both (h : Staged s v w i x) (hup : upRun (s.winRec w).motion = true) {p : Int} (hp : x.position = some p)
    (hfresh : (s.chan (.w w)).withdrawn = false) (hm : (s.winRec w).motion ≠ .inhibited) {t : State}
    (ht : t = v.sampleOutcome w x.position true true) : WindowWithdrawn s t w ∧ t.freeCount = s.freeCount + 1 ∧
      if Config.pinchTakenFirst s.freeCount = true then
        (t.winRec w).pinchCount = min 3 ((s.winRec w).pinchCount + 1) ∧
        eventNamed t.notices w (fun e => decide (e.pinch = some .effort))
      else (t.winRec w).pinchCount = (s.winRec w).pinchCount := by
  obtain ⟨c, hc⟩ : ∃ c, c = { v with freeCount := v.freeCount + 1 } := ⟨_, rfl⟩
  have hcrec : c.winRec w = s.winRec w := by rw [hc]; exact h.record
  have hcchan : c.chan (.w w) = measuredChan s w i := by rw [hc]; exact h.chan
  have hcflags : c.mon.flags = s.mon.flags := by
    have hmon : c.mon = v.mon := by rw [hc]
    rw [hmon, h.mon]
  have hccount : c.freeCount = s.freeCount + 1 := by rw [hc, ← h.freeCount]
  have houtcome : t = if Config.pinchTakenFirst s.freeCount then (c.takeDeclared w (some p)).detectOvercurrent (.w w)
      else (c.detectOvercurrent (.w w)).takeDeclared w (some p) := by
    rw [ht, hp, hc, ← h.freeCount]
    rfl
  by_cases hfirst : Config.pinchTakenFirst s.freeCount = true
  · rw [if_pos hfirst] at houtcome ⊢
    obtain ⟨a, ha⟩ : ∃ a, a = c.takePinch w .effort p := ⟨_, rfl⟩
    rw [State.takeDeclared_up (by rw [hcrec]; exact hup), ← ha] at houtcome
    obtain ⟨⟨hrecord, hbridge, -, -⟩, hevent, -⟩ := PinchTaken.of_pinch (SameFor.refl w c) rfl .effort p
    rw [← ha, hcrec] at hrecord
    rw [← ha, hcchan] at hbridge
    rw [← ha] at hevent
    have haflags : a.mon.flags = s.mon.flags := by rw [ha, State.takePinch_flags, hcflags]
    have haframe : Only [.win, .refs, .trace, .mon, .notices] c a := ha ▸ State.takePinch_only c w _ p
    have htaken := OvercurrentTaken.of_detect (s := a) (w := w) (by rw [hbridge]; exact hfresh) (by rw [hrecord]; nofun)
    have hframe := a.detectOvercurrent_window w
    rw [← houtcome] at htaken hframe
    refine ⟨htaken.withdrawn.seen ?_ ?_ ?_ haflags,
      Eq.trans (hframe.same .freeCount (by decide)) (Eq.trans (haframe.same .freeCount (by decide)) hccount), ?_, htaken.event _ hevent⟩
    · rw [hrecord]
    · rw [hrecord]
    · rw [hrecord]
    · rw [htaken.pinchCount, hrecord]
  · rw [if_neg hfirst] at houtcome ⊢
    have htaken := OvercurrentTaken.of_detect (s := c) (w := w) (by rw [hcchan]; exact hfresh) (by rw [hcrec]; exact hm)
    have hframe := c.detectOvercurrent_window w
    have hmotion := htaken.withdrawn.state.1
    rw [State.takeDeclared_not (by rw [hmotion]; rfl)] at houtcome
    rw [← houtcome] at htaken hframe
    refine ⟨htaken.withdrawn.seen ?_ ?_ ?_ hcflags, Eq.trans (hframe.same .freeCount (by decide)) hccount, ?_⟩
    · rw [hcrec]
    · rw [hcrec]
    · rw [hcrec]
    · rw [htaken.pinchCount, hcrec]

end Sampled

/-- Settles O51: the stages leave the pinch state, the ring, the record buffers, the stroke and the count; what the sample declares
and completes then decides between no outcome, a pinch, an overcurrent and both. -/
theorem windowSample : Obligations.WindowSample := by
  intro s w i v hl
  have hexec : exec (.windowSample w i v) s = .next (s.sample w i v) :=
    congrArg Host.Outcome.next (State.live_of_not_held hl _)
  refine ⟨fun hstill => ?_, fun hd hrange x hx n hn jam hjam => ?_⟩
  · rw [hexec, State.sample, State.samplePhase_still hstill]
  have hrun : x.phase = .run → (s.winRec w).motion.heldRun.isSome = true := hx ▸ sampleOf_run
  have hm : (s.winRec w).motion ≠ .inhibited := fun h => hd (by rw [h]; rfl)
  obtain ⟨u, hu⟩ : ∃ u, u = s.staged w i x := ⟨_, rfl⟩
  have hstaged : Staged s u w i x := hu ▸ Staged.of_staged hd hrun i
  have hjam' : jam = (ocEnabled s (.w w) && decide (5 ≤ countNow s w i)) := by rw [hjam, hn]; rfl
  obtain ⟨t, ht⟩ : ∃ t, t = u.sampleOutcome w x.position (pinchDeclared s w x) jam := ⟨_, rfl⟩
  have hsample : s.sample w i v = t := by rw [State.sample_eq hrange hd, ht, hu, hjam', hx]
  have hkept : RecordKept u t w := ht ▸ RecordKept.sampleOutcome u w _ _ _
  refine ⟨t, by rw [hexec, hsample], ?_, hsample ▸ OnlyWindow.sample s w i v, ?_, ?_, ?_, fun hpinch hno => ?_,
    fun hpinch hno => ?_, fun hyes hfresh => ?_⟩
  · exact Only.after hkept.frame rfl (hstaged.frame.mono rfl)
  · rw [State.pinchOf, hkept.frame.same .pinch (by decide)]
    exact hstaged.pinch
  · rw [hkept.ring, hstaged.ring, State.ringAdd, List.length_append, List.length_singleton]
    congr 1
  · rw [hkept.zones, hstaged.refs]
  · rw [hpinch, hno] at ht
    have htu : t = u := ht
    refine ⟨?_, ?_, fun htrace j => ?_, ?_, ?_, ?_⟩
    · rw [htu, hstaged.freeCount]
    · rw [htu, hstaged.record]
    · rw [htu, hstaged.buffers htrace.recordsAlone]
      cases s.bufferAt j <;> rfl
    · rw [htu, hstaged.sequence]
    · rw [htu, hstaged.chan, hn]
      rfl
    · rw [htu, hstaged.refs]
      rfl
  · rw [hpinch, hno] at ht
    obtain ⟨⟨p, hp⟩, hup⟩ := pinchDeclared_up hpinch hrun
    have hpinched := sample_pinched hstaged hup hp ht
    refine ⟨hpinched.1, fun q hq => ?_⟩
    rw [hp] at hq
    cases hq
    exact hpinched.2
  · rw [hyes] at ht
    by_cases hpinch : pinchDeclared s w x = true
    · obtain ⟨⟨p, hp⟩, hup⟩ := pinchDeclared_up hpinch hrun
      rw [hpinch] at ht
      rw [if_pos hpinch]
      exact sample_both hstaged hup hp hfresh hm ht
    · rw [if_neg hpinch]
      rw [Bool.not_eq_true] at hpinch
      rw [hpinch] at ht
      exact sample_overcurrent hstaged hfresh hm ht

end Sys2Proof.Machine
end
